-- ==== Sys2Proof/Word.lean ====
section
/-!
DEFINITION. The identities of the booth (stations S1 to S6, houses H1 to H3), the containers that hold one
record for each of them, console text, and the plainest arithmetic of the manual's "Arithmetic" convention
(00_scope.md: floor, ceil, trunc, saturate, clamp).
-/

namespace Sys2Proof

/-- Console text: characters in the order in which they go over the line. -/
abbrev Text := List Char

/-- The six projector stations; lamps and arc channels take the number of their station (00_scope.md). -/
inductive StationId where
  | s1 | s2 | s3 | s4 | s5 | s6
deriving DecidableEq, Repr

/-- The three houses. -/
inductive HouseId where
  | h1 | h2 | h3
deriving DecidableEq, Repr

/-- The station's number, 1 to 6. -/
def StationId.number : StationId → Nat
  | .s1 => 1 | .s2 => 2 | .s3 => 3 | .s4 => 4 | .s5 => 5 | .s6 => 6

/-- The house's number, 1 to 3. -/
def HouseId.number : HouseId → Nat
  | .h1 => 1 | .h2 => 2 | .h3 => 3

/-- The stations in numerical order. -/
def StationId.all : List StationId := [.s1, .s2, .s3, .s4, .s5, .s6]

/-- The houses in numerical order. -/
def HouseId.all : List HouseId := [.h1, .h2, .h3]

/-- The station a number names, if it is 1 to 6. -/
def StationId.ofInt? (n : Int) : Option StationId :=
  StationId.all.find? fun i => (i.number : Int) == n

/-- The house a number names, if it is 1 to 3. -/
def HouseId.ofInt? (n : Int) : Option HouseId :=
  HouseId.all.find? fun h => (h.number : Int) == n

/-- One record for each station. -/
structure PerStation (α : Type) where
  s1 : α
  s2 : α
  s3 : α
  s4 : α
  s5 : α
  s6 : α
deriving DecidableEq, Repr

/-- One record for each house. -/
structure PerHouse (α : Type) where
  h1 : α
  h2 : α
  h3 : α
deriving DecidableEq, Repr

def PerStation.get {α : Type} (p : PerStation α) : StationId → α
  | .s1 => p.s1 | .s2 => p.s2 | .s3 => p.s3 | .s4 => p.s4 | .s5 => p.s5 | .s6 => p.s6

def PerStation.set {α : Type} (p : PerStation α) (i : StationId) (x : α) : PerStation α :=
  match i with
  | .s1 => { p with s1 := x } | .s2 => { p with s2 := x } | .s3 => { p with s3 := x }
  | .s4 => { p with s4 := x } | .s5 => { p with s5 := x } | .s6 => { p with s6 := x }

/-- One record built for each station. -/
def PerStation.build {α : Type} (f : StationId → α) : PerStation α :=
  { s1 := f .s1, s2 := f .s2, s3 := f .s3, s4 := f .s4, s5 := f .s5, s6 := f .s6 }

def PerHouse.get {α : Type} (p : PerHouse α) : HouseId → α
  | .h1 => p.h1 | .h2 => p.h2 | .h3 => p.h3

def PerHouse.set {α : Type} (p : PerHouse α) (h : HouseId) (x : α) : PerHouse α :=
  match h with
  | .h1 => { p with h1 := x } | .h2 => { p with h2 := x } | .h3 => { p with h3 := x }

/-- One record built for each house. -/
def PerHouse.build {α : Type} (f : HouseId → α) : PerHouse α :=
  { h1 := f .h1, h2 := f .h2, h3 := f .h3 }

/-- A clamped value is replaced by the nearer end of its range (00_scope.md, Arithmetic). -/
def clampInt (lo hi x : Int) : Int :=
  if x < lo then lo else if hi < x then hi else x

/-- Rounding a quotient up. -/
def ceilDiv (a b : Nat) : Nat := (a + b - 1) / b

end Sys2Proof
end

