-- ==== Sys2Proof/Syntax.lean ====
section
/-!
DEFINITION. The commands of the block: one constructor of `Instr` for each row of spec/opcode_table.json,
with the row's operands. The first group are the events that reach the controller from its inputs and its
interval timers; the second are the console lines, each as the command that the line unit passes to the block
that owns it (R173), with its arguments in the forms of the command table (10_the_console_line.md).
-/

namespace Sys2Proof

/-- The state of a switch contact or strap. -/
inductive Contact where
  | closed | opened
deriving DecidableEq, Repr

/-- The tach direction phase (R9). -/
inductive Direction where
  | forward | reverse
deriving DecidableEq, Repr

/-- The two door switches of a station (R14). -/
inductive Door where
  | ld | md
deriving DecidableEq, Repr

/-- The interlock mode of a door (R14). -/
inductive DoorMode where
  | enforce | advisory
deriving DecidableEq, Repr

/-- The cue source of a reel entry (R25). -/
inductive CueSource where
  | footage | sensor | first
deriving DecidableEq, Repr

/-- The order mode of the arbiter (R110). -/
inductive OrderMode where
  | fixed | rotate
deriving DecidableEq, Repr

/-- The feed mode of a lamp (R90, R91). -/
inductive FeedMode where
  | step | burst
deriving DecidableEq, Repr

/-- The booth trip inputs (R152, R157). -/
inductive BoothInput where
  | fa | mt | fl
deriving DecidableEq, Repr

/-- The trip inputs that can be qualified closed again (R152). -/
inductive TripInput where
  | gh (s : StationId)
  | lt (s : StationId)
  | fb (s : StationId)
  | booth (b : BoothInput)
deriving DecidableEq, Repr

/-- The four conversions of one quantity made in one sample period (R81), as measured values in counts
(0.5 V or 1 A) before the converter's full scale is applied (R80). -/
structure Conversions where
  c1 : Nat
  c2 : Nat
  c3 : Nat
  c4 : Nat
deriving DecidableEq, Repr

/-- The trim straps ID-A and ID-B of one station (R1). -/
structure TrimStraps where
  idA : Contact
  idB : Contact
deriving DecidableEq, Repr

/-- The mains frequency strap (R71). -/
inductive MainsStrap where
  | hz50 | hz60
deriving DecidableEq, Repr

/-- The levels of every strap of the carrier board (00_scope.md, Field connections). -/
structure Straps where
  trim   : PerStation TrimStraps
  mains  : MainsStrap
  speedA : Contact
  speedB : Contact
  format : Contact
  echo   : Contact
deriving DecidableEq, Repr

/-- An optional field of a PA or PI line (R181), as written. -/
inductive EntryField where
  | first (frame : Int)
  | change (frame : Int)
  | motor (frame : Int)
  | cue (source : CueSource)
  | stop (on : Bool)
  | ms (level time : Int)
  | pi (level time : Int)
  | en (level time : Int)
deriving DecidableEq, Repr

/-- The entry fields of a PA or PI line in the order of the line (R181). -/
structure EntryArgs where
  label  : Text
  length : Int
  fields : List EntryField
deriving DecidableEq, Repr

/-- The setting word and value of an HS line (R68). -/
inductive SettingArg where
  | lead (seconds : Int)
  | margin (seconds : Int)
  | level (perMille : Int)
  | fade (ms : Int)
  | restrike (on : Bool)
deriving DecidableEq, Repr

/-- The arguments of an AT line after the house (R74). -/
inductive AlarmArg where
  | off
  | arm (hh mm : Int)
deriving DecidableEq, Repr

/-- The parameter word and value of an LP line (R97, R99). -/
inductive ParamArg where
  | vset (code : Int)
  | dead (codes : Int)
  | gain (k : Int)
  | thr (t : Int)
  | mode (m : FeedMode)
  | default
deriving DecidableEq, Repr

/-- The arguments of an LV line after the house (R142, R143). -/
inductive LightArg where
  | query
  | level (level : Int)
  | fade (level time : Int)
deriving DecidableEq, Repr

/-- The commands of the controller, one per row of spec/opcode_table.json, in the table's order. -/
inductive Instr where
  | powerOn (straps : Straps)
  | tachPulse (s : StationId) (dir : Direction) (interval : Nat)
  | runUpLimit (s : StationId)
  | stall (s : StationId)
  | stopTimer (s : StationId)
  | resetHoldEnd (s : StationId) (straps : TrimStraps)
  | ldQualified (s : StationId) (c : Contact)
  | mdQualified (s : StationId) (c : Contact)
  | cuClosing (s : StationId)
  | cbClosing (h : HouseId)
  | pdChange (h : HouseId) (c : Contact)
  | ghOpen (s : StationId)
  | ltOpen (s : StationId)
  | fbOpen (s : StationId)
  | boothTripInput (b : BoothInput)
  | releasePulseEnd (h : HouseId)
  | mainsCycle
  | clockSecond
  | lampWaitTimeout (h : HouseId)
  | strikePulseEnd (s : StationId)
  | rechargeEnd
  | regulationSample (s : StationId) (volts amps : Conversions)
  | jogStep (s : StationId)
  | bucketClose (s : StationId)
  | fadeUpdate (h : HouseId)
  | characterReceived (frame : BitVec 8) (stop : Bool)
  | characterTimeout
  | replyEnd
  | sq (s : Int)
  | mo (s : Int) (on : Bool)
  | doDouser (s : Int) (toOpen : Bool)
  | im (s : Int) (door : Door) (mode : DoorMode)
  | sr (s : Int)
  | sa (s h : Int)
  | pa (h : Int) (e : EntryArgs)
  | pi (h n : Int) (e : EntryArgs)
  | pd (h n : Int)
  | pc (h : Int)
  | pq (h n : Int)
  | th (s n : Int)
  | ut (s : Int)
  | go (h : Int)
  | en (h : Int)
  | co (h : Int)
  | hq (h : Int)
  | hf (h : Int)
  | ha (h : Int)
  | hs (h : Int) (arg : Option SettingArg)
  | ck (hh mm : Int) (ss : Option Int)
  | cq
  | atAlarm (h : Int) (arg : AlarmArg)
  | ls (s : Int)
  | lx (s : Int)
  | lc (s length : Int)
  | lf (s n : Int)
  | lp (s : Int) (arg : ParamArg)
  | lq (s : Int)
  | sp (mode : Option OrderMode)
  | lv (h : Int) (arg : LightArg)
  | lr (h : Int)
  | pu
  | fq
  | fc
  | ft
  | ss
  | ak
  | rs
  | tripInputQualifiedClosed (input : TripInput)
deriving DecidableEq, Repr

/-- The rows that are console lines; the others are events of the inputs and timers. -/
def Instr.isConsole : Instr → Bool
  | .powerOn _ | .tachPulse _ _ _ | .runUpLimit _ | .stall _ | .stopTimer _ | .resetHoldEnd _ _
  | .ldQualified _ _ | .mdQualified _ _ | .cuClosing _ | .cbClosing _ | .pdChange _ _ | .ghOpen _
  | .ltOpen _ | .fbOpen _ | .boothTripInput _ | .releasePulseEnd _ | .mainsCycle | .clockSecond
  | .lampWaitTimeout _ | .strikePulseEnd _ | .rechargeEnd | .regulationSample _ _ _ | .jogStep _
  | .bucketClose _ | .fadeUpdate _ | .characterReceived _ _ | .characterTimeout | .replyEnd
  | .tripInputQualifiedClosed _ => false
  | .sq _ | .mo _ _ | .doDouser _ _ | .im _ _ _ | .sr _ | .sa _ _ | .pa _ _ | .pi _ _ _ | .pd _ _
  | .pc _ | .pq _ _ | .th _ _ | .ut _ | .go _ | .en _ | .co _ | .hq _ | .hf _ | .ha _ | .hs _ _
  | .ck _ _ _ | .cq | .atAlarm _ _ | .ls _ | .lx _ | .lc _ _ | .lf _ _ | .lp _ _ | .lq _ | .sp _
  | .lv _ _ | .lr _ | .pu | .fq | .fc | .ft | .ss | .ak | .rs => true

end Sys2Proof
end

