-- ==== Sys2Proof/WellFormed.lean ====
section
/-!
DEFINITION. The static checks on a command: a console line carries only what a line can spell (R173, R181,
R25): numbers of at most six digits, a label of 1 to 6 capital letters and digits, each optional field at most
once. Events of the inputs and timers carry nothing to check.
-/

namespace Sys2Proof

/-- A number a line can write: one to six decimal digits, perhaps with a minus sign (R173). -/
def numberOk (n : Int) : Bool := n.natAbs ≤ 999999

/-- A capital letter A to Z. -/
def isCapital (c : Char) : Bool := 'A'.toNat ≤ c.toNat && c.toNat ≤ 'Z'.toNat

/-- A decimal digit. -/
def isDecimal (c : Char) : Bool := '0'.toNat ≤ c.toNat && c.toNat ≤ '9'.toNat

/-- A label is 1 to 6 characters, each A to Z or 0 to 9 (R25). -/
def labelOk (l : Text) : Bool :=
  0 < l.length && l.length ≤ 6 && l.all fun c => isCapital c || isDecimal c

/-- Which field an entry field word names; each may be given at most once (R181). -/
def EntryField.slot : EntryField → Nat
  | .first _ => 0 | .change _ => 1 | .motor _ => 2 | .cue _ => 3
  | .stop _ => 4 | .ms _ _ => 5 | .pi _ _ => 6 | .en _ _ => 7

/-- No field word is given twice (R181). -/
def fieldsOnce : List EntryField → Bool
  | [] => true
  | f :: fs => (fs.all fun g => g.slot != f.slot) && fieldsOnce fs

def EntryField.numbersOk : EntryField → Bool
  | .first n | .change n | .motor n => numberOk n
  | .cue _ | .stop _ => true
  | .ms l t | .pi l t | .en l t => numberOk l && numberOk t

def EntryArgs.wellFormed (e : EntryArgs) : Bool :=
  labelOk e.label && numberOk e.length && fieldsOnce e.fields && e.fields.all EntryField.numbersOk

def SettingArg.wellFormed : SettingArg → Bool
  | .lead n | .margin n | .level n | .fade n => numberOk n
  | .restrike _ => true

def AlarmArg.wellFormed : AlarmArg → Bool
  | .off => true
  | .arm hh mm => numberOk hh && numberOk mm

def ParamArg.wellFormed : ParamArg → Bool
  | .vset n | .dead n | .gain n | .thr n => numberOk n
  | .mode _ | .default => true

def LightArg.wellFormed : LightArg → Bool
  | .query => true
  | .level l => numberOk l
  | .fade l t => numberOk l && numberOk t

/-- A command that its source can send. -/
def Instr.wellFormed : Instr → Bool
  | .powerOn _ | .tachPulse _ _ _ | .runUpLimit _ | .stall _ | .stopTimer _ | .resetHoldEnd _ _
  | .ldQualified _ _ | .mdQualified _ _ | .cuClosing _ | .cbClosing _ | .pdChange _ _ | .ghOpen _
  | .ltOpen _ | .fbOpen _ | .boothTripInput _ | .releasePulseEnd _ | .mainsCycle | .clockSecond
  | .lampWaitTimeout _ | .strikePulseEnd _ | .rechargeEnd | .regulationSample _ _ _ | .jogStep _
  | .bucketClose _ | .fadeUpdate _ | .characterReceived _ _ | .characterTimeout | .replyEnd
  | .tripInputQualifiedClosed _ => true
  | .cq | .sp _ | .pu | .fq | .fc | .ft | .ss | .ak | .rs => true
  | .sq s | .sr s | .ut s | .ls s | .lx s | .lq s => numberOk s
  | .mo s _ | .doDouser s _ | .im s _ _ => numberOk s
  | .pc h | .go h | .en h | .co h | .hq h | .hf h | .ha h | .lr h => numberOk h
  | .sa a b | .pd a b | .pq a b | .th a b | .lc a b | .lf a b => numberOk a && numberOk b
  | .pa h e => numberOk h && e.wellFormed
  | .pi h n e => numberOk h && numberOk n && e.wellFormed
  | .hs h arg => numberOk h && arg.all SettingArg.wellFormed
  | .ck hh mm sec => numberOk hh && numberOk mm && sec.all numberOk
  | .atAlarm h arg => numberOk h && arg.wellFormed
  | .lp s arg => numberOk s && arg.wellFormed
  | .lv h arg => numberOk h && arg.wellFormed

end Sys2Proof
end

