-- ==== Sys2Proof/Machine/Text.lean ====
section
/-!
DEFINITION. Console text: decimal numbers (R173, R182), times of day, words joined by single spaces.
-/

namespace Sys2Proof.Machine

/-- The decimal digit of a number below 10. -/
def digitChar (d : Nat) : Char := Char.ofNat ('0'.toNat + d)

/-- The decimal digits of a number, the least significant one first. -/
def digitsRev : Nat → Nat → Text
  | 0, n => [digitChar (n % 10)]
  | fuel + 1, n => if n < 10 then [digitChar n] else digitChar (n % 10) :: digitsRev fuel (n / 10)

/-- A number in decimal without separators (R182). -/
def decimal (n : Nat) : Text := (digitsRev n n).reverse

/-- An integer, with its minus sign when negative (R173, R182). -/
def decimalInt (n : Int) : Text :=
  if n < 0 then '-' :: decimal n.natAbs else decimal n.natAbs

/-- A number below 100 in two digits. -/
def twoDigits (n : Nat) : Text := [digitChar (n / 10 % 10), digitChar (n % 10)]

/-- A time of day, held as seconds since 00:00:00, written hh:mm:ss (R182). -/
def timeText (t : Nat) : Text :=
  twoDigits (t / 3600) ++ ':' :: twoDigits (t / 60 % 60) ++ ':' :: twoDigits (t % 60)

/-- Words separated by single spaces (R182). -/
def joinWords : List Text → Text
  | [] => []
  | [w] => w
  | w :: ws => w ++ ' ' :: joinWords ws

/-- A station is written S1 to S6 (R182). -/
def stationText (i : StationId) : Text := 'S' :: decimal i.number

/-- A house is written H1 to H3 (R182). -/
def houseText (h : HouseId) : Text := 'H' :: decimal h.number

/-- A running-order position is written P1 to P12 (R182). -/
def positionText (n : Nat) : Text := 'P' :: decimal n

/-- An item that is absent is written NONE (R182). -/
def orNone {α : Type} (f : α → Text) : Option α → Text
  | none => "NONE".toList
  | some x => f x

def onOffText (b : Bool) : Text := if b then "ON".toList else "OFF".toList

def setClearText (b : Bool) : Text := if b then "SET".toList else "CLEAR".toList

def openClosedText (isOpen : Bool) : Text := if isOpen then "OPEN".toList else "CLOSED".toList

def contactText : Contact → Text
  | .closed => "CLOSED".toList
  | .opened => "OPEN".toList

end Sys2Proof.Machine
end

