-- ==== Sys2Proof/Decode.lean ====
section
/-!
DEFINITION. Reading commands. `decodeTableWord` reads the rows of spec/opcode_table.json that carry bits: the
table gives bits to none of its 68 rows, so no word spells a command. What this hardware does decode is the
console line (R173, R181): `parseLine` is total on any text and answers none where the line is refused SY;
`encodeLine` writes the line that a console command comes from.
-/

namespace Sys2Proof

/-- The command a word spells by the bits of the opcode table. No row of the table has bits. -/
def decodeTableWord (_nbits _w : Nat) : Option Instr := none

/-- Splits a line into its words; spaces before, between and after words are disregarded (R173). `acc` is
the word under way. -/
def splitWords : Text → Text → List Text
  | [], acc => if acc.isEmpty then [] else [acc]
  | c :: cs, acc =>
    if c = ' ' then (if acc.isEmpty then splitWords cs [] else acc :: splitWords cs [])
    else splitWords cs (acc ++ [c])

/-- The characters a line may hold: capital letters, digits, the space and the minus sign (R173). -/
def lineChar (c : Char) : Bool := isCapital c || isDecimal c || c = ' ' || c = '-'

/-- The value of a decimal digit. -/
def digitValue (c : Char) : Nat := c.toNat - '0'.toNat

/-- One to six decimal digits as a number (R173). -/
def parseDigits (ds : Text) : Option Nat :=
  if 0 < ds.length && ds.length ≤ 6 && ds.all isDecimal then
    some (ds.foldl (fun n c => n * 10 + digitValue c) 0)
  else none

/-- A number: one to six decimal digits, perhaps preceded by a minus sign (R173). -/
def parseInt : Text → Option Int
  | '-' :: ds => (parseDigits ds).map fun n => -(n : Int)
  | ds => (parseDigits ds).map fun n => (n : Int)

def parseOnOff (w : Text) : Option Bool :=
  if w = "ON".toList then some true else if w = "OFF".toList then some false else none

def parseCueSource (w : Text) : Option CueSource :=
  if w = "FOOTAGE".toList then some .footage
  else if w = "SENSOR".toList then some .sensor
  else if w = "FIRST".toList then some .first
  else none

def parseDoor (w : Text) : Option Door :=
  if w = "LD".toList then some .ld else if w = "MD".toList then some .md else none

def parseDoorMode (w : Text) : Option DoorMode :=
  if w = "ENFORCE".toList then some .enforce
  else if w = "ADVISORY".toList then some .advisory else none

/-- A field word followed by one value (R181). -/
def parseField1 (w v : Text) : Option EntryField :=
  if w = "FIRST".toList then (parseInt v).map .first
  else if w = "CHANGE".toList then (parseInt v).map .change
  else if w = "MOTOR".toList then (parseInt v).map .motor
  else if w = "CUE".toList then (parseCueSource v).map .cue
  else if w = "STOP".toList then (parseOnOff v).map .stop
  else none

/-- A light-action word followed by its level and its time (R181). -/
def parseField2 (w l t : Text) : Option EntryField :=
  match parseInt l, parseInt t with
  | some l, some t =>
    if w = "MS".toList then some (.ms l t)
    else if w = "PI".toList then some (.pi l t)
    else if w = "EN".toList then some (.en l t)
    else none
  | _, _ => none

/-- Whether a field word is a light action, which takes two values. -/
def isActionWord (w : Text) : Bool :=
  w = "MS".toList || w = "PI".toList || w = "EN".toList

/-- The optional fields of an entry line, in any order (R181); the first argument bounds the fields read. -/
def parseFields : Nat → List Text → Option (List EntryField)
  | _, [] => some []
  | 0, _ :: _ => none
  | n + 1, w :: rest =>
    if isActionWord w then
      match rest with
      | l :: t :: rest => do
        let f ← parseField2 w l t
        let fs ← parseFields n rest
        pure (f :: fs)
      | _ => none
    else
      match rest with
      | v :: rest => do
        let f ← parseField1 w v
        let fs ← parseFields n rest
        pure (f :: fs)
      | [] => none

/-- The label, the length and the optional fields of an entry line (R181). The label stands as written. -/
def parseEntry : List Text → Option EntryArgs
  | label :: length :: rest => do
    let n ← parseInt length
    let fs ← parseFields rest.length rest
    if fieldsOnce fs then pure { label := label, length := n, fields := fs } else none
  | _ => none

def parseSetting (w v : Text) : Option SettingArg :=
  if w = "LEAD".toList then (parseInt v).map .lead
  else if w = "MARGIN".toList then (parseInt v).map .margin
  else if w = "LEVEL".toList then (parseInt v).map .level
  else if w = "FADE".toList then (parseInt v).map .fade
  else if w = "RESTRIKE".toList then (parseOnOff v).map .restrike
  else none

def parseParam : List Text → Option ParamArg
  | [w] => if w = "DEFAULT".toList then some .default else none
  | [w, v] =>
    if w = "VSET".toList then (parseInt v).map .vset
    else if w = "DEAD".toList then (parseInt v).map .dead
    else if w = "GAIN".toList then (parseInt v).map .gain
    else if w = "THR".toList then (parseInt v).map .thr
    else if w = "MODE".toList then
      (if v = "STEP".toList then some (.mode .step)
       else if v = "BURST".toList then some (.mode .burst) else none)
    else none
  | _ => none

/-- A command with one number. -/
def parse1 (f : Int → Instr) : List Text → Option Instr
  | [a] => (parseInt a).map f
  | _ => none

/-- A command with two numbers. -/
def parse2 (f : Int → Int → Instr) : List Text → Option Instr
  | [a, b] => do
    let a ← parseInt a
    let b ← parseInt b
    pure (f a b)
  | _ => none

/-- A command with no argument. -/
def parse0 (i : Instr) : List Text → Option Instr
  | [] => some i
  | _ => none

/-- The command that a mnemonic and its arguments spell, by the forms of the command table (R173). -/
def parseCommand (m : Text) (args : List Text) : Option Instr :=
  if m = "SQ".toList then parse1 .sq args
  else if m = "MO".toList then
    match args with
    | [s, v] => do pure (.mo (← parseInt s) (← parseOnOff v))
    | _ => none
  else if m = "DO".toList then
    match args with
    | [s, v] => do
      let s ← parseInt s
      if v = "OPEN".toList then pure (.doDouser s true)
      else if v = "CLOSE".toList then pure (.doDouser s false) else none
    | _ => none
  else if m = "IM".toList then
    match args with
    | [s, d, v] => do pure (.im (← parseInt s) (← parseDoor d) (← parseDoorMode v))
    | _ => none
  else if m = "SR".toList then parse1 .sr args
  else if m = "SA".toList then parse2 .sa args
  else if m = "PA".toList then
    match args with
    | h :: rest => do pure (.pa (← parseInt h) (← parseEntry rest))
    | [] => none
  else if m = "PI".toList then
    match args with
    | h :: n :: rest => do pure (.pi (← parseInt h) (← parseInt n) (← parseEntry rest))
    | _ => none
  else if m = "PD".toList then parse2 .pd args
  else if m = "PC".toList then parse1 .pc args
  else if m = "PQ".toList then parse2 .pq args
  else if m = "TH".toList then parse2 .th args
  else if m = "UT".toList then parse1 .ut args
  else if m = "GO".toList then parse1 .go args
  else if m = "EN".toList then parse1 .en args
  else if m = "CO".toList then parse1 .co args
  else if m = "HQ".toList then parse1 .hq args
  else if m = "HF".toList then parse1 .hf args
  else if m = "HA".toList then parse1 .ha args
  else if m = "HS".toList then
    match args with
    | [h] => (parseInt h).map fun h => .hs h none
    | [h, w, v] => do pure (.hs (← parseInt h) (some (← parseSetting w v)))
    | _ => none
  else if m = "CK".toList then
    match args with
    | [a, b] => do pure (.ck (← parseInt a) (← parseInt b) none)
    | [a, b, c] => do pure (.ck (← parseInt a) (← parseInt b) (some (← parseInt c)))
    | _ => none
  else if m = "CQ".toList then parse0 .cq args
  else if m = "AT".toList then
    match args with
    | [h, w] => do
      let h ← parseInt h
      if w = "OFF".toList then pure (.atAlarm h .off) else none
    | [h, a, b] => do pure (.atAlarm (← parseInt h) (.arm (← parseInt a) (← parseInt b)))
    | _ => none
  else if m = "LS".toList then parse1 .ls args
  else if m = "LX".toList then parse1 .lx args
  else if m = "LC".toList then parse2 .lc args
  else if m = "LF".toList then parse2 .lf args
  else if m = "LP".toList then
    match args with
    | s :: rest => do pure (.lp (← parseInt s) (← parseParam rest))
    | [] => none
  else if m = "LQ".toList then parse1 .lq args
  else if m = "SP".toList then
    match args with
    | [] => some (.sp none)
    | [w] =>
      if w = "FIXED".toList then some (.sp (some .fixed))
      else if w = "ROTATE".toList then some (.sp (some .rotate)) else none
    | _ => none
  else if m = "LV".toList then
    match args with
    | [h] => (parseInt h).map fun h => .lv h .query
    | [h, l] => do pure (.lv (← parseInt h) (.level (← parseInt l)))
    | [h, l, t] => do pure (.lv (← parseInt h) (.fade (← parseInt l) (← parseInt t)))
    | _ => none
  else if m = "LR".toList then parse1 .lr args
  else if m = "PU".toList then parse0 .pu args
  else if m = "FQ".toList then parse0 .fq args
  else if m = "FC".toList then parse0 .fc args
  else if m = "FT".toList then parse0 .ft args
  else if m = "SS".toList then parse0 .ss args
  else if m = "AK".toList then parse0 .ak args
  else if m = "RS".toList then parse0 .rs args
  else none

/-- The command of a complete, unmarked line; none where R173 refuses it SY. -/
def parseLine (line : Text) : Option Instr :=
  if line.all lineChar then
    match splitWords line [] with
    | [] => none
    | m :: args => parseCommand m args
  else none

open Machine (decimalInt joinWords onOffText)

def cueSourceText : CueSource → Text
  | .footage => "FOOTAGE".toList
  | .sensor => "SENSOR".toList
  | .first => "FIRST".toList

def feedModeText : FeedMode → Text
  | .step => "STEP".toList
  | .burst => "BURST".toList

def doorText : Door → Text
  | .ld => "LD".toList
  | .md => "MD".toList

def doorModeText : DoorMode → Text
  | .enforce => "ENFORCE".toList
  | .advisory => "ADVISORY".toList

def orderModeText : OrderMode → Text
  | .fixed => "FIXED".toList
  | .rotate => "ROTATE".toList

/-- An optional field as written (R181). -/
def EntryField.words : EntryField → List Text
  | .first n => ["FIRST".toList, decimalInt n]
  | .change n => ["CHANGE".toList, decimalInt n]
  | .motor n => ["MOTOR".toList, decimalInt n]
  | .cue c => ["CUE".toList, cueSourceText c]
  | .stop b => ["STOP".toList, onOffText b]
  | .ms l t => ["MS".toList, decimalInt l, decimalInt t]
  | .pi l t => ["PI".toList, decimalInt l, decimalInt t]
  | .en l t => ["EN".toList, decimalInt l, decimalInt t]

def EntryArgs.words (e : EntryArgs) : List Text :=
  e.label :: decimalInt e.length :: e.fields.flatMap EntryField.words

def SettingArg.words : SettingArg → List Text
  | .lead n => ["LEAD".toList, decimalInt n]
  | .margin n => ["MARGIN".toList, decimalInt n]
  | .level n => ["LEVEL".toList, decimalInt n]
  | .fade n => ["FADE".toList, decimalInt n]
  | .restrike b => ["RESTRIKE".toList, onOffText b]

def ParamArg.words : ParamArg → List Text
  | .vset n => ["VSET".toList, decimalInt n]
  | .dead n => ["DEAD".toList, decimalInt n]
  | .gain n => ["GAIN".toList, decimalInt n]
  | .thr n => ["THR".toList, decimalInt n]
  | .mode m => ["MODE".toList, feedModeText m]
  | .default => ["DEFAULT".toList]

/-- The words of the console line that gives a command; an event has none. -/
def Instr.words : Instr → List Text
  | .sq s => ["SQ".toList, decimalInt s]
  | .mo s b => ["MO".toList, decimalInt s, onOffText b]
  | .doDouser s b => ["DO".toList, decimalInt s, if b then "OPEN".toList else "CLOSE".toList]
  | .im s d m => ["IM".toList, decimalInt s, doorText d, doorModeText m]
  | .sr s => ["SR".toList, decimalInt s]
  | .sa s h => ["SA".toList, decimalInt s, decimalInt h]
  | .pa h e => "PA".toList :: decimalInt h :: e.words
  | .pi h n e => "PI".toList :: decimalInt h :: decimalInt n :: e.words
  | .pd h n => ["PD".toList, decimalInt h, decimalInt n]
  | .pc h => ["PC".toList, decimalInt h]
  | .pq h n => ["PQ".toList, decimalInt h, decimalInt n]
  | .th s n => ["TH".toList, decimalInt s, decimalInt n]
  | .ut s => ["UT".toList, decimalInt s]
  | .go h => ["GO".toList, decimalInt h]
  | .en h => ["EN".toList, decimalInt h]
  | .co h => ["CO".toList, decimalInt h]
  | .hq h => ["HQ".toList, decimalInt h]
  | .hf h => ["HF".toList, decimalInt h]
  | .ha h => ["HA".toList, decimalInt h]
  | .hs h none => ["HS".toList, decimalInt h]
  | .hs h (some a) => "HS".toList :: decimalInt h :: a.words
  | .ck hh mm none => ["CK".toList, decimalInt hh, decimalInt mm]
  | .ck hh mm (some sec) => ["CK".toList, decimalInt hh, decimalInt mm, decimalInt sec]
  | .cq => ["CQ".toList]
  | .atAlarm h .off => ["AT".toList, decimalInt h, "OFF".toList]
  | .atAlarm h (.arm hh mm) => ["AT".toList, decimalInt h, decimalInt hh, decimalInt mm]
  | .ls s => ["LS".toList, decimalInt s]
  | .lx s => ["LX".toList, decimalInt s]
  | .lc s n => ["LC".toList, decimalInt s, decimalInt n]
  | .lf s n => ["LF".toList, decimalInt s, decimalInt n]
  | .lp s a => "LP".toList :: decimalInt s :: a.words
  | .lq s => ["LQ".toList, decimalInt s]
  | .sp none => ["SP".toList]
  | .sp (some m) => ["SP".toList, orderModeText m]
  | .lv h .query => ["LV".toList, decimalInt h]
  | .lv h (.level l) => ["LV".toList, decimalInt h, decimalInt l]
  | .lv h (.fade l t) => ["LV".toList, decimalInt h, decimalInt l, decimalInt t]
  | .lr h => ["LR".toList, decimalInt h]
  | .pu => ["PU".toList]
  | .fq => ["FQ".toList]
  | .fc => ["FC".toList]
  | .ft => ["FT".toList]
  | .ss => ["SS".toList]
  | .ak => ["AK".toList]
  | .rs => ["RS".toList]
  | .powerOn _ | .tachPulse _ _ _ | .runUpLimit _ | .stall _ | .stopTimer _ | .resetHoldEnd _ _
  | .ldQualified _ _ | .mdQualified _ _ | .cuClosing _ | .cbClosing _ | .pdChange _ _ | .ghOpen _
  | .ltOpen _ | .fbOpen _ | .boothTripInput _ | .releasePulseEnd _ | .mainsCycle | .clockSecond
  | .lampWaitTimeout _ | .strikePulseEnd _ | .rechargeEnd | .regulationSample _ _ _ | .jogStep _
  | .bucketClose _ | .fadeUpdate _ | .characterReceived _ _ | .characterTimeout | .replyEnd
  | .tripInputQualifiedClosed _ => []

/-- The console line that gives a command, without its CR. -/
def encodeLine (i : Instr) : Text := joinWords i.words

/-- A console command whose line reaches the block unmarked: it is well formed and fits in 64 characters (R169). -/
def Instr.sendable (i : Instr) : Bool := i.isConsole && i.wellFormed && (encodeLine i).length ≤ 64

end Sys2Proof
end

