-- ==== Sys2Proof/Config.lean ====
section
/-!
DEFINITION. What the manual leaves open. The free values have no body: nothing can evaluate them, so a claim
holds whatever they are. `State.draws` counts the open choices made, and the k-th takes the free values of k.
-/

namespace Sys2Proof

/-- The free value of the k-th choice that the manual leaves open (assumption log 9 and 10). -/
opaque Config.freeChoice : Nat → Nat

/-- The free levels of the trim straps at the booth reset that makes the k-th open choice: whether ID-A and ID-B of a
station stand open (assumption log 4). -/
opaque Config.strapsOpen : Nat → StationId → Bool × Bool

/-- The trim straps as they stand at the booth reset that makes the k-th open choice (R1; log 4). -/
def Config.trimStraps (k : Nat) : PerStation TrimStraps :=
  PerStation.build fun i =>
    { idA := if (Config.strapsOpen k i).1 then .opened else .closed
      idB := if (Config.strapsOpen k i).2 then .opened else .closed }

end Sys2Proof
end

