-- ==== Sys2Proof/Machine/State.lean ====
section
/-!
DEFINITION. The state of the controller: every record of 01 to 10 of spec/, as plain data, the queue of waiting
commands, and the state right after power-on. INVENTORY.md lists each field with its rule and its reset value.
-/

namespace Sys2Proof.Machine

/-! ### Projector station records (01_projector_stations.md) -/

/-- Trim class of a present station (R1). -/
inductive Trim where
  | h | m | s
deriving DecidableEq, Repr

/-- Station condition (R20, R21). -/
inductive Condition where
  | normal | resetting
deriving DecidableEq, Repr

/-- Motor state (R5 to R8). -/
inductive Motor where
  | stopped | runUp | atSpeed | stopping
deriving DecidableEq, Repr

/-- Mode of the frame counter (R9). -/
inductive CounterMode where
  | hold | forward | reverse
deriving DecidableEq, Repr

/-- Cause of a station trip (R153, R158). -/
inductive StationCause where
  | filmBreak | gate | lampHeat | booth
deriving DecidableEq, Repr

/-- The qualified state and the interlock mode of a door (R14). -/
structure DoorState where
  contact : Contact
  mode    : DoorMode
deriving DecidableEq, Repr

/-- Lamp state (chapter 6.1). -/
inductive LampState where
  | cold | queued | striking | establish | burn | stub | lockout
deriving DecidableEq, Repr

/-- Class of a lamp in the strike queue (R109). -/
inductive StrikeClass where
  | normal | urgent
deriving DecidableEq, Repr

/-- The lamp record (chapter 6.1). -/
structure Lamp where
  state      : LampState
  /-- NORMAL or URGENT while QUEUED, NONE otherwise. -/
  cls        : Option StrikeClass
  /-- The class the lamp had when it was granted, which a failed attempt gives it again (R113). -/
  granted    : Option StrikeClass
  retry      : Nat
  restrike   : Nat
  establish  : Nat
  /-- The 800 ms strike pulse timer runs (R112). -/
  pulseTimer : Bool
deriving DecidableEq, Repr

/-- The five lamp parameters (R96). -/
structure Params where
  vset : Nat
  dead : Nat
  gain : Nat
  thr  : Nat
  mode : FeedMode
deriving DecidableEq, Repr

/-- Sample status (chapter 5.1). -/
inductive SampleStatus where
  | live | held
deriving DecidableEq, Repr

/-- The arc channel record (chapter 5.1). -/
structure Channel where
  sampleTimer : Bool
  vc          : Option Nat
  ic          : Option Nat
  status      : SampleStatus
  loss        : Nat
  short       : Nat
  credit      : Nat
  steps       : Nat
  /-- NONE for an absent station. -/
  params      : Option Params
  /-- Jog steps still to be given; the 100 ms jog timer runs while there are any (R101). -/
  jog         : Option Nat
  /-- Pulses of FS ordered by the last sample or jog step and not cut short (R94). -/
  fsPulses    : Nat
deriving DecidableEq, Repr

/-- The shortfall mark (R134). -/
inductive ShortfallMark where
  | clear | given
deriving DecidableEq, Repr

/-- The carbon record (chapter 7.1). -/
structure Carbon where
  /-- Remaining positive carbon Rp in tenths of a millimetre. -/
  rp          : Nat
  /-- Closed buckets, oldest first. -/
  window      : List Nat
  openBucket  : Option Nat
  bucketTimer : Bool
  mark        : ShortfallMark
deriving DecidableEq, Repr

/-- The station record, with the lamp, channel and carbon records kept under the station's number. The station's
binding is the running-order entry that names the station (R36: the store keeps both as one). -/
structure Station where
  /-- Trim class, NONE for an absent station (R1). -/
  trim         : Option Trim
  house        : HouseId
  /-- RESETTING while the 2 s reset hold runs (R20). -/
  condition    : Condition
  motor        : Motor
  runUpCount   : Nat
  /-- A first tach pulse has opened a frame interval since entry to RUNUP (R6). -/
  intervalOpen : Bool
  runUpTimer   : Bool
  stallTimer   : Bool
  stopTimer    : Bool
  counter      : Nat
  counterMode  : CounterMode
  /-- Douser demand: OPEN or CLOSED (R11). -/
  demandOpen   : Bool
  /-- Changeover shutter CS (R12). -/
  csOpen       : Bool
  ld           : DoorState
  md           : DoorState
  /-- Qualified states of the trip inputs (R152). -/
  gh           : Contact
  lt           : Contact
  fb           : Contact
  /-- TRIPPED with its cause, or UNTRIPPED. -/
  trip         : Option StationCause
  lamp         : Lamp
  channel      : Channel
  carbon       : Carbon
deriving DecidableEq, Repr

/-! ### House records (02, 03, 04, 08 and 09) -/

/-- A light action: level per-mille and fade time in ms (R27). -/
structure LightAction where
  level : Nat
  time  : Nat
deriving DecidableEq, Repr

/-- Status of a reel entry (R35). -/
inductive EntryStatus where
  | waiting | threaded | playing | runOut
deriving DecidableEq, Repr

/-- A reel entry (chapter 2, The reel entry). -/
structure Entry where
  label  : Text
  length : Nat
  first  : Nat
  change : Nat
  motor  : Nat
  cue    : CueSource
  stop   : Bool
  ms     : Option LightAction
  pi     : Option LightAction
  en     : Option LightAction
  status : EntryStatus
  /-- The bound station (R36). -/
  bound  : Option StationId
deriving DecidableEq, Repr

/-- House mode (R3). -/
inductive HouseMode where
  | changeover | single | unused
deriving DecidableEq, Repr

/-- Engine state (chapter 3.1). -/
inductive EngineState where
  | idle | ready | starting | playing | preparing | motorCued | runDown | interval | hold | fault | suspended
deriving DecidableEq, Repr

/-- Start step (R46 to R48). -/
inductive StartStep where
  | lampWait | runUp | leader
deriving DecidableEq, Repr

/-- Reel regime (R44). -/
inductive Regime where
  | changeover | single
deriving DecidableEq, Repr

/-- A cue flag (R49). -/
inductive CueFlag where
  | pending | taken
deriving DecidableEq, Repr

/-- Reason of a missed changeover (R57, R58). -/
inductive MissReason where
  | notThreaded | lamp | speed | sensor
deriving DecidableEq, Repr

/-- What belongs to the reel on screen and is cleared whenever a reel takes the screen (chapter 3.1). -/
structure Reel where
  strike : CueFlag
  motor  : CueFlag
  change : CueFlag
  /-- Sensor-pulse count, 0 to 2. -/
  marks  : Nat
  missed : Option MissReason
deriving DecidableEq, Repr

/-- Hold cause (chapter 3.1); MISSED carries the missed mark. -/
inductive HoldCause where
  | none
  | missed (reason : Option MissReason)
  | fault
  | suspend
deriving DecidableEq, Repr

/-- Cause of a house fault (R61). -/
inductive FaultCause where
  | lamp | motor | start | trip | interlock | port
deriving DecidableEq, Repr

/-- The fault record of a house (R63). -/
structure FaultRecord where
  cause   : FaultCause
  station : Option StationId
  label   : Option Text
  time    : Nat
  counter : Option Nat
  read    : Bool
deriving DecidableEq, Repr

/-- The house settings (R68). -/
structure Settings where
  lead     : Nat
  margin   : Nat
  level    : Nat
  fade     : Nat
  restrike : Bool
deriving DecidableEq, Repr

/-- A light layer (R139). -/
inductive Layer where
  | clear | set
deriving DecidableEq, Repr

/-- The light channel of a house (chapter 8.1). -/
structure Light where
  level     : Nat
  target    : Nat
  remaining : Nat
  timer     : Bool
  fire      : Layer
  panic     : Layer
deriving DecidableEq, Repr

/-- Pre-strike state (chapter 4.1). -/
inductive PreState where
  | armed | done | passed
deriving DecidableEq, Repr

/-- An armed start alarm; times in seconds since 00:00:00 (R74). -/
structure Alarm where
  start : Nat
  pre   : Nat
  state : PreState
deriving DecidableEq, Repr

/-- Port state (R160). -/
inductive PortState where
  | up | down
deriving DecidableEq, Repr

/-- The records kept for one house: the house record of the engine, the running order, the settings, the light
channel, the start alarm, the port state and the release pulse. The house mode is worked out from the stations (R3). -/
structure House where
  engine       : EngineState
  step         : Option StartStep
  lampWait     : Bool
  regime       : Option Regime
  reel         : Reel
  skew         : Option Int
  hold         : HoldCause
  fault        : Option FaultRecord
  showRunning  : Bool
  settings     : Settings
  queue        : List Entry
  light        : Light
  alarm        : Option Alarm
  port         : PortState
  releasePulse : Bool
deriving DecidableEq, Repr

/-! ### Booth records (04, 06, 09 and 10) -/

/-- The clock record (chapter 4.1); the time of day in seconds since 00:00:00. -/
structure Clock where
  mains  : MainsStrap
  cycles : Nat
  time   : Nat
  isSet  : Bool
deriving DecidableEq, Repr

/-- State of the strike supply (chapter 6.1). -/
inductive Supply where
  | free | granted | recharge
deriving DecidableEq, Repr

/-- The arbiter's record (chapter 6.1). A queued lamp's class stands in its lamp record. -/
structure Arbiter where
  /-- The strike queue in order of joining. -/
  queue    : List StationId
  grant    : Option StationId
  supply   : Supply
  recharge : Bool
  mode     : OrderMode
  order    : List StationId
deriving DecidableEq, Repr

/-- Cause of a booth trip (R157). -/
inductive BoothCause where
  | alarm | manual | link | console
deriving DecidableEq, Repr

/-- Capture cause (chapter 9.1). -/
inductive CaptureCause where
  | filmBreak | gate | lampHeat | alarm | manual | link | console
deriving DecidableEq, Repr

/-- The fields of a filled capture (R163); NONE for a booth trip where they concern a station. -/
structure CaptureFields where
  cause    : CaptureCause
  station  : Option StationId
  house    : Option HouseId
  time     : Nat
  counter  : Option Nat
  lamp     : Option LampState
  onScreen : Option Bool
deriving DecidableEq, Repr

/-- The trip capture (chapter 9.5). -/
inductive Capture where
  | empty
  | locked (f : CaptureFields)
  | read (f : CaptureFields)
deriving DecidableEq, Repr

/-- The summary flags, one for each capture cause; true is SET. -/
structure TripFlags where
  filmBreak : Bool
  gate      : Bool
  lampHeat  : Bool
  alarm     : Bool
  manual    : Bool
  link      : Bool
  console   : Bool
deriving DecidableEq, Repr

/-- The fire record of the booth (chapter 9.1); station trips and port states stand with the station and house. -/
structure Fire where
  booth   : Option BoothCause
  /-- Qualified states of the booth trip inputs (R152). -/
  fa      : Contact
  mt      : Contact
  fl      : Contact
  capture : Capture
  flags   : TripFlags
  further : Nat
deriving DecidableEq, Repr

/-- Line speed in baud (R168). -/
inductive Speed where
  | baud110 | baud300 | baud1200 | baud2400
deriving DecidableEq, Repr

/-- Character format (R168). -/
inductive CharFormat where
  | even7 | none8
deriving DecidableEq, Repr

/-- Marks of a line (chapter 10.1). -/
structure Marks where
  overlong : Bool
  error    : Bool
  lost     : Bool
deriving DecidableEq, Repr

/-- A complete line with its marks (R169). -/
structure Line where
  text  : Text
  marks : Marks
deriving DecidableEq, Repr

/-- The 2 s character timer (R171). -/
inductive CharTimer where
  | notRunning | running | suspended
deriving DecidableEq, Repr

/-- Transmit state (R172). -/
inductive Transmit where
  | idle | sending
deriving DecidableEq, Repr

/-- A latched warning with its subject (chapter 10.4). -/
inductive Warning where
  | shortfall (s : StationId)
  | lowCarbon (s : StationId)
  | cueSkew (h : HouseId)
  | notThreaded (h : HouseId)
  | missed (h : HouseId) (reason : MissReason)
  | missedStart (h : HouseId)
  | interlock (s : StationId)
  | portStuck (h : HouseId)
  | lockout (s : StationId)
  | slow (s : StationId)
deriving DecidableEq, Repr

/-- The line unit record (chapter 10.1). -/
structure LineUnit where
  speed      : Speed
  format     : CharFormat
  echo       : Bool
  buffer     : Text
  marks      : Marks
  waiting    : Option Line
  owed       : Nat
  timer      : CharTimer
  transmit   : Transmit
  /-- What console transmit sends: the last echo, or the reply being sent with the CR LF around it (R172). -/
  tx         : Text
  /-- The reply being sent answers an RS line (R179). -/
  rsReply    : Bool
  warnings   : List Warning
  attention  : Bool
  /-- ATTENTION asserted since booth reset (R179). -/
  sinceReset : Bool
deriving DecidableEq, Repr

/-! ### Output pins -/

/-- The outputs of a station that follow its records: MC, DS, FH and SK (R5 to R8, R11, R13, R105). CS stands in the
station record and the pulses of FS in the channel record. True is energized, or open for DS. -/
structure StationPins where
  mc : Bool
  ds : Bool
  fh : Bool
  sk : Bool
deriving DecidableEq, Repr

/-- The outputs of a house: PR and the dimmer level DL, per-mille (R161, R139). -/
structure HousePins where
  pr : Bool
  dl : Nat
deriving DecidableEq, Repr

/-- A character as console transmit sends it (R168): its start bits, its data bits with the least significant first, its
parity bit if it has one, and its stop bits. -/
structure TxFrame where
  startBits : Nat
  data      : List Bool
  parity    : Option Bool
  stopBits  : Nat
deriving DecidableEq, Repr

/-- The output pins that are set again at the end of every event. ATTENTION stands in the line unit record. -/
structure Pins where
  stations : PerStation StationPins
  houses   : PerHouse HousePins
  sb       : Bool
  /-- Console transmit: the characters of the text being sent, each in its frame (R168, R172). -/
  transmit : List TxFrame
deriving DecidableEq, Repr

/-- The state of the controller. -/
structure State where
  /-- Levels of the strap inputs, each as last read. -/
  straps   : Straps
  stations : PerStation Station
  houses   : PerHouse House
  clock    : Clock
  arbiter  : Arbiter
  fire     : Fire
  line     : LineUnit
  pins     : Pins
  /-- The model's own: how many open choices have been made (`Config.freeChoice`, `Config.strapsOpen`). -/
  draws    : Nat
  /-- The model's own: the commands that wait, first in first out. -/
  pending  : List Instr
deriving DecidableEq, Repr

/-- The faults of the machine: none. The manual describes no event that stops the controller, and every command of
the table has its effect in every state. -/
inductive Fault where
deriving DecidableEq, Repr

/-- The refusals of the model. -/
inductive Refusal where
  /-- Raised by an arm of `exec` whose command has no meaning yet; no arm is left so. Safe: the model stops. -/
  | notModelled (mnemonic : String)
deriving DecidableEq, Repr

/-! ### Power-on values -/

/-- Cleared cue flags, sensor-pulse count and missed mark (chapter 3.1). -/
def Reel.clear : Reel :=
  { strike := .pending, motor := .pending, change := .pending, marks := 0, missed := none }

/-- The lamp record at power-on (R124). -/
def Lamp.initial : Lamp :=
  { state := .stub, cls := none, granted := none, retry := 0, restrike := 0, establish := 0, pulseTimer := false }

/-- The channel record at power-on with the given parameters (R104). -/
def Channel.initial (params : Option Params) : Channel :=
  { sampleTimer := false, vc := none, ic := none, status := .held, loss := 0, short := 0, credit := 0, steps := 0,
    params := params, jog := none, fsPulses := 0 }

/-- The carbon record at power-on (R138). -/
def Carbon.initial : Carbon :=
  { rp := 0, window := [], openBucket := none, bucketTimer := false, mark := .clear }

/-- A station record at power-on (R22), its inputs taken as closed until they qualify (R14, R152). -/
def Station.initial (trim : Option Trim) (params : Option Params) (house : HouseId) : Station :=
  { trim := trim, house := house, condition := .normal, motor := .stopped, runUpCount := 0, intervalOpen := false,
    runUpTimer := false, stallTimer := false, stopTimer := false, counter := 0, counterMode := .hold,
    demandOpen := false, csOpen := false,
    ld := { contact := .closed, mode := .enforce }, md := { contact := .closed, mode := .enforce },
    gh := .closed, lt := .closed, fb := .closed, trip := none,
    lamp := Lamp.initial, channel := Channel.initial params, carbon := Carbon.initial }

/-- The default settings (R68, R70). -/
def Settings.default : Settings := { lead := 90, margin := 60, level := 300, fade := 3000, restrike := true }

/-- The light channel at power-on (R151). -/
def Light.initial : Light :=
  { level := 1000, target := 1000, remaining := 0, timer := false, fire := .clear, panic := .clear }

/-- A house's records at power-on (R42, R70, R79, R151, R167). -/
def House.initial : House :=
  { engine := .idle, step := none, lampWait := false, regime := none, reel := Reel.clear, skew := none,
    hold := .none, fault := none, showRunning := false, settings := Settings.default, queue := [],
    light := Light.initial, alarm := none, port := .down, releasePulse := false }

/-- The arbiter at power-on (R124). -/
def Arbiter.initial : Arbiter :=
  { queue := [], grant := none, supply := .free, recharge := false, mode := .rotate,
    order := [.s1, .s2, .s3, .s4, .s5, .s6] }

/-- The fire record at power-on (R167, R152). -/
def Fire.initial : Fire :=
  { booth := none, fa := .closed, mt := .closed, fl := .closed, capture := .empty,
    flags := { filmBreak := false, gate := false, lampHeat := false, alarm := false, manual := false, link := false,
               console := false },
    further := 0 }

/-- The marks of an empty line. -/
def Marks.clear : Marks := { overlong := false, error := false, lost := false }

/-- The line unit at power-on with its line format (R180). -/
def LineUnit.initial (speed : Speed) (format : CharFormat) (echo : Bool) : LineUnit :=
  { speed := speed, format := format, echo := echo, buffer := [], marks := Marks.clear, waiting := none, owed := 0,
    timer := .notRunning, transmit := .idle, tx := [], rsReply := false, warnings := [], attention := false,
    sinceReset := false }

/-- Every output released and the house lights at full (R22, R124, R151, R167). -/
def Pins.initial : Pins :=
  { stations := PerStation.build fun _ => { mc := false, ds := false, fh := false, sk := false }
    houses := PerHouse.build fun _ => { pr := false, dl := 1000 }
    sb := false
    transmit := [] }

/-- The default pairing of stations and houses (R3). -/
def StationId.defaultHouse : StationId → HouseId
  | .s1 | .s2 => .h1
  | .s3 | .s4 => .h2
  | .s5 | .s6 => .h3

/-- DESIGN CHOICE (log 3): the strap levels that the state after reset stands for: every strap closed, 50 Hz mains. -/
def Straps.reset : Straps :=
  { trim := PerStation.build fun _ => { idA := .closed, idB := .closed }
    mains := .hz50, speedA := .closed, speedB := .closed, format := .closed, echo := .closed }

/-- The state right after power-on with the straps of `Straps.reset`: six present stations of trim class H with
its default parameters (R1, R96), 50 Hz, 110 baud, seven bits even parity, echo on (R168). -/
def State.reset : State :=
  { straps := Straps.reset
    stations := PerStation.build fun i =>
      Station.initial (some .h) (some { vset := 112, dead := 2, gain := 4, thr := 256, mode := .step })
        (StationId.defaultHouse i)
    houses := PerHouse.build fun _ => House.initial
    clock := { mains := .hz50, cycles := 0, time := 0, isSet := false }
    arbiter := Arbiter.initial
    fire := Fire.initial
    line := LineUnit.initial .baud110 .even7 true
    pins := Pins.initial
    draws := 0
    pending := [] }

end Sys2Proof.Machine
end

