-- ==== Sys2Proof/Machine/Trims.lean ====
section
/-!
DEFINITION. The trim table of R1 and the straps: what each trim class sets, how the trim straps are read, and how the
mains and console straps are read (R71, R168).
-/

namespace Sys2Proof.Machine

/-- The class that the trim straps give (R1); both open is absent. -/
def trimOf (t : TrimStraps) : Option Trim :=
  match t.idA, t.idB with
  | .closed, .closed => some .h
  | .closed, .opened => some .m
  | .opened, .closed => some .s
  | .opened, .opened => none

/-- Setpoint Vset as a voltage code (R1). -/
def Trim.vset : Trim → Nat
  | .h => 112 | .m => 100 | .s => 84

/-- Least current of a burning arc in amperes, which is its current code (R1, R80). -/
def Trim.imin : Trim → Nat
  | .h => 40 | .m => 30 | .s => 20

/-- Consumption Sp of one feed step in tenths of a millimetre (R1). -/
def Trim.sp : Trim → Nat
  | .h => 2 | .m => 2 | .s => 1

/-- Nominal burn rate in steps a minute (R1). -/
def Trim.rate : Trim → Nat
  | .h => 35 | .m => 25 | .s => 40

/-- Stub length in tenths of a millimetre (R1). -/
def Trim.stub : Trim → Nat
  | .h => 380 | .m => 380 | .s => 300

/-- The default lamp parameters of a trim class (chapter 5.5). -/
def Trim.params (t : Trim) : Params :=
  { vset := t.vset, dead := 2, gain := 4, thr := 256, mode := .step }

/-- A station is present when its class is H, M or S (R1). -/
def Station.present (st : Station) : Bool := st.trim.isSome

/-- A strap read takes the class and the defaults of the class read; an absent station has no parameters (R1, R96). -/
def Station.readStraps (st : Station) (t : TrimStraps) : Station :=
  { st with trim := trimOf t, channel := { st.channel with params := (trimOf t).map Trim.params } }

/-- The line speed that the speed straps give (R168). -/
def lineSpeed (p : Straps) : Speed :=
  match p.speedA, p.speedB with
  | .closed, .closed => .baud110
  | .closed, .opened => .baud300
  | .opened, .closed => .baud1200
  | .opened, .opened => .baud2400

/-- The character format that the format strap gives (R168). -/
def lineFormat (p : Straps) : CharFormat :=
  match p.format with
  | .closed => .even7
  | .opened => .none8

/-- Echo is ON with the echo strap closed (R168). -/
def lineEcho (p : Straps) : Bool :=
  match p.echo with
  | .closed => true
  | .opened => false

/-- Cycles in a second of the mains reference (R71). -/
def mainsHertz : MainsStrap → Nat
  | .hz50 => 50 | .hz60 => 60

end Sys2Proof.Machine
end

