-- ==== Sys2Proof/Machine/Ops.lean ====
section
/-!
DEFINITION. The shared operations on the records: reading and updating one station or house, the roles of the
stations (R43), warnings and ATTENTION (R175, R177), the output pins, and the choices the manual leaves open.
-/

namespace Sys2Proof.Machine

/-! ### One station, one house -/

def State.station (s : State) (i : StationId) : Station := s.stations.get i

def State.house (s : State) (h : HouseId) : House := s.houses.get h

/-- The state with one station's record changed. -/
def State.modStation (s : State) (i : StationId) (f : Station → Station) : State :=
  { s with stations := s.stations.set i (f (s.stations.get i)) }

/-- The state with one house's record changed. -/
def State.modHouse (s : State) (h : HouseId) (f : House → House) : State :=
  { s with houses := s.houses.set h (f (s.houses.get h)) }

def State.modLamp (s : State) (i : StationId) (f : Lamp → Lamp) : State :=
  s.modStation i fun st => { st with lamp := f st.lamp }

def State.modChannel (s : State) (i : StationId) (f : Channel → Channel) : State :=
  s.modStation i fun st => { st with channel := f st.channel }

def State.modCarbon (s : State) (i : StationId) (f : Carbon → Carbon) : State :=
  s.modStation i fun st => { st with carbon := f st.carbon }

def State.modLight (s : State) (h : HouseId) (f : Light → Light) : State :=
  s.modHouse h fun hs => { hs with light := f hs.light }

/-- The stations assigned to a house, in numerical order. -/
def State.stationsOf (s : State) (h : HouseId) : List StationId :=
  StationId.all.filter fun i => (s.station i).house = h

/-- The house mode from the present stations assigned (R3). -/
def State.mode (s : State) (h : HouseId) : HouseMode :=
  match ((s.stationsOf h).filter fun i => (s.station i).present).length with
  | 0 => .unused
  | 1 => .single
  | _ => .changeover

/-- Do one operation at each station of a list, in order. -/
def State.forStations (s : State) (l : List StationId) (f : StationId → State → State) : State :=
  l.foldl (fun t i => f i t) s

/-- Do one operation at each house of a list, in order. -/
def State.forHouses (s : State) (l : List HouseId) (f : HouseId → State → State) : State :=
  l.foldl (fun t h => f h t) s

/-! ### Trips and motors as the other blocks see them -/

/-- A station is tripped, which includes every station of the booth while a booth trip is in force (R5). -/
def State.tripped (s : State) (i : StationId) : Bool :=
  (s.station i).trip.isSome || s.fire.booth.isSome

/-- The motor is RUNUP or AT-SPEED (R153). -/
def Motor.running : Motor → Bool
  | .runUp | .atSpeed => true
  | .stopped | .stopping => false

/-- A door that is qualified open with its mode ENFORCE (R15, R16). -/
def DoorState.enforced (d : DoorState) : Bool :=
  d.contact == .opened && d.mode == .enforce

/-! ### Roles (R43) -/

/-- The entry bound to a station in a running order. -/
def entryOf (q : List Entry) (i : StationId) : Option Entry :=
  q.find? fun e => e.bound == some i

/-- The entry bound to a station, in the running order of its house (R36). -/
def State.boundEntry (s : State) (i : StationId) : Option Entry :=
  entryOf (s.house (s.station i).house).queue i

/-- The position, counted from 1, of the entry bound to a station. -/
def State.boundPosition (s : State) (i : StationId) : Option Nat :=
  ((s.house (s.station i).house).queue.findIdx? fun e => e.bound == some i).map (· + 1)

/-- The place of the PLAYING entry in a running order, counted from 0. -/
def playingIndex (q : List Entry) : Option Nat :=
  q.findIdx? fun e => e.status == .playing

/-- The PLAYING entry of a house. -/
def House.playing (hs : House) : Option Entry :=
  hs.queue.find? fun e => e.status == .playing

/-- The next entry: the one directly behind the PLAYING entry (R43). -/
def House.next (hs : House) : Option Entry :=
  (playingIndex hs.queue).bind fun k => hs.queue[k + 1]?

/-- The engine states in which a picture is on the screen. -/
def EngineState.showing : EngineState → Bool
  | .playing | .preparing | .motorCued | .runDown => true
  | _ => false

/-- The engine states in which cues are processed (R49). -/
def EngineState.cueing : EngineState → Bool
  | .playing | .preparing | .motorCued => true
  | _ => false

/-- The engine states in which a show runs (chapter 3.1). -/
def EngineState.inShow : EngineState → Bool
  | .starting | .playing | .preparing | .motorCued | .runDown => true
  | _ => false

/-- The start-sequence station: the station bound to the head, in STARTING (R43). -/
def House.startStation (hs : House) : Option StationId :=
  if hs.engine = .starting then hs.queue.head?.bind (·.bound) else none

/-- The on-screen station: the station bound to the PLAYING entry (R43). -/
def House.onScreen (hs : House) : Option StationId :=
  if hs.engine.showing then hs.playing.bind (·.bound) else none

/-- The incoming station: the station bound to the next entry (R43). -/
def House.incoming (hs : House) : Option StationId :=
  if hs.engine.cueing then hs.next.bind (·.bound) else none

/-- A station is engaged as the start-sequence, on-screen or incoming station of its house (R43). -/
def State.engaged (s : State) (i : StationId) : Bool :=
  let hs := s.house (s.station i).house
  hs.startStation == some i || hs.onScreen == some i || hs.incoming == some i

/-- Whether a station is the on-screen station of its house. -/
def State.isOnScreen (s : State) (i : StationId) : Bool :=
  (s.house (s.station i).house).onScreen == some i

/-! ### Warnings and ATTENTION -/

/-- Two warnings have the same kind and subject; the reason of MISSED plays no part (R175). -/
def Warning.same : Warning → Warning → Bool
  | .missed h _, .missed k _ => h == k
  | a, b => a == b

/-- A warning joins the list at its end, or keeps the place it has, its reason replaced (R175). -/
def addWarning (w : Warning) (l : List Warning) : List Warning :=
  if l.any (Warning.same w) then l.map fun x => if Warning.same w x then w else x else l ++ [w]

/-- An event of R177 asserts ATTENTION, and sets the flag that a booth reset looks at (R179). -/
def State.assertAttention (s : State) : State :=
  { s with line := { s.line with attention := true, sinceReset := true } }

/-- A block hands a warning to the line unit (R175). -/
def State.latch (s : State) (w : Warning) : State :=
  { s with line := { s.line with warnings := addWarning w s.line.warnings, attention := true, sinceReset := true } }

/-! ### Output pins -/

/-- The six conditions of R11 other than the demand, with the absence of R2. -/
def State.douserMayOpen (s : State) (i : StationId) : Bool :=
  let st := s.station i
  st.present && st.lamp.state == .burn && !s.tripped i && (s.house st.house).port == .up && !st.ld.enforced

/-- The outputs MC, DS, FH and SK of a station (R2, R5 to R8, R11, R13, R19, R20, R105). -/
def State.stationPins (s : State) (i : StationId) : StationPins :=
  let st := s.station i
  { mc := st.present && st.motor.running
    ds := st.demandOpen && s.douserMayOpen i
    fh := st.present && st.motor == .atSpeed && !s.tripped i
    sk := st.present && st.lamp.state == .striking && !s.tripped i && st.condition == .normal }

/-- The effective level of a house's lights (R139). -/
def Light.effective (l : Light) : Nat :=
  if l.fire = .set then 1000 else if l.panic = .set then 1000 else l.level

/-- The outputs PR and DL of a house (R161, R139). -/
def House.pins (hs : House) : HousePins :=
  { pr := hs.releasePulse, dl := hs.light.effective }

/-- How many data bits a character has (R168). -/
def CharFormat.dataBits : CharFormat → Nat
  | .even7 => 7
  | .none8 => 8

/-- The parity bit that makes the count of ones even (R168). -/
def evenParity (data : List Bool) : Bool := data.count true % 2 == 1

/-- Two stop bits are sent at 110 baud and one at the other speeds (R168). -/
def Speed.stopBits : Speed → Nat
  | .baud110 => 2
  | .baud300 | .baud1200 | .baud2400 => 1

/-- A character in the frame in which console transmit sends it (R168; the code and the order of the bits, log 27). -/
def LineUnit.frame (l : LineUnit) (c : Char) : TxFrame :=
  let data := (List.range l.format.dataBits).map c.toNat.testBit
  { startBits := 1
    data := data
    parity := match l.format with
      | .even7 => some (evenParity data)
      | .none8 => none
    stopBits := l.speed.stopBits }

/-- Every output pin, from the records. SB is energized while the strike supply is granted (R109, R114). -/
def State.outputs (s : State) : Pins :=
  { stations := PerStation.build s.stationPins
    houses := PerHouse.build fun h => (s.house h).pins
    sb := s.arbiter.grant.isSome
    transmit := s.line.tx.map s.line.frame }

/-- The outputs take their new values at the event that changes the records (R11, R13, R139). -/
def State.settle (s : State) : State := { s with pins := s.outputs }

/-- The end of a command: the outputs follow, and the machine goes on. -/
def done (s : State) : Host.Outcome State Fault Refusal := .next s.settle

/-! ### Choices the manual leaves open -/

/-- A list in the order that the number `c` picks; the first argument bounds its length. -/
def pickOrder {α : Type} : Nat → Nat → List α → List α
  | 0, _, l => l
  | n + 1, c, l =>
    match l.drop (c % l.length) with
    | x :: _ => x :: pickOrder n (c / l.length) (l.eraseIdx (c % l.length))
    | [] => l

/-- The things that come together in one event, in an order the manual leaves open (log 9). -/
def State.freeOrder {α : Type} (s : State) (l : List α) : List α × State :=
  if l.length ≤ 1 then (l, s)
  else (pickOrder l.length (Config.freeChoice s.draws) l, { s with draws := s.draws + 1 })

end Sys2Proof.Machine
end

