-- ==== Sys2Proof/Machine/Reply.lean ====
section
/-!
DEFINITION. Replies and how they are sent (R172, R174): the error codes, the forms of a reply, the start of a reply,
and what becomes of a console line by the state of the line unit (R169, R170).
-/

namespace Sys2Proof.Machine

/-- The error codes (chapter 10.3). -/
inductive ErrorCode where
  | sy | rg | by_ | st | fi | fl | em | lk | ln | to_ | pe
deriving DecidableEq, Repr

def ErrorCode.text : ErrorCode → Text
  | .sy => "SY".toList | .rg => "RG".toList | .by_ => "BY".toList | .st => "ST".toList
  | .fi => "FI".toList | .fl => "FL".toList | .em => "EM".toList | .lk => "LK".toList
  | .ln => "LN".toList | .to_ => "TO".toList | .pe => "PE".toList

/-- The forms of a reply (R174). -/
inductive Reply where
  | ok
  /-- OK C and, for each moved field in the order of the line, its word and its values as taken. -/
  | clamped (moved : List Text)
  | okNone
  /-- OK and the words of a record. -/
  | record (words : List Text)
  | no (code : ErrorCode)
deriving DecidableEq, Repr

def Reply.words : Reply → List Text
  | .ok => ["OK".toList]
  | .clamped moved => "OK".toList :: "C".toList :: moved
  | .okNone => ["OK".toList, "NONE".toList]
  | .record ws => "OK".toList :: ws
  | .no c => ["NO".toList, c.text]

/-- OK, or OK C with the moved fields when there are any (R174). -/
def Reply.okMoved (moved : List Text) : Reply :=
  if moved.isEmpty then .ok else .clamped moved

/-- CR and LF. -/
def crLf : Text := ['\r', '\n']

/-- A reply as sent: its words joined by single spaces, then CR LF (R172, R182). -/
def Reply.text (r : Reply) : Text := joinWords r.words ++ crLf

/-- The character timer while the transmit state is SENDING: a timer that would run is suspended (R171). -/
def CharTimer.suspend : CharTimer → CharTimer
  | .notRunning => .notRunning
  | .running | .suspended => .suspended

/-- A reply is started, after `lead` (the echo of a CR, or nothing); the transmit state becomes SENDING (R172). -/
def State.startReply (s : State) (lead : Text) (r : Reply) : State :=
  { s with line := { s.line with transmit := .sending, tx := lead ++ r.text, timer := s.line.timer.suspend } }

/-- The echo of a CR as CR LF, with echo ON (R172). -/
def LineUnit.echoCr (l : LineUnit) : Text := if l.echo then crLf else []

/-- What a console line does: the block that owns it answers, and the reply is sent (R173, R174). -/
abbrev Answer := State → State × Reply

/-- A complete, unmarked console line. With the transmit state IDLE and no line waiting it is taken in this event:
the owning block answers and the reply is started (R169). While a reply is being sent it becomes the waiting line;
while a line waits it is lost, and one more refusal is owed (R169, R170; log 1). -/
def consoleRow (i : Instr) (answer : Answer) (s : State) : Host.Outcome State Fault Refusal :=
  if s.line.waiting.isSome then
    done { s with line := { s.line with owed := min (s.line.owed + 1) 255 } }
  else if s.line.transmit = .sending then
    done { s with line := { s.line with waiting := some { text := encodeLine i, marks := Marks.clear } } }
  else
    let (t, r) := answer s
    done (t.startReply s.line.echoCr r)

/-- A refusal leaves every record as it was (R174). -/
def refuse (s : State) (c : ErrorCode) : State × Reply := (s, .no c)

/-- Checks made in order; the first that fails gives the refusal. -/
def firstRefusal : List (Bool × ErrorCode) → Option ErrorCode
  | [] => none
  | (fails, c) :: rest => if fails then some c else firstRefusal rest

/-- A line about a station: refused RG when the number is not 1 to 6. -/
def onStation (n : Int) (answer : StationId → Answer) : Answer := fun s =>
  match StationId.ofInt? n with
  | none => refuse s .rg
  | some i => answer i s

/-- A line about a house: refused RG when the number is not 1 to 3. -/
def onHouse (n : Int) (answer : HouseId → Answer) : Answer := fun s =>
  match HouseId.ofInt? n with
  | none => refuse s .rg
  | some h => answer h s

/-- A line that is refused by the first failing check, and otherwise acts and is answered. -/
def checked (checks : List (Bool × ErrorCode)) (act : Answer) : Answer := fun s =>
  match firstRefusal checks with
  | some c => refuse s c
  | none => act s

/-- A clamped number with the words that report it when it was moved (R174). -/
def clampField (word : Text) (lo hi x : Int) : Nat × List Text :=
  let y := clampInt lo hi x
  (y.toNat, if y = x then [] else [word, decimalInt y])

end Sys2Proof.Machine
end

