-- ==== Sys2Proof/Machine/Lamps.lean ====
section
/-!
DEFINITION. The lamp sequencer, the strike-supply arbiter and the parts of the arc channel and carbon records that
follow the lamp state: changes of lamp state (R105), grants (R109 to R112), strike requests (R106 to R108),
extinguishes (R118), and the steps offered to the carbon reckoner (R126).
-/

namespace Sys2Proof.Machine

/-! ### A change of lamp state -/

/-- The lamp holds the strike supply (R105). -/
def LampState.onSupply : LampState → Bool
  | .striking | .establish => true
  | _ => false

/-- The arc channel samples the lamp (R81). -/
def LampState.sampled : LampState → Bool
  | .establish | .burn => true
  | _ => false

def LampState.text : LampState → Text
  | .cold => "COLD".toList
  | .queued => "QUEUED".toList
  | .striking => "STRIKING".toList
  | .establish => "ESTABLISH".toList
  | .burn => "BURN".toList
  | .stub => "STUB".toList
  | .lockout => "LOCKOUT".toList

/-- The lamp is out (chapter 6.1). -/
def LampState.out : LampState → Bool
  | .cold | .stub | .lockout => true
  | _ => false

/-- The lamp record at the entry to a state: the class only in QUEUED, the granted class carried through the strike
(R113), the establish count 0 at every entry and exit of ESTABLISH, the retry count 0 at BURN (R115), the pulse
timer in STRIKING (R112). -/
def Lamp.enter (l : Lamp) (new : LampState) (cls : Option StrikeClass) : Lamp :=
  { state := new
    cls := if new = .queued then cls else none
    granted := match new with
      | .striking => l.cls
      | .establish => l.granted
      | _ => none
    retry := if new = .burn then 0 else l.retry
    restrike := l.restrike
    establish := 0
    pulseTimer := decide (new = .striking) }

/-- The arc channel at a change of lamp state: the sample timer starts at ESTABLISH, runs on into BURN, and stops at
any other state (R82, R83); the counts and the credit are 0 at entry to and exit from BURN (R87, R92); pulses not yet
given are cut short as the lamp leaves BURN (R94); a jog ends as the lamp leaves COLD (R102). -/
def Channel.enter (c : Channel) (old new : LampState) : Channel :=
  let atBurn := old = .burn || new = .burn
  { c with
    sampleTimer := match new with
      | .establish => true
      | .burn => c.sampleTimer
      | _ => false
    status := if new.sampled then .live else .held
    loss := if atBurn then 0 else c.loss
    short := if atBurn then 0 else c.short
    credit := if atBurn then 0 else c.credit
    fsPulses := if old = .burn then 0 else c.fsPulses
    jog := if old = .cold && new != .cold then none else c.jog }

/-- The carbon record at a change of lamp state: a window begins at BURN (R128) and is emptied as the lamp leaves
BURN (R130). -/
def Carbon.enter (c : Carbon) (old new : LampState) : Carbon :=
  if new = .burn then { c with window := [], openBucket := some 0, bucketTimer := true }
  else if old = .burn then { c with window := [], openBucket := none, bucketTimer := false }
  else c

/-- The arbiter at a change of lamp state: the lamp joins the queue at its end as it enters QUEUED and leaves it as it
leaves QUEUED (R108); the grant ends and the recharge starts as the lamp leaves STRIKING and ESTABLISH (R114). -/
def Arbiter.lampMoved (a : Arbiter) (i : StationId) (old new : LampState) : Arbiter :=
  let left := if old = .queued then a.queue.erase i else a.queue
  let queue := if new = .queued then left ++ [i] else left
  if old.onSupply && !new.onSupply then
    { a with queue := queue, grant := none, supply := .recharge, recharge := true }
  else { a with queue := queue }

/-- A change of a lamp's state with its effects on the lamp, channel and carbon records and the arbiter; an entry to
LOCKOUT latches its warning (R105). -/
def State.setLamp (s : State) (i : StationId) (new : LampState) (cls : Option StrikeClass := none) : State :=
  let old := (s.station i).lamp.state
  let t := s.modStation i fun st =>
    { st with lamp := st.lamp.enter new cls, channel := st.channel.enter old new, carbon := st.carbon.enter old new }
  let t := { t with arbiter := t.arbiter.lampMoved i old new }
  if new = .lockout && old != .lockout then t.latch (.lockout i) else t

/-! ### The arbiter -/

/-- The stations in the order in which the arbiter looks at them (R110). -/
def scanOrder (mode : OrderMode) (order : List StationId) : List StationId :=
  match mode with
  | .fixed => StationId.all
  | .rotate => order

/-- The lamp chosen from the queue: URGENT before NORMAL, then by the order mode (R109, R110). -/
def chooseLamp (mode : OrderMode) (order queue : List StationId) (urgent : StationId → Bool) : Option StationId :=
  let scan := scanOrder mode order
  match scan.find? fun k => queue.contains k && urgent k with
  | some k => some k
  | none => scan.find? fun k => queue.contains k

/-- The rotation order after a grant to station k in ROTATE mode: the stations after k, then 1 up to k (R110). -/
def rotateAfter (k : StationId) : List StationId :=
  (StationId.all.filter fun j => k.number < j.number) ++ StationId.all.filter fun j => j.number ≤ k.number

/-- The rotation order after a grant (R110). -/
def orderAfter (mode : OrderMode) (order : List StationId) (k : StationId) : List StationId :=
  match mode with
  | .fixed => order
  | .rotate => rotateAfter k

def State.urgent (s : State) (k : StationId) : Bool := (s.station k).lamp.cls == some .urgent

/-- The grant of the strike supply to a lamp, which enters STRIKING (R109, R112). -/
def State.grantTo (s : State) (k : StationId) : State :=
  let t := s.setLamp k .striking
  { t with arbiter := { t.arbiter with
      grant := some k, supply := .granted, order := orderAfter t.arbiter.mode t.arbiter.order k } }

/-- The test for a grant: the supply FREE, no recharge running, the queue not empty (R109). -/
def State.testGrant (s : State) : State :=
  if s.arbiter.supply = .free && !s.arbiter.recharge then
    match chooseLamp s.arbiter.mode s.arbiter.order s.arbiter.queue s.urgent with
    | some k => s.grantTo k
    | none => s
  else s

/-- How many lamps would be granted before lamp i, by R109 and R110 from the record as it stands (R123). The first
argument bounds the grants looked at. -/
def grantsBefore (mode : OrderMode) (urgent : StationId → Bool) (i : StationId) :
    Nat → List StationId → List StationId → Nat
  | 0, _, _ => 0
  | n + 1, order, queue =>
    match chooseLamp mode order queue urgent with
    | none => 0
    | some k => if k = i then 0 else 1 + grantsBefore mode urgent i n (orderAfter mode order k) (queue.erase k)

/-! ### Strike requests and extinguishes -/

/-- The strike reserve: Rp less the stub is at least 20 × Sp (R106, R127). -/
def Station.reserveHolds (st : Station) : Bool :=
  match st.trim with
  | none => false
  | some t => t.stub + 20 * t.sp ≤ st.carbon.rp

/-- The refusal of a strike request, in the order of the console line (R106). -/
def State.strikeRefusal (s : State) (i : StationId) : Option ErrorCode :=
  let st := s.station i
  firstRefusal
    [(st.condition == .resetting, .by_), (s.tripped i, .fi), (!st.present, .st), (st.lamp.state != .cold, .st),
     (st.ld.enforced, .st), (!st.reserveHolds, .st)]

/-- A strike request taken from COLD: QUEUED, NORMAL, with the counts 0, and the test for a grant (R108). -/
def State.takeStrike (s : State) (i : StationId) : State :=
  let t := s.modLamp i fun l => { l with retry := 0, restrike := 0 }
  (t.setLamp i .queued (some .normal)).testGrant

/-- A request of the house engine or the show clock: ignored for a lamp in QUEUED, STRIKING, ESTABLISH or BURN,
otherwise taken or refused (R107). The answer is the refusal, if any. -/
def State.requestStrike (s : State) (i : StationId) : State × Option ErrorCode :=
  match (s.station i).lamp.state with
  | .queued | .striking | .establish | .burn => (s, none)
  | .cold | .stub | .lockout =>
    match s.strikeRefusal i with
    | some c => (s, some c)
    | none => (s.takeStrike i, none)

/-- An extinguish: a lamp in QUEUED, STRIKING, ESTABLISH or BURN enters COLD, any other keeps its state (R118). -/
def State.extinguish (s : State) (i : StationId) : State :=
  match (s.station i).lamp.state with
  | .queued | .striking | .establish | .burn => s.setLamp i .cold
  | .cold | .stub | .lockout => s

/-- A jog in progress ends, with the steps already given standing (R102). -/
def State.endJog (s : State) (i : StationId) : State :=
  s.modChannel i fun c => { c with jog := none }

/-! ### Carbon -/

/-- The stub test of one step: what remains after an issued step, or none where the step is withheld (R126). -/
def offerStep (t : Trim) (rp : Nat) : Option Nat :=
  if t.stub + t.sp ≤ rp then some (rp - t.sp) else none

/-- Steps offered one after another until one is withheld: the steps issued, what remains, and whether a step was
withheld (R91, R93, R126). -/
def offerSteps (t : Trim) : Nat → Nat → Nat × Nat × Bool
  | 0, rp => (0, rp, false)
  | n + 1, rp =>
    match offerStep t rp with
    | none => (0, rp, true)
    | some rp' =>
      let (k, r, w) := offerSteps t n rp'
      (k + 1, r, w)

/-- The basis of a prediction (R131). -/
inductive Basis where
  | window | nominal
deriving DecidableEq, Repr

/-- The steps left above the stub (R131). -/
def stepsLeft (t : Trim) (rp : Nat) : Nat := (rp - t.stub) / t.sp

/-- The prediction of burning seconds with its basis; none for an absent station (R131). -/
def Station.prediction (st : Station) : Option (Nat × Basis) :=
  st.trim.map fun t =>
    let left := stepsLeft t st.carbon.rp
    let n := st.carbon.window.length
    if st.lamp.state = .burn && 4 ≤ n then
      let total := st.carbon.window.sum
      (if total = 0 then 65535 else min (left * (30 * n) / total) 65535, .window)
    else (min (left * 60 / t.rate) 65535, .nominal)

end Sys2Proof.Machine
end

