-- ==== Sys2Proof/Machine/Carbon.lean ====
section
/-!
DEFINITION. The carbon reckoner's sufficiency checks (R132, R133, R135).
-/

namespace Sys2Proof.Machine

/-- The seconds of film left of the reel on screen (R132). -/
def reelLeft (length counter : Nat) : Nat := (length - counter) / 24

/-- The on-screen check at a bucket close (R133). -/
def State.onScreenCheck (s : State) (i : StationId) : State :=
  let st := s.station i
  let hs := s.house st.house
  if hs.onScreen = some i then
    match hs.playing, st.prediction with
    | some e, some (burn, _) =>
      if burn < reelLeft e.length st.counter + hs.settings.margin && st.carbon.mark == .clear then
        (s.modCarbon i fun c => { c with mark := .given }).latch (.shortfall i)
      else s
    | _, _ => s
  else s

/-- The incoming check at a strike cue, for the next entry bound to station i (R135). -/
def State.incomingCheck (s : State) (h : HouseId) (i : StationId) (length : Nat) : State :=
  let set := (s.house h).settings
  match (s.station i).prediction with
  | some (burn, _) => if burn < set.lead + length / 24 + set.margin then s.latch (.lowCarbon i) else s
  | none => s

end Sys2Proof.Machine
end

