-- ==== Sys2Proof/Machine/Lights.lean ====
section
/-!
DEFINITION. The fade engine and the layers of the house lights (R139 to R150).
-/

namespace Sys2Proof.Machine

/-- A fade start gives the channel a level and a time (R140): the level clamped to 0 to 1000, the time to 0 to
60 000 ms, N the ceil of the time divided by 100; a time of 0 takes the level at once. -/
def Light.fadeStart (l : Light) (level time : Nat) : Light :=
  let target := min level 1000
  let n := ceilDiv (min time 60000) 100
  if n = 0 then { l with target := target, remaining := 0, level := target, timer := false }
  else { l with target := target, remaining := n, timer := true }

/-- One fade update (R141): L moves by trunc((Tg − L) / N), and N falls by 1. -/
def Light.update (l : Light) : Light :=
  let share : Int := ((l.target : Int) - l.level).tdiv l.remaining
  { l with level := ((l.level : Int) + share).toNat
           remaining := l.remaining - 1
           timer := decide (1 < l.remaining) }

/-- The restore from PANIC (R149): from full, toward the target, over at least 5 s. -/
def Light.restore (l : Light) : Light :=
  { ({ l with level := 1000 } : Light).fadeStart l.target (max (l.remaining * 100) 5000) with panic := .clear }

/-- A fade start on a house's channel. -/
def State.fade (s : State) (h : HouseId) (level time : Nat) : State :=
  s.modLight h fun l => l.fadeStart level time

/-- A light action of an entry; an absent action starts no fade (R144). -/
def State.action (s : State) (h : HouseId) (a : Option LightAction) : State :=
  match a with
  | none => s
  | some a => s.fade h a.level a.time

/-- The hold level with the hold fade, from the settings as they stand (R145). -/
def State.holdFade (s : State) (h : HouseId) : State :=
  s.fade h (s.house h).settings.level (s.house h).settings.fade

/-- The FIRE layer of a house is set (R146). -/
def State.setFire (s : State) (h : HouseId) : State :=
  s.modLight h fun l => { l with fire := .set }

/-- At fire clear a FIRE layer is cleared and the PANIC layer set; without one nothing changes (R148). -/
def Light.fireToPanic (l : Light) : Light :=
  if l.fire = .set then { l with fire := .clear, panic := .set } else l

end Sys2Proof.Machine
end

