-- ==== Sys2Proof/Machine/Order.lean ====
section
/-!
DEFINITION. The running-order store: bindings, removals and statuses of entries (R24, R35, R36, R40), the test of READY
and IDLE (R41), and the station unit's motor, douser demand and shutter operations (R5, R8, R11, R12) that removals and
the house engine use.
-/

namespace Sys2Proof.Machine

/-! ### Station outputs -/

/-- A stop: taken in every motor state (R8). -/
def Station.stopMotor (st : Station) : Station :=
  if st.motor.running then
    { st with motor := .stopping, runUpTimer := false, stallTimer := false, stopTimer := true }
  else st

/-- A start that is taken (R5). -/
def Station.startMotor (st : Station) : Station :=
  if st.motor.running then st
  else { st with motor := .runUp, runUpCount := 0, intervalOpen := false, runUpTimer := true, stopTimer := false }

def State.stopMotor (s : State) (i : StationId) : State := s.modStation i Station.stopMotor

/-- The douser demand set CLOSED (R11). -/
def State.closeDemand (s : State) (i : StationId) : State :=
  s.modStation i fun st => { st with demandOpen := false }

/-- The douser demand set OPEN; recorded even while a condition fails (R11). -/
def State.openDemand (s : State) (i : StationId) : State :=
  s.modStation i fun st => { st with demandOpen := true }

/-- A close command for CS: always taken (R12). -/
def State.closeShutter (s : State) (i : StationId) : State :=
  s.modStation i fun st => { st with csOpen := false }

/-- An open command for CS: taken while the station is untripped and no booth trip is in force (R12). -/
def State.openShutter (s : State) (i : StationId) : State :=
  if s.tripped i then s else s.modStation i fun st => { st with csOpen := true }

/-- Demand CLOSED and changeover shutter closed at one station. -/
def State.darken (s : State) (i : StationId) : State := (s.closeDemand i).closeShutter i

/-- Demand CLOSED and changeover shutter closed at every station of a house (R60, R63, R66). -/
def State.darkenHouse (s : State) (h : HouseId) : State :=
  s.forStations (s.stationsOf h) fun i t => t.darken i

/-! ### Bindings -/

/-- The counter goes into HOLD as a binding is dropped; it keeps its value (R9). -/
def State.holdCounter (s : State) (i : StationId) : State :=
  s.modStation i fun st => { st with counterMode := .hold }

/-- The binding's counter: 0 and FORWARD (R9, R38). -/
def State.threadCounter (s : State) (i : StationId) : State :=
  s.modStation i fun st => { st with counter := 0, counterMode := .forward }

/-- The queue without the entry bound to a station; the entries behind close up (R24). -/
def dropEntry (q : List Entry) (i : StationId) : List Entry :=
  q.eraseP fun e => e.bound == some i

/-- The queue with the entry bound to a station given a status (R35). -/
def setStatus (q : List Entry) (i : StationId) (st : EntryStatus) : List Entry :=
  q.map fun e => if e.bound = some i then { e with status := st } else e

/-- The queue with a station's entry unbound and WAITING again (R35, R39). -/
def unbindEntry (q : List Entry) (i : StationId) : List Entry :=
  q.map fun e => if e.bound = some i then { e with status := .waiting, bound := none } else e

/-- A PLAYING entry returns to THREADED as its picture stops without a changeover (R35). -/
def stopPlaying (q : List Entry) : List Entry :=
  q.map fun e => if e.status = .playing then { e with status := .threaded } else e

def State.modQueue (s : State) (h : HouseId) (f : List Entry → List Entry) : State :=
  s.modHouse h fun hs => { hs with queue := f hs.queue }

/-- A bound entry leaves the running order, and its station loses the binding in the same event (R40). -/
def State.removeEntry (s : State) (i : StationId) : State :=
  (s.modQueue (s.station i).house fun q => dropEntry q i).holdCounter i

/-! ### READY and IDLE -/

/-- The entry at position 1 is bound (R41). -/
def House.headBound (hs : House) : Bool :=
  match hs.queue with
  | [] => false
  | e :: _ => e.bound.isSome

/-- A house that is IDLE or READY takes READY when position 1 is bound and IDLE otherwise (R41); the hold cause
becomes NONE at each entry to IDLE (chapter 3.1). -/
def House.readyTest (hs : House) : House :=
  match hs.engine with
  | .idle | .ready => { hs with engine := if hs.headBound then .ready else .idle, hold := .none }
  | _ => hs

/-- A house sent to IDLE takes the test of R41 at that event. -/
def House.toIdle (hs : House) : House :=
  ({ hs with engine := .idle, hold := .none } : House).readyTest

/-- A HOLD or INTERVAL house whose running order becomes empty by PD or PC goes to IDLE (R65). -/
def House.emptyTest (hs : House) : House :=
  match hs.engine with
  | .hold | .interval => if hs.queue.isEmpty then hs.toIdle else hs
  | _ => hs

def State.readyTest (s : State) (h : HouseId) : State := s.modHouse h House.readyTest

end Sys2Proof.Machine
end

