-- ==== Sys2Proof/Machine/Faults.lean ====
section
/-!
DEFINITION. The states into which the house engine is forced: entry to FAULT with its record (R61, R63), entry to
SUSPENDED and the return from it (R66, R67), and the interlock event (R17).
-/

namespace Sys2Proof.Machine

/-- The record latched at an entry to FAULT (R63): the label of the entry bound to the fault's station, or of the head
entry where the station is unbound. -/
def State.faultRecord (s : State) (h : HouseId) (cause : FaultCause) (i : Option StationId) : FaultRecord :=
  { cause := cause
    station := i
    label := match i.bind s.boundEntry with
      | some e => some e.label
      | none => (s.house h).queue.head?.map (·.label)
    time := s.clock.time
    counter := i.map fun i => (s.station i).counter
    read := false }

/-- Latching a fault record, unless one is held, asserts ATTENTION (R63, R177). -/
def State.latchFault (s : State) (h : HouseId) (r : FaultRecord) : State :=
  if (s.house h).fault.isSome then s
  else (s.modHouse h fun hs => { hs with fault := some r }).assertAttention

/-- Entry to FAULT, one event (R63). -/
def State.enterFault (s : State) (h : HouseId) (cause : FaultCause) (i : Option StationId) : State :=
  let engaged := StationId.all.filter fun j => (s.station j).house = h && s.engaged j
  let t := s.darkenHouse h
  let t := t.forStations engaged fun j t => t.stopMotor j
  let t := t.holdFade h
  let t := t.latchFault h (s.faultRecord h cause i)
  t.modHouse h fun hs =>
    { hs with engine := .fault, step := none, lampWait := false, regime := none, reel := Reel.clear
              queue := stopPlaying hs.queue }

/-- The engine states that count as a running show at a booth trip (R66). -/
def EngineState.showAtTrip : EngineState → Bool
  | .starting | .playing | .preparing | .motorCued | .runDown | .hold | .interval | .fault => true
  | .idle | .ready | .suspended => false

/-- The house record at entry to SUSPENDED (R66). -/
def House.toSuspended (hs : House) : House :=
  { hs with engine := .suspended, showRunning := hs.engine.showAtTrip, step := none, lampWait := false
            regime := none, reel := Reel.clear, queue := stopPlaying hs.queue }

/-- Entry to SUSPENDED at a booth trip; a house already SUSPENDED is unchanged (R66). -/
def State.suspend (s : State) (h : HouseId) : State :=
  if (s.house h).engine = .suspended then s else ((s.darkenHouse h).holdFade h).modHouse h House.toSuspended

/-- Leaving SUSPENDED at fire clear (R67). -/
def House.unsuspend (hs : House) : House :=
  if hs.engine = .suspended then
    let cleared := { hs with showRunning := false }
    if hs.fault.isSome then { cleared with engine := .fault }
    else if hs.showRunning && !hs.queue.isEmpty then { cleared with engine := .hold, hold := .suspend }
    else cleared.toIdle
  else hs

/-- An interlock event latches the warning, and faults the house of an engaged station (R17). -/
def State.interlockEvent (s : State) (i : StationId) : State :=
  let t := s.latch (.interlock i)
  if s.engaged i then t.enterFault (s.station i).house .interlock (some i) else t

/-- LD qualified open in ENFORCE: the lamp is extinguished, and the douser closes by R11 (R15). -/
def State.enforceLd (s : State) (i : StationId) : State := (s.extinguish i).interlockEvent i

/-- MD qualified open in ENFORCE: the motor stops and the douser demand is set CLOSED (R16). -/
def State.enforceMd (s : State) (i : StationId) : State := ((s.stopMotor i).closeDemand i).interlockEvent i

end Sys2Proof.Machine
end

