-- ==== Sys2Proof/Machine/Trips.lean ====
section
/-!
DEFINITION. The fire monitor's shared operations: the trip capture (R162, R163), a station trip with its actions on the
station and its house (R153 to R156), the release of ports (R161), the booth trip (R157, R158) and fire clear (R166).
-/

namespace Sys2Proof.Machine

/-! ### The capture -/

def StationCause.capture : StationCause → Option CaptureCause
  | .filmBreak => some .filmBreak
  | .gate => some .gate
  | .lampHeat => some .lampHeat
  | .booth => none

def BoothCause.capture : BoothCause → CaptureCause
  | .alarm => .alarm
  | .manual => .manual
  | .link => .link
  | .console => .console

/-- The flags with the flag of one cause SET. -/
def TripFlags.set (f : TripFlags) : CaptureCause → TripFlags
  | .filmBreak => { f with filmBreak := true }
  | .gate => { f with gate := true }
  | .lampHeat => { f with lampHeat := true }
  | .alarm => { f with alarm := true }
  | .manual => { f with manual := true }
  | .link => { f with link := true }
  | .console => { f with console := true }

/-- The fields of a capture as they stand at the moment before the trip's actions (R163). -/
def State.captureFields (s : State) (cause : CaptureCause) (i : Option StationId) : CaptureFields :=
  { cause := cause
    station := i
    house := i.map fun i => (s.station i).house
    time := s.clock.time
    counter := i.map fun i => (s.station i).counter
    lamp := i.map fun i => (s.station i).lamp.state
    onScreen := i.map s.isOnScreen }

/-- A trip at the capture: it fills an EMPTY or READ capture, and in LOCKED sets its flag and counts (R162). -/
def Fire.captureTrip (f : Fire) (fields : CaptureFields) : Fire :=
  match f.capture with
  | .locked _ => { f with flags := f.flags.set fields.cause, further := min (f.further + 1) 255 }
  | .empty | .read _ => { f with capture := .locked fields }

/-- A trip at the capture, which asserts ATTENTION in either case (R162). -/
def State.captureTrip (s : State) (cause : CaptureCause) (i : Option StationId) : State :=
  { s with fire := s.fire.captureTrip (s.captureFields cause i) }.assertAttention

/-! ### Station trips -/

/-- A release of a house's ports; a pulse already running runs to its original end (R161). -/
def State.releasePorts (s : State) (h : HouseId) : State :=
  s.modHouse h fun hs => { hs with releasePulse := true }

/-- A GATE event acts on the station's house: the FIRE layer and the ports (R156). -/
def State.gateAction (s : State) (h : HouseId) : State := (s.setFire h).releasePorts h

/-- The actions of a trip on the station and its lamp (R154, R19). -/
def State.tripStation (s : State) (i : StationId) (cause : StationCause) : State :=
  let t := s.modStation i fun st =>
    { st.stopMotor with trip := some cause, demandOpen := false, csOpen := false
                        channel := { st.channel with jog := none, fsPulses := 0 } }
  t.extinguish i

/-- The entry of a RUN-OUT station leaves the running order (R40, R155). -/
def State.dropRunOut (s : State) (i : StationId) : State :=
  match s.boundEntry i with
  | some e => if e.status = .runOut then s.removeEntry i else s
  | none => s

/-- A station trip acts on the house by the role the station held before it (R155). -/
def State.tripHouse (s : State) (i : StationId) (engaged : Bool) : State :=
  let h := (s.station i).house
  if engaged then s.enterFault h .trip (some i)
  else (s.dropRunOut i).readyTest h

/-- An event that trips a station for one of its own causes (R153): a trip at the capture, the trip and its actions
when the station is UNTRIPPED, and for GATE the action on the house. An absent station is not tripped (R152). -/
def State.stationTrip (s : State) (i : StationId) (cause : StationCause) (capture : CaptureCause) : State :=
  if (s.station i).present then
    let h := (s.station i).house
    let t := s.captureTrip capture (some i)
    let t := if (s.station i).trip.isSome then t else (t.tripStation i cause).tripHouse i (s.engaged i)
    if cause = .gate then t.gateAction h else t
  else s

def State.tripGate (s : State) (i : StationId) : State := s.stationTrip i .gate .gate
def State.tripLampHeat (s : State) (i : StationId) : State := s.stationTrip i .lampHeat .lampHeat
def State.tripBreak (s : State) (i : StationId) : State := s.stationTrip i .filmBreak .filmBreak

/-! ### The booth trip -/

/-- A present station is tripped with cause BOOTH; one already TRIPPED keeps its cause and its outputs (R158). -/
def State.tripBooth (s : State) (i : StationId) : State :=
  if (s.station i).present && (s.station i).trip.isNone then s.tripStation i .booth else s

/-- A booth trip acts on a house: SUSPENDED unless it is an UNUSED house in IDLE, the FIRE layer and the ports (R158). -/
def State.tripBoothHouse (s : State) (h : HouseId) : State :=
  let t := if s.mode h = .unused && (s.house h).engine = .idle then s else s.suspend h
  t.gateAction h

/-- A booth trip comes IN FORCE (R158). -/
def State.boothTripActions (s : State) (cause : BoothCause) : State :=
  let t := { s with fire := { s.fire with booth := some cause } }
  let t := t.forStations StationId.all fun i t => (t.tripBooth i).dropRunOut i
  t.forHouses HouseId.all fun h t => t.tripBoothHouse h

/-- An event of R157: a trip at the capture, and the booth trip when none is in force. -/
def State.boothTrip (s : State) (cause : BoothCause) : State :=
  let t := s.captureTrip cause.capture none
  if s.fire.booth.isSome then t else t.boothTripActions cause

/-! ### Changes under a standing booth trip -/

/-- A station that is present while a booth trip is in force is brought under it (R159). -/
def State.underBoothTrip (s : State) (i : StationId) : State :=
  if s.fire.booth.isSome then s.tripBooth i else s

/-- A house that is not UNUSED while a booth trip is in force leaves IDLE for SUSPENDED, its show-running flag clear
(R159). That entry starts no fade, since a station reset changes no light channel (R151; log 13). -/
def State.suspendUnderBoothTrip (s : State) (h : HouseId) : State :=
  if s.fire.booth.isSome && s.mode h != .unused && (s.house h).engine == .idle then
    (s.darkenHouse h).modHouse h House.toSuspended
  else s

/-! ### Fire clear -/

/-- Whether a trip input of fire clear stands in its trip condition: FA, MT and FL, and GH and LT of every present
station (R165). -/
def State.inputStands (s : State) : Bool :=
  s.fire.fa == .opened || s.fire.mt == .opened || s.fire.fl == .opened ||
    StationId.all.any fun i => (s.station i).present && ((s.station i).gh == .opened || (s.station i).lt == .opened)

/-- A taken fire clear (R166). -/
def State.fireClear (s : State) : State :=
  let t := { s with fire := { s.fire with booth := none } }
  let t := t.forStations StationId.all fun i t => t.modStation i fun st => { st with trip := none }
  t.forHouses HouseId.all fun h t => t.modHouse h fun hs => { hs.unsuspend with light := hs.light.fireToPanic }

end Sys2Proof.Machine
end

