-- ==== Sys2Proof/Machine/Engine.lean ====
section
/-!
DEFINITION. The house engine: start commands (R5, R153), cues (R49 to R54), the change instant (R55, R56), missed
changeovers (R57, R58), reel ends (R59), the start sequence (R45 to R48), and what the engine does at a change of a
lamp's state (R46, R47, R61).
-/

namespace Sys2Proof.Machine

/-! ### Start commands -/

/-- The refusal of a start command (R5). -/
def State.startRefusal (s : State) (i : StationId) : Option ErrorCode :=
  let st := s.station i
  firstRefusal
    [(st.condition == .resetting, .by_), (!st.present, .st), (s.tripped i, .fi), (st.md.enforced, .st)]

/-- A start command that is taken, and what the taker does with it before a film break found open trips the station
in the same event (R5, R153). -/
def State.startMotorThen (s : State) (i : StationId) (act : State → State) : State :=
  let fresh := !(s.station i).motor.running
  let t := act (s.modStation i Station.startMotor)
  if fresh && (s.station i).fb == .opened then t.tripBreak i else t

/-! ### Cues -/

/-- The strike cue frame: 24 frames for each second of lead ahead of the motor cue, or 0 (R28). -/
def strikeFrame (motor lead : Nat) : Nat := motor - 24 * lead

/-- Cue processing is permitted (R49). -/
def House.cuesPermitted (hs : House) : Bool :=
  hs.engine.cueing && hs.regime == some .changeover && hs.next.isSome &&
    match hs.playing with
    | some e => !e.stop
    | none => false

/-- The last cue of a reel that is due from footage at a counter: 1 strike, 2 motor, 3 change, 0 none (R50). -/
def footageLevel (e : Entry) (lead counter : Nat) : Nat :=
  if e.cue != .sensor && e.change ≤ counter then 3
  else if e.cue != .sensor && e.motor ≤ counter then 2
  else if strikeFrame e.motor lead ≤ counter then 1
  else 0

/-- The footage level of the reel on screen of a house. -/
def State.footage (s : State) (h : HouseId) : Nat :=
  let hs := s.house h
  match hs.playing, hs.onScreen with
  | some e, some i => footageLevel e hs.settings.lead (s.station i).counter
  | _, _ => 0

/-- The strike cue (R52). -/
def State.strikeCue (s : State) (h : HouseId) : State :=
  let t := s.modHouse h fun hs => { hs with engine := .preparing, reel := { hs.reel with strike := .taken } }
  match (s.house h).next with
  | some e =>
    match e.bound with
    | some j =>
      let t := t.incomingCheck h j e.length
      if (t.station j).lamp.state = .cold then (t.requestStrike j).1 else t
    | none => t.latch (.notThreaded h)
  | none => t

/-- The missed mark set NOT-THREADED at the motor cue (R53). -/
def State.markNotThreaded (s : State) (h : HouseId) : State :=
  s.modHouse h fun hs => { hs with reel := { hs.reel with missed := some .notThreaded } }

/-- The motor cue (R53). -/
def State.motorCue (s : State) (h : HouseId) : State :=
  let t := s.modHouse h fun hs => { hs with engine := .motorCued, reel := { hs.reel with motor := .taken } }
  match (s.house h).next with
  | some e =>
    match e.bound with
    | some j =>
      match t.startRefusal j with
      | none => t.startMotorThen j fun u => u.action h e.ms
      | some _ => t.markNotThreaded h
    | none => t.markNotThreaded h
  | none => t.markNotThreaded h

/-- The incoming reel is ready: no missed mark, the next entry bound, its lamp in BURN, its motor AT-SPEED and the
ports UP (R54). -/
def State.changeReady (s : State) (h : HouseId) : Bool :=
  let hs := s.house h
  match hs.incoming with
  | some j =>
    hs.reel.missed.isNone && (s.station j).lamp.state == .burn && (s.station j).motor == .atSpeed && hs.port == .up
  | none => false

/-- The reason of a missed change cue: the missed mark, or LAMP, or SPEED (R57). With the lamp out of BURN and the motor
not AT-SPEED at once the reason is LAMP, the model's choice (log 26). A next reel found unbound is NOT-THREADED (log 7);
with no reason left the manual states none, and the reason is free (log 10). -/
def State.missReason (s : State) (h : HouseId) : MissReason × State :=
  let hs := s.house h
  match hs.reel.missed with
  | some r => (r, s)
  | none =>
    match hs.incoming with
    | none => (.notThreaded, s)
    | some j =>
      if (s.station j).lamp.state != .burn then (.lamp, s)
      else if (s.station j).motor != .atSpeed then (.speed, s)
      else
        (match Config.freeChoice s.draws % 4 with
          | 0 => .notThreaded
          | 1 => .lamp
          | 2 => .speed
          | _ => .sensor,
         { s with draws := s.draws + 1 })

/-- The incoming station, if any, is given a stop command. -/
def State.stopIncoming (s : State) (h : HouseId) : State :=
  match (s.house h).incoming with
  | some j => s.stopMotor j
  | none => s

/-- Entry to RUN-DOWN at a missed change cue (R57). -/
def State.runDown (s : State) (h : HouseId) : State :=
  let (r, t) := s.missReason h
  let t := (t.stopIncoming h).latch (.missed h r)
  t.modHouse h fun hs =>
    { hs with engine := .runDown, reel := { hs.reel with change := .taken, missed := some r } }

/-- The regime recorded at a picture (R44). -/
def HouseMode.regime : HouseMode → Option Regime
  | .changeover => some .changeover
  | .single => some .single
  | .unused => none

/-- The reel of a station takes the screen: the shortfall mark CLEAR (R134), demand OPEN and the shutter commanded
open (R48, R55). -/
def State.takeScreen (s : State) (i : StationId) : State :=
  ((s.modCarbon i fun c => { c with mark := .clear }).openDemand i).openShutter i

/-- The change instant, less the tests of the new reel that follow it (R55, R56). -/
def State.changeInstant (s : State) (h : HouseId) (out inc : StationId) (e : Entry) : State :=
  let skew : Int := ((s.station inc).counter : Int) - e.first
  let t := (s.takeScreen inc).darken out
  let t := t.extinguish out
  let t := t.modQueue h fun q => setStatus (setStatus q out .runOut) inc .playing
  let t := t.action h e.pi
  let t := t.modHouse h fun hs =>
    { hs with engine := .playing, skew := some skew, reel := Reel.clear, regime := (s.mode h).regime }
  if 24 < skew.natAbs then t.latch (.cueSkew h) else t

/-- The change instant of a house whose incoming reel is ready; `start` makes the tests of the new reel (R55). -/
def State.makeChange (start : State → State) (s : State) (h : HouseId) : State :=
  match (s.house h).onScreen, (s.house h).next, (s.house h).incoming with
  | some out, some e, some inc => start (s.changeInstant h out inc e)
  | _, _, _ => s

/-- The change cue (R54): the change instant when the incoming reel is ready, and otherwise RUN-DOWN. -/
def State.changeCue (start : State → State) (s : State) (h : HouseId) : State :=
  if s.changeReady h then s.makeChange start h else s.runDown h

/-- Every cue up to a level is taken, in order, each at most once and only while R49 permits (R49, R50). -/
def State.takeCues (start : State → State) (s : State) (h : HouseId) (level : Nat) : State :=
  let due (n : Nat) (flag : Reel → CueFlag) (t : State) : Bool :=
    n ≤ level && (t.house h).cuesPermitted && flag (t.house h).reel == .pending
  let t := if due 1 (·.strike) s then s.strikeCue h else s
  let t := if due 2 (·.motor) t then t.motorCue h else t
  if due 3 (·.change) t then t.changeCue start h else t

/-! ### Reel ends -/

/-- The station of a reel that ends on screen is closed down (R58, R59). -/
def State.closeDown (s : State) (i : StationId) : State := ((s.darken i).stopMotor i).extinguish i

/-- The tail of a missed changeover (R58). -/
def State.endMissed (s : State) (h : HouseId) (i : StationId) (e : Entry) : State :=
  let t := (s.closeDown i).removeEntry i
  let t := match e.en with
    | some a => t.fade h a.level a.time
    | none => t.holdFade h
  t.modHouse h fun hs =>
    let hs := { hs with regime := none }
    if hs.queue.isEmpty then hs.toIdle else { hs with engine := .hold, hold := .missed hs.reel.missed }

/-- A tail in PREPARING or MOTOR-CUED while cues are permitted: a missed changeover found at the tail (R58). -/
def State.missAtTail (s : State) (h : HouseId) : State :=
  let r := (s.house h).reel.missed.getD .sensor
  let t := s.modHouse h fun hs => { hs with reel := { hs.reel with missed := some r } }
  (t.stopIncoming h).latch (.missed h r)

/-- The tail of a last, stop-flag or SINGLE-regime reel (R59). -/
def State.endReel (s : State) (h : HouseId) (i : StationId) (e : Entry) : State :=
  let t := ((s.closeDown i).removeEntry i).action h e.en
  t.modHouse h fun hs =>
    let hs := { hs with regime := none, reel := Reel.clear }
    if hs.queue.isEmpty then hs.toIdle else { hs with engine := .interval }

/-- The tail of the reel on screen (R58, R59). -/
def State.onScreenTail (s : State) (h : HouseId) (i : StationId) (e : Entry) : State :=
  let hs := s.house h
  if hs.engine = .runDown then s.endMissed h i e
  else if hs.cuesPermitted then (s.missAtTail h).endMissed h i e
  else s.endReel h i e

/-- The tail of a bound station: a RUN-OUT station stops itself and its entry leaves (R10, R40); the on-screen station's
reel ends as the engine gives; any other tail changes nothing. -/
def State.reelTail (s : State) (i : StationId) : State :=
  let h := (s.station i).house
  match s.boundEntry i with
  | some e =>
    match e.status with
    | .runOut => ((s.stopMotor i).removeEntry i).readyTest h
    | .playing => if (s.house h).onScreen = some i then s.onScreenTail h i e else s
    | .waiting | .threaded => s
  | none => s

/-- The counter of a bound station stands at or beyond its entry's length (R48). -/
def State.atTail (s : State) (i : StationId) : Bool :=
  match s.boundEntry i with
  | some e => e.length ≤ (s.station i).counter
  | none => false

/-- A reel begins on screen: its cues are tested at once, then its tail is taken at once (R48, R55). Each change
instant moves the screen one entry further, so the length of the queue bounds the reels begun in one event. -/
def State.beginReel : Nat → HouseId → State → State
  | 0, _, s => s
  | n + 1, h, s =>
    let t := s.takeCues (State.beginReel n h) h (s.footage h)
    match (s.house h).onScreen with
    | some i => if t.atTail i then t.reelTail i else t
    | none => t

/-- The tests that follow the start of PLAYING or a change instant (R48, R55). -/
def State.testReel (s : State) (h : HouseId) : State :=
  State.beginReel ((s.house h).queue.length + 1) h s

/-- The cues that are due from footage (R50). -/
def State.testFootage (s : State) (h : HouseId) : State :=
  s.takeCues (fun t => t.testReel h) h (s.footage h)

/-! ### The start sequence -/

/-- The picture at the end of the LEADER step (R48). -/
def State.picture (s : State) (h : HouseId) (i : StationId) : State :=
  let action := (s.house h).queue.head?.bind (·.pi)
  let t := (s.takeScreen i).action h action
  let t := t.modHouse h fun hs =>
    { hs with engine := .playing, step := none, lampWait := false, regime := (s.mode h).regime
              queue := setStatus hs.queue i .playing }
  t.testReel h

/-- The LEADER step (R48): passed at once when the counter stands at or beyond the first picture. -/
def State.leaderTest (s : State) (h : HouseId) (i : StationId) : State :=
  match (s.house h).queue.head? with
  | some e => if e.first ≤ (s.station i).counter then s.picture h i else s
  | none => s

def State.leaderStep (s : State) (h : HouseId) (i : StationId) : State :=
  (s.modHouse h fun hs => { hs with step := some .leader }).leaderTest h i

/-- The RUNUP step (R47): the MS action is applied whether the start command is taken or refused (R144). -/
def State.runUpStep (s : State) (h : HouseId) (i : StationId) : State :=
  let ms := (s.house h).queue.head?.bind (·.ms)
  let t := s.modHouse h fun hs => { hs with step := some .runUp, lampWait := false }
  match t.startRefusal i with
  | some _ => (t.action h ms).enterFault h .start (some i)
  | none =>
    let u := t.startMotorThen i fun v => v.action h ms
    if (u.house h).engine = .starting && (u.station i).motor = .atSpeed then u.leaderStep h i else u

/-- The lamp-wait timer is started at 90 s (R46). -/
def State.awaitLamp (s : State) (h : HouseId) : State := s.modHouse h fun hs => { hs with lampWait := true }

/-- The LAMP-WAIT step (R46). -/
def State.lampWaitStep (s : State) (h : HouseId) (i : StationId) : State :=
  match (s.station i).lamp.state with
  | .burn => s.runUpStep h i
  | .queued | .striking | .establish => s.awaitLamp h
  | .cold =>
    match s.requestStrike i with
    | (t, none) => t.awaitLamp h
    | (t, some _) => t.enterFault h .lamp (some i)
  | .stub | .lockout => s.enterFault h .lamp (some i)

/-- Entry to STARTING (R46). -/
def State.startSequence (s : State) (h : HouseId) (i : StationId) : State :=
  (s.modHouse h fun hs =>
    { hs with engine := .starting, step := some .lampWait, reel := Reel.clear, hold := .none }).lampWaitStep h i

/-- The states from which a show starts (R45). -/
def EngineState.startable : EngineState → Bool
  | .ready | .interval | .hold => true
  | _ => false

/-- The head's station when the head is bound and THREADED (R45). -/
def House.threadedHead (hs : House) : Option StationId :=
  match hs.queue with
  | [] => none
  | e :: _ => if e.status = .threaded then e.bound else none

/-- The refusals of GO after RG, in order; the answer of no refusal is the head station (R45). -/
def State.goCheck (s : State) (h : HouseId) : Except ErrorCode StationId :=
  let hs := s.house h
  if hs.engine = .starting then .error .by_
  else if hs.engine = .suspended then .error .fi
  else if !hs.engine.startable then .error .st
  else
    match hs.threadedHead with
    | none => .error .st
    | some i => if hs.port = .down || s.tripped i then .error .fi else .ok i

/-- A start by the changeover button or the start alarm, by the checks of GO: where GO would be refused ST it is not
made, and where GO would be refused FI the engine enters FAULT with cause START; in any other state than READY,
INTERVAL and HOLD nothing is done (R45). -/
def State.eventStart (s : State) (h : HouseId) : State :=
  if (s.house h).engine.startable then
    match s.goCheck h with
    | .ok i => s.startSequence h i
    | .error .fi => s.enterFault h .start (s.house h).threadedHead
    | .error _ => s
  else s

/-! ### Lamps and motors as the engine hears of them -/

/-- The engine's part in a change of a lamp's state that no trip, interlock or act of the engine itself made: BURN ends
LAMP-WAIT (R46); STUB, LOCKOUT or COLD of the start-sequence or on-screen lamp is a fault (R46, R47, R61). -/
def State.engineLamp (s : State) (i : StationId) : State :=
  let h := (s.station i).house
  let hs := s.house h
  match (s.station i).lamp.state with
  | .burn => if hs.startStation = some i && hs.step = some .lampWait then s.runUpStep h i else s
  | .stub | .lockout | .cold =>
    if hs.startStation = some i || hs.onScreen = some i then s.enterFault h .lamp (some i) else s
  | .queued | .striking | .establish => s

/-- The engine is told that a motor is at speed (R6, R47). -/
def State.engineAtSpeed (s : State) (i : StationId) : State :=
  let h := (s.station i).house
  let hs := s.house h
  if hs.startStation = some i && hs.step = some .runUp then s.leaderStep h i else s

/-- The engine is told of a SLOW motor fault (R47, R61). -/
def State.engineSlow (s : State) (i : StationId) : State :=
  let h := (s.station i).house
  if (s.house h).startStation = some i then s.enterFault h .motor (some i) else s

end Sys2Proof.Machine
end

