-- ==== Sys2Proof/Machine/LampRows.lean ====
section
/-!
DEFINITION. The commands of the lamp sequencer and the arbiter (06_striking_and_the_strike_supply.md): STRIKE_PULSE_END,
RECHARGE_END and the lines LS, LX, LC, SP.
-/

namespace Sys2Proof.Machine

/-- STRIKE_PULSE_END: the lamp enters ESTABLISH with its sample timer started (R112). -/
def execStrikePulseEnd (i : StationId) (s : State) : Host.Outcome State Fault Refusal :=
  if (s.station i).lamp.pulseTimer && (s.station i).lamp.state == .striking then done (s.setLamp i .establish)
  else done s

/-- RECHARGE_END: the supply becomes FREE, and a grant is tested (R114). -/
def execRechargeEnd (s : State) : Host.Outcome State Fault Refusal :=
  if s.arbiter.recharge then
    done ({ s with arbiter := { s.arbiter with supply := .free, recharge := false } } : State).testGrant
  else done s

/-- LS s: the console's strike request (R106, R107). -/
def answerLs (n : Int) : Answer := onStation n fun i s =>
  match s.strikeRefusal i with
  | some c => refuse s c
  | none => (s.takeStrike i, .ok)

def execLs (n : Int) (s : State) : Host.Outcome State Fault Refusal := consoleRow (.ls n) (answerLs n) s

/-- What LX does (R119): an extinguish that the house engine hears of, or the acknowledge of a LOCKOUT. -/
def State.consoleExtinguish (s : State) (i : StationId) : State :=
  match (s.station i).lamp.state with
  | .queued | .striking | .establish | .burn => (s.extinguish i).engineLamp i
  | .lockout => s.setLamp i .cold
  | .cold | .stub => s

/-- LX s (R119); a jog in progress ends (R102). -/
def answerLx (n : Int) : Answer := onStation n fun i s =>
  checked [((s.station i).condition == .resetting, .by_)]
    (fun s => ((s.endJog i).consoleExtinguish i, .ok)) s

def execLx (n : Int) (s : State) : Host.Outcome State Fault Refusal := consoleRow (.lx n) (answerLx n) s

/-- New carbon recorded: Rp as taken, the lamp STUB or COLD by the stub, the counts 0, a jog ended (R121). -/
def State.recordCarbon (s : State) (i : StationId) (t : Trim) (rp : Nat) : State :=
  let u := s.modStation i fun st =>
    { st with carbon := { st.carbon with rp := rp }
              lamp := { st.lamp with retry := 0, restrike := 0 }
              channel := { st.channel with jog := none } }
  u.setLamp i (if rp ≤ t.stub then .stub else .cold)

/-- LC s length (R121). -/
def answerLc (n len : Int) : Answer := onStation n fun i s =>
  checked [((s.station i).condition == .resetting, .by_), (!(s.station i).lamp.state.out, .st)]
    (fun s =>
      match (s.station i).trim with
      | none => refuse s .st
      | some t =>
        let (rp, moved) := clampField "LENGTH".toList 0 5000 len
        (s.recordCarbon i t rp, .okMoved moved)) s

def execLc (n len : Int) (s : State) : Host.Outcome State Fault Refusal := consoleRow (.lc n len) (answerLc n len) s

/-! ### The arbiter line -/

def Supply.words (a : Arbiter) : List Text :=
  match a.supply with
  | .free => ["FREE".toList]
  | .recharge => ["RECHARGE".toList]
  | .granted => ["GRANTED".toList, orNone stationText a.grant]

def StrikeClass.text : StrikeClass → Text
  | .normal => "NORMAL".toList
  | .urgent => "URGENT".toList

/-- The queued stations each with their class, in order of joining, or NONE (R182). -/
def State.queueWords (s : State) : List Text :=
  if s.arbiter.queue.isEmpty then ["NONE".toList]
  else s.arbiter.queue.flatMap fun i => [stationText i, orNone StrikeClass.text (s.station i).lamp.cls]

/-- The words of the SP reply (R111, R182). -/
def State.spWords (s : State) : List Text :=
  [orderModeText s.arbiter.mode, "ORDER".toList] ++ s.arbiter.order.map (fun i => decimal i.number) ++
    ["SUPPLY".toList] ++ Supply.words s.arbiter ++ ["QUEUE".toList] ++ s.queueWords

/-- SP, SP FIXED and SP ROTATE (R111). -/
def answerSp (mode : Option OrderMode) : Answer := fun s =>
  match mode with
  | none => (s, .record s.spWords)
  | some m => ({ s with arbiter := { s.arbiter with mode := m } }, .ok)

def execSp (mode : Option OrderMode) (s : State) : Host.Outcome State Fault Refusal :=
  consoleRow (.sp mode) (answerSp mode) s

end Sys2Proof.Machine
end

