-- ==== Sys2Proof/Machine/ArcRows.lean ====
section
/-!
DEFINITION. The commands of the arc measurement and feed unit and the carbon reckoner (05 and 07 of spec/):
REGULATION_SAMPLE, JOG_STEP, BUCKET_CLOSE and the lines LF, LP, LQ.
-/

namespace Sys2Proof.Machine

/-! ### The regulation sample -/

/-- One conversion: full scale reads 255 (R80). -/
def convert (x : Nat) : Nat := min x 255

/-- The floor of the sum of the period's four conversions divided by 4 (R82). -/
def sampleValue (c : Conversions) : Nat := (convert c.c1 + convert c.c2 + convert c.c3 + convert c.c4) / 4

/-- Vshort, 20 V, and Vopen, 90 V, as voltage codes (R80). -/
def vShort : Nat := 40
def vOpen : Nat := 180

/-- A sample in band: the current at least Imin, the voltage at least Vshort and below Vopen (R113). -/
def inBand (t : Trim) (v a : Nat) : Bool := t.imin ≤ a && vShort ≤ v && v < vOpen

/-- A loss sample (R84). -/
def lossSample (t : Trim) (v a : Nat) : Bool := a < t.imin || vOpen ≤ v

/-- A short sample (R85). -/
def shortSample (v : Nat) : Bool := v < vShort

/-- The effective error from the error and the deadband (R88). -/
def effectiveError (e : Int) (dead : Nat) : Int :=
  if e.natAbs ≤ dead then 0 else if 0 < e then e - dead else e + dead

/-- The credit after a sample's increment, at least 0 (R88, R89). -/
def creditAdded (p : Params) (credit v : Nat) : Nat :=
  ((credit : Int) + effectiveError ((v : Int) - p.vset) p.dead * p.gain).toNat

/-- The steps a credit pays for: at most one in STEP mode, at most four in BURST (R90, R91). -/
def stepsDue (p : Params) (credit : Nat) : Nat :=
  match p.mode with
  | .step => if p.thr ≤ credit then 1 else 0
  | .burst => min (credit / p.thr) 4

/-- The credit after the steps it pays for, clamped to T − 1 (R90 to R92). -/
def creditKept (p : Params) (credit : Nat) : Nat :=
  min (credit - stepsDue p credit * p.thr) (p.thr - 1)

/-- The open bucket with steps counted in, up to 255 (R128). -/
def countSteps (b : Option Nat) (k : Nat) : Option Nat := b.map fun n => min (n + k) 255

/-- The counts and steps of a sample that computes no feed (R84 to R86). -/
def State.noFeed (s : State) (i : StationId) (loss short : Nat) : State :=
  s.modChannel i fun c => { c with loss := loss, short := short, steps := 0, fsPulses := 0 }

/-- A feed sample: the credit, the steps due, and each step offered to the carbon reckoner (R88 to R94). A withheld
step sends the lamp to STUB in the same event, the steps before it standing with their pulses given (R93). -/
def State.feedSample (s : State) (i : StationId) (t : Trim) (p : Params) (v : Nat) : State :=
  let st := s.station i
  let credit := creditAdded p st.channel.credit v
  let (issued, rp, withheld) := offerSteps t (stepsDue p credit) st.carbon.rp
  let u := s.modStation i fun st =>
    { st with
        channel := { st.channel with loss := 0, short := 0, credit := creditKept p credit, steps := issued }
        carbon := { st.carbon with rp := rp, openBucket := countSteps st.carbon.openBucket issued } }
  let u := if withheld then u.setLamp i .stub else u
  let u := u.modChannel i fun c => { c with fsPulses := issued }
  if withheld then u.engineLamp i else u

/-- The arc lost: a restrike, URGENT for the on-screen station, or LOCKOUT (R116). -/
def State.arcLost (s : State) (i : StationId) : State :=
  let st := s.station i
  if (s.house st.house).settings.restrike && st.lamp.restrike < 2 && st.reserveHolds then
    let cls : StrikeClass := if s.isOnScreen i then .urgent else .normal
    ((s.modLamp i fun l => { l with restrike := l.restrike + 1 }).setLamp i .queued (some cls)).testGrant
  else (s.setLamp i .lockout).engineLamp i

/-- The tests of a sample taken in BURN (R84 to R86). -/
def State.burnSample (s : State) (i : StationId) (t : Trim) (p : Params) (v a : Nat) : State :=
  let c := (s.station i).channel
  let loss := if lossSample t v a then c.loss + 1 else 0
  let short := if shortSample v then c.short + 1 else 0
  if !lossSample t v a && !shortSample v then s.feedSample i t p v
  else
    let u := s.noFeed i loss short
    if 3 ≤ short then (u.setLamp i .lockout).engineLamp i
    else if 2 ≤ loss then u.arcLost i
    else u

/-- The test of a sample taken in ESTABLISH (R113, R115). -/
def State.establishSample (s : State) (i : StationId) (t : Trim) (v a : Nat) : State :=
  let l := (s.station i).lamp
  if inBand t v a then
    if l.establish + 1 < 15 then s.modLamp i fun l => { l with establish := l.establish + 1 }
    else (s.setLamp i .burn).engineLamp i
  else
    let u := s.modLamp i fun l => { l with retry := l.retry + 1 }
    if l.retry + 1 < 3 then (u.setLamp i .queued l.granted).testGrant
    else (u.setLamp i .lockout).engineLamp i

/-- REGULATION_SAMPLE: the period's conversions form a sample, and the lamp state decides what is done with it (R82). -/
def execRegulationSample (i : StationId) (volts amps : Conversions) (s : State) :
    Host.Outcome State Fault Refusal :=
  let st := s.station i
  match st.trim, st.channel.params with
  | some t, some p =>
    if st.channel.sampleTimer then
      let v := sampleValue volts
      let a := sampleValue amps
      let u := s.modChannel i fun c => { c with vc := some v, ic := some a, status := .live, steps := 0, fsPulses := 0 }
      match st.lamp.state with
      | .establish => done (u.establishSample i t v a)
      | .burn => done (u.burnSample i t p v a)
      | _ => done s
    else done s
  | _, _ => done s

/-! ### Jogging -/

/-- JOG_STEP: one jog step is offered to the reckoner (R101). -/
def execJogStep (i : StationId) (s : State) : Host.Outcome State Fault Refusal :=
  let st := s.station i
  match st.channel.jog, st.trim with
  | some n, some t =>
    match offerStep t st.carbon.rp with
    | some rp =>
      done (s.modStation i fun st =>
        { st with
            carbon := { st.carbon with rp := rp }
            channel := { st.channel with jog := if n ≤ 1 then none else some (n - 1), fsPulses := 1 } })
    | none =>
      let t := (s.endJog i).modChannel i fun c => { c with fsPulses := 0 }
      done ((t.setLamp i .stub).engineLamp i)
  | _, _ => done s

/-- LF s n (R100). -/
def answerLf (n count : Int) : Answer := onStation n fun i s =>
  let st := s.station i
  checked
    [(st.condition == .resetting, .by_), (st.channel.jog.isSome, .by_), (s.tripped i, .fi), (!st.present, .st),
     (st.lamp.state != .cold, .st)]
    (fun s =>
      let (k, moved) := clampField "COUNT".toList 1 200 count
      (s.modChannel i fun c => { c with jog := some k }, .okMoved moved)) s

def execLf (n count : Int) (s : State) : Host.Outcome State Fault Refusal := consoleRow (.lf n count) (answerLf n count) s

/-! ### The burn-rate window -/

/-- The window with a count at its newest end, the eight most recent kept (R129). -/
def closeBucket (w : List Nat) (n : Nat) : List Nat :=
  let w' := w ++ [n]
  w'.drop (w'.length - 8)

/-- BUCKET_CLOSE: the open bucket closes into the window, a new one opens, and the on-screen check is made (R129). -/
def execBucketClose (i : StationId) (s : State) : Host.Outcome State Fault Refusal :=
  let c := (s.station i).carbon
  match c.openBucket with
  | some n =>
    if c.bucketTimer then
      done ((s.modCarbon i fun c => { c with window := closeBucket c.window n, openBucket := some 0 }).onScreenCheck i)
    else done s
  | none => done s

/-! ### Lamp parameters -/

/-- The credit clamped where a new threshold leaves it above T − 1 (R98). -/
def Channel.setParams (c : Channel) (p : Params) : Channel :=
  { c with params := some p, credit := min c.credit (p.thr - 1) }

/-- The parameters changed by one word, and the words of a moved value (R97, R99). -/
def changeParams (t : Trim) (p : Params) : ParamArg → Params × List Text
  | .vset n => let (v, m) := clampField "VSET".toList 60 160 n; ({ p with vset := v }, m)
  | .dead n => let (v, m) := clampField "DEAD".toList 0 20 n; ({ p with dead := v }, m)
  | .gain n => let (v, m) := clampField "GAIN".toList 1 15 n; ({ p with gain := v }, m)
  | .thr n => let (v, m) := clampField "THR".toList 16 1024 n; ({ p with thr := v }, m)
  | .mode m => ({ p with mode := m }, [])
  | .default => (t.params, [])

/-- LP s word value and LP s DEFAULT (R97 to R99). -/
def answerLp (n : Int) (arg : ParamArg) : Answer := onStation n fun i s =>
  checked [((s.station i).condition == .resetting, .by_)]
    (fun s =>
      match (s.station i).trim, (s.station i).channel.params with
      | some t, some p =>
        let (q, moved) := changeParams t p arg
        (s.modChannel i fun c => c.setParams q, .okMoved moved)
      | _, _ => refuse s .st) s

def execLp (n : Int) (arg : ParamArg) (s : State) : Host.Outcome State Fault Refusal :=
  consoleRow (.lp n arg) (answerLp n arg) s

/-! ### The lamp query -/

def SampleStatus.text : SampleStatus → Text
  | .live => "LIVE".toList
  | .held => "HELD".toList

def Basis.text : Basis → Text
  | .window => "WINDOW".toList
  | .nominal => "NOMINAL".toList

/-- The lamp's place in the arbiter: Qn with the lamps that would be granted before it, GRANTED, or NONE (R123). -/
def State.arbiterPlace (s : State) (i : StationId) : Text :=
  if (s.station i).lamp.state = .queued then
    'Q' :: decimal (grantsBefore s.arbiter.mode s.urgent i s.arbiter.queue.length s.arbiter.order s.arbiter.queue)
  else if s.arbiter.grant = some i then "GRANTED".toList
  else "NONE".toList

/-- The five parameters, or NONE for an absent station (R103, R182). -/
def paramWords (p : Option Params) : List Text :=
  ["VSET".toList, orNone (fun p => decimal p.vset) p, "DEAD".toList, orNone (fun p => decimal p.dead) p,
   "GAIN".toList, orNone (fun p => decimal p.gain) p, "THR".toList, orNone (fun p => decimal p.thr) p,
   "MODE".toList, orNone (fun p => feedModeText p.mode) p]

/-- The closed buckets, oldest first, or NONE (R137, R182). -/
def bucketWords (w : List Nat) : List Text := if w.isEmpty then ["NONE".toList] else w.map decimal

/-- The words of the LQ reply (R103, R123, R137, R182). -/
def State.lqWords (s : State) (i : StationId) : List Text :=
  let st := s.station i
  let l := st.lamp
  let c := st.channel
  let k := st.carbon
  [stationText i, l.state.text, "CLASS".toList, orNone StrikeClass.text l.cls,
   "RETRY".toList, decimal l.retry, "RESTRIKE".toList, decimal l.restrike,
   "EST".toList, if l.state = .establish then decimal l.establish else "NONE".toList,
   "ARB".toList, s.arbiterPlace i,
   "V".toList, orNone decimal c.vc, "I".toList, orNone decimal c.ic, c.status.text,
   "LOSS".toList, decimal c.loss, "SHORT".toList, decimal c.short, "C".toList, decimal c.credit,
   "STEPS".toList, decimal c.steps] ++ paramWords c.params ++
  ["JOG".toList, orNone decimal c.jog,
   "RP".toList, decimal k.rp, "STUB".toList, orNone (fun t => decimal (Trim.stub t)) st.trim,
   "SP".toList, orNone (fun t => decimal (Trim.sp t)) st.trim,
   "LEFT".toList, orNone (fun t => decimal (stepsLeft t k.rp)) st.trim, "PRED".toList] ++
  (match st.prediction with
   | none => ["NONE".toList]
   | some (n, b) => [decimal n, b.text]) ++
  ["BK".toList] ++ bucketWords k.window ++
  ["OPEN".toList, orNone decimal k.openBucket,
   "MARK".toList, match k.mark with
     | .clear => "CLEAR".toList
     | .given => "GIVEN".toList]

/-- LQ s (R103). -/
def answerLq (n : Int) : Answer := onStation n fun i s => (s, .record (s.lqWords i))

def execLq (n : Int) (s : State) : Host.Outcome State Fault Refusal := consoleRow (.lq n) (answerLq n) s

end Sys2Proof.Machine
end

