-- ==== Sys2Proof/Machine/ClockRows.lean ====
section
/-!
DEFINITION. The show clock (04_the_show_clock.md): MAINS_CYCLE, CLOCK_SECOND, CK, CQ, AT, and the pre-strike worked out
afresh at a change of lead (R78).
-/

namespace Sys2Proof.Machine

/-- Seconds in the 24-hour clock. -/
def daySeconds : Nat := 86400

/-- A time so many seconds before another, round the 24-hour clock (R74). -/
def timeBefore (t lead : Nat) : Nat := (t + daySeconds - lead % daySeconds) % daySeconds

/-- How far one time lies ahead of another, counted forward round the 24-hour clock (R74). -/
def timeAhead (start t : Nat) : Nat := (t + daySeconds - start % daySeconds) % daySeconds

/-- PASSED when the present time lies from the pre-strike time up to the start time, and ARMED otherwise (R74). -/
def preState (start pre now : Nat) : PreState :=
  if timeAhead pre now < timeAhead pre start then .passed else .armed

/-- A start alarm armed (R74). -/
def armAlarm (start lead now : Nat) : Alarm :=
  { start := start, pre := timeBefore start lead, state := preState start (timeBefore start lead) now }

/-- The pre-strike worked out afresh at a change of lead; DONE stays DONE (R78). -/
def Alarm.changeLead (a : Alarm) (lead now : Nat) : Alarm :=
  { a with pre := timeBefore a.start lead
           state := if a.state = .done then .done else preState a.start (timeBefore a.start lead) now }

/-! ### Counting -/

/-- The pre-strike of a house fires: DONE, and a NORMAL request for a READY house's COLD head lamp (R75). -/
def State.firePreStrike (s : State) (h : HouseId) : State :=
  let t := s.modHouse h fun hs => { hs with alarm := hs.alarm.map fun a => { a with state := .done } }
  let hs := s.house h
  if hs.engine = .ready then
    match hs.queue.head?.bind (·.bound) with
    | some i => if (s.station i).lamp.state = .cold then (t.requestStrike i).1 else t
    | none => t
  else t

/-- The start alarm of a house fires: OFF, and the show starts from READY or MISSED START is latched (R76). -/
def State.fireAlarm (s : State) (h : HouseId) : State :=
  let t := s.modHouse h fun hs => { hs with alarm := none }
  if (s.house h).engine = .ready then t.eventStart h else t.latch (.missedStart h)

/-- Whether a house's pre-strike fires at a time reached by counting (R75). -/
def House.preStrikeDue (hs : House) (t : Nat) : Bool :=
  match hs.alarm with
  | some a => a.state == .armed && a.pre == t
  | none => false

/-- Whether a house's start alarm fires at a time reached by counting (R76). -/
def House.alarmDue (hs : House) (t : Nat) : Bool :=
  match hs.alarm with
  | some a => a.start == t
  | none => false

/-- What a time reached by counting does in one house (R75, R76). -/
def State.clockHouse (s : State) (h : HouseId) : State :=
  let t := if (s.house h).preStrikeDue s.clock.time then s.firePreStrike h else s
  if (t.house h).alarmDue s.clock.time then t.fireAlarm h else t

/-- The houses in which the time reached fires something. -/
def State.housesDue (s : State) : List HouseId :=
  HouseId.all.filter fun h => (s.house h).preStrikeDue s.clock.time || (s.house h).alarmDue s.clock.time

/-- The time of day advances one second, reached by counting (R71); houses whose times fall together are taken in an
order the manual leaves open (log 9). -/
def State.clockSecond (s : State) : State :=
  let t := { s with clock := { s.clock with cycles := 0, time := (s.clock.time + 1) % daySeconds } }
  let (due, t) := t.freeOrder t.housesDue
  t.forHouses due fun h u => u.clockHouse h

/-- MAINS_CYCLE: the cycle count advances, and at the mains frequency the second is reached (R71). -/
def execMainsCycle (s : State) : Host.Outcome State Fault Refusal :=
  if s.clock.cycles + 1 < mainsHertz s.clock.mains then
    done { s with clock := { s.clock with cycles := s.clock.cycles + 1 } }
  else done s.clockSecond

/-- CLOCK_SECOND: the cycle count has reached the mains frequency (R71; log 6). -/
def execClockSecond (s : State) : Host.Outcome State Fault Refusal := done s.clockSecond

/-! ### Lines -/

/-- CK hh mm ss, the seconds taken as 0 when left out (R72). -/
def answerCk (hh mm : Int) (ss : Option Int) : Answer :=
  let sec := ss.getD 0
  checked [(!(0 ≤ hh && hh ≤ 23 && 0 ≤ mm && mm ≤ 59 && 0 ≤ sec && sec ≤ 59), .rg)] fun s =>
    ({ s with clock := { s.clock with
        time := (hh * 3600 + mm * 60 + sec).toNat, cycles := 0, isSet := true } }, .ok)

def execCk (hh mm : Int) (ss : Option Int) (s : State) : Host.Outcome State Fault Refusal :=
  consoleRow (.ck hh mm ss) (answerCk hh mm ss) s

/-- AT h hh mm and AT h OFF (R74). -/
def answerAt (n : Int) (arg : AlarmArg) : Answer := onHouse n fun h s =>
  match arg with
  | .off => (s.modHouse h fun hs => { hs with alarm := none }, .ok)
  | .arm hh mm =>
    checked [(!(0 ≤ hh && hh ≤ 23 && 0 ≤ mm && mm ≤ 59), .rg), (!s.clock.isSet, .st)]
      (fun s =>
        (s.modHouse h fun hs =>
          { hs with alarm := some (armAlarm (hh * 3600 + mm * 60).toNat hs.settings.lead s.clock.time) }, .ok)) s

def execAt (n : Int) (arg : AlarmArg) (s : State) : Host.Outcome State Fault Refusal :=
  consoleRow (.atAlarm n arg) (answerAt n arg) s

def PreState.text : PreState → Text
  | .armed => "ARMED".toList
  | .done => "DONE".toList
  | .passed => "PASSED".toList

/-- A house's alarm in the CQ reply (R182). -/
def alarmWords (h : HouseId) : Option Alarm → List Text
  | none => [houseText h, "OFF".toList]
  | some a => [houseText h, timeText a.start, timeText a.pre, a.state.text]

/-- The words of the CQ reply (R73, R182). -/
def State.cqWords (s : State) : List Text :=
  timeText s.clock.time :: (if s.clock.isSet then "SET".toList else "NOT-SET".toList) ::
    HouseId.all.flatMap fun h => alarmWords h (s.house h).alarm

/-- CQ (R73). -/
def answerCq : Answer := fun s => (s, .record s.cqWords)

def execCq (s : State) : Host.Outcome State Fault Refusal := consoleRow .cq answerCq s

end Sys2Proof.Machine
end

