-- ==== Sys2Proof/Machine/EngineRows.lean ====
section
/-!
DEFINITION. The commands of the house engine (03_changeover_sequencing.md): CU_CLOSING, CB_CLOSING, LAMP_WAIT_TIMEOUT
and the lines GO, EN, CO, HQ, HF, HA, HS.
-/

namespace Sys2Proof.Machine

/-! ### Marks, the button and the lamp wait -/

/-- The first counter of the sensor window: the motor cue frame less 240, or 0 (R51). -/
def windowStart (e : Entry) : Nat := e.motor - 240

/-- Whether a cue mark of station i is counted (R51). -/
def State.markCounts (s : State) (i : StationId) : Bool :=
  let hs := s.house (s.station i).house
  hs.engine.cueing && hs.onScreen == some i && hs.reel.marks < 2 &&
    match hs.playing with
    | some e => windowStart e ≤ (s.station i).counter && (s.station i).counter ≤ e.length
    | none => false

/-- CU_CLOSING: a qualified closing of the cue sensor (R51). The first counted mark is a motor cue and the second a
change cue under SENSOR and FIRST. -/
def execCuClosing (i : StationId) (s : State) : Host.Outcome State Fault Refusal :=
  if s.markCounts i then
    let h := (s.station i).house
    let hs := s.house h
    let marks := hs.reel.marks + 1
    let t := s.modHouse h fun hs => { hs with reel := { hs.reel with marks := marks } }
    match hs.playing with
    | some e =>
      if e.cue = .footage then done t
      else done (t.takeCues (fun u => u.testReel h) h (if marks = 1 then 2 else 3))
    | none => done t
  else done s

/-- A manual change cue while MOTOR-CUED: the change instant when the incoming reel is ready (R54). -/
def State.manualChangeReady (s : State) (h : HouseId) : Bool :=
  (s.house h).engine == .motorCued && (s.house h).cuesPermitted && s.changeReady h

/-- CB_CLOSING: the changeover button starts a show, or makes a manual change (R45, R54). -/
def execCbClosing (h : HouseId) (s : State) : Host.Outcome State Fault Refusal :=
  if s.manualChangeReady h then done (s.makeChange (fun t => t.testReel h) h) else done (s.eventStart h)

/-- LAMP_WAIT_TIMEOUT: the head lamp is extinguished and the engine enters FAULT with cause LAMP (R46). -/
def execLampWaitTimeout (h : HouseId) (s : State) : Host.Outcome State Fault Refusal :=
  let hs := s.house h
  if hs.lampWait && hs.engine == .starting then
    match hs.startStation with
    | some i => done ((s.extinguish i).enterFault h .lamp (some i))
    | none => done (s.enterFault h .lamp none)
  else done s

/-! ### GO, EN, CO -/

/-- GO h (R45). -/
def answerGo (n : Int) : Answer := onHouse n fun h s =>
  match s.goCheck h with
  | .error c => refuse s c
  | .ok i => (s.startSequence h i, .ok)

def execGo (n : Int) (s : State) : Host.Outcome State Fault Refusal := consoleRow (.go n) (answerGo n) s

/-- The end of a show by EN, one event (R60). -/
def State.endShow (s : State) (h : HouseId) : State :=
  let own := s.stationsOf h
  let t := s.forStations own fun i t => t.closeDown i
  let t := t.forStations own fun i t => t.dropRunOut i
  let t := t.holdFade h
  t.modHouse h fun hs =>
    ({ hs with lampWait := false, step := none, regime := none, reel := Reel.clear
               queue := stopPlaying hs.queue } : House).toIdle

/-- EN h (R60). -/
def answerEn (n : Int) : Answer := onHouse n fun h s =>
  checked [(!(s.house h).engine.inShow, .st)] (fun s => (s.endShow h, .ok)) s

def execEn (n : Int) (s : State) : Host.Outcome State Fault Refusal := consoleRow (.en n) (answerEn n) s

/-- CO h (R54). -/
def answerCo (n : Int) : Answer := onHouse n fun h s =>
  if s.manualChangeReady h then (s.makeChange (fun t => t.testReel h) h, .ok) else refuse s .st

def execCo (n : Int) (s : State) : Host.Outcome State Fault Refusal := consoleRow (.co n) (answerCo n) s

/-! ### The fault record -/

def FaultCause.text : FaultCause → Text
  | .lamp => "LAMP".toList
  | .motor => "MOTOR".toList
  | .start => "START".toList
  | .trip => "TRIP".toList
  | .interlock => "INTERLOCK".toList
  | .port => "PORT".toList

/-- The words of the HF reply with a record held (R64, R182). -/
def FaultRecord.words (r : FaultRecord) : List Text :=
  [r.cause.text, orNone stationText r.station, orNone id r.label, timeText r.time, orNone decimal r.counter]

/-- HF h reads the fault record and sets its read flag (R64). -/
def answerHf (n : Int) : Answer := onHouse n fun h s =>
  match (s.house h).fault with
  | none => (s, .okNone)
  | some r => (s.modHouse h fun hs => { hs with fault := some { r with read := true } }, .record r.words)

def execHf (n : Int) (s : State) : Host.Outcome State Fault Refusal := consoleRow (.hf n) (answerHf n) s

/-- HA h acknowledges a read fault record (R64). -/
def answerHa (n : Int) : Answer := onHouse n fun h s =>
  checked
    [((s.house h).engine != .fault, .st),
     (match (s.house h).fault with
      | some r => !r.read
      | none => false, .lk)]
    (fun s =>
      (s.modHouse h fun hs =>
        let hs := { hs with fault := none }
        if hs.queue.isEmpty then hs.toIdle else { hs with engine := .hold, hold := .fault }, .ok)) s

def execHa (n : Int) (s : State) : Host.Outcome State Fault Refusal := consoleRow (.ha n) (answerHa n) s

/-! ### Settings -/

/-- The settings changed by one word, and the words of a moved value (R68). -/
def Settings.change (c : Settings) : SettingArg → Settings × List Text
  | .lead n => let (v, m) := clampField "LEAD".toList 10 300 n; ({ c with lead := v }, m)
  | .margin n => let (v, m) := clampField "MARGIN".toList 0 600 n; ({ c with margin := v }, m)
  | .level n => let (v, m) := clampField "LEVEL".toList 0 1000 n; ({ c with level := v }, m)
  | .fade n => let (v, m) := clampField "FADE".toList 0 60000 n; ({ c with fade := v }, m)
  | .restrike b => ({ c with restrike := b }, [])

/-- The words of the HS reply (R68, R182). -/
def Settings.words (h : HouseId) (c : Settings) : List Text :=
  [houseText h, "LEAD".toList, decimal c.lead, "MARGIN".toList, decimal c.margin, "LEVEL".toList, decimal c.level,
   "FADE".toList, decimal c.fade, "RESTRIKE".toList, onOffText c.restrike]

/-- HS h, and HS h word value (R68, R78). -/
def answerHs (n : Int) (arg : Option SettingArg) : Answer := onHouse n fun h s =>
  match arg with
  | none => (s, .record ((s.house h).settings.words h))
  | some a =>
    let (c, moved) := (s.house h).settings.change a
    (s.modHouse h fun hs =>
      { hs with settings := c
                alarm := match a with
                  | .lead _ => hs.alarm.map fun x => x.changeLead c.lead s.clock.time
                  | _ => hs.alarm }, .okMoved moved)

def execHs (n : Int) (arg : Option SettingArg) (s : State) : Host.Outcome State Fault Refusal :=
  consoleRow (.hs n arg) (answerHs n arg) s

/-! ### The house query -/

def HouseMode.text : HouseMode → Text
  | .changeover => "CHANGEOVER".toList
  | .single => "SINGLE".toList
  | .unused => "UNUSED".toList

def EngineState.text : EngineState → Text
  | .idle => "IDLE".toList
  | .ready => "READY".toList
  | .starting => "STARTING".toList
  | .playing => "PLAYING".toList
  | .preparing => "PREPARING".toList
  | .motorCued => "MOTOR-CUED".toList
  | .runDown => "RUN-DOWN".toList
  | .interval => "INTERVAL".toList
  | .hold => "HOLD".toList
  | .fault => "FAULT".toList
  | .suspended => "SUSPENDED".toList

def StartStep.text : StartStep → Text
  | .lampWait => "LAMP-WAIT".toList
  | .runUp => "RUNUP".toList
  | .leader => "LEADER".toList

def Regime.text : Regime → Text
  | .changeover => "CHANGEOVER".toList
  | .single => "SINGLE".toList

def CueFlag.text : CueFlag → Text
  | .pending => "PENDING".toList
  | .taken => "TAKEN".toList

def MissReason.text : MissReason → Text
  | .notThreaded => "NOT-THREADED".toList
  | .lamp => "LAMP".toList
  | .speed => "SPEED".toList
  | .sensor => "SENSOR".toList

def HoldCause.words : HoldCause → List Text
  | .none => ["NONE".toList]
  | .missed r => ["MISSED".toList, orNone MissReason.text r]
  | .fault => ["FAULT".toList]
  | .suspend => ["SUSPEND".toList]

/-- The presence of a fault record: NONE, UNREAD or READ (R69). -/
def faultPresence : Option FaultRecord → Text
  | none => "NONE".toList
  | some r => if r.read then "READ".toList else "UNREAD".toList

/-- The words of the HQ reply (R69, R182). -/
def State.hqWords (s : State) (h : HouseId) : List Text :=
  let hs := s.house h
  [houseText h, (s.mode h).text, hs.engine.text,
   "STEP".toList, orNone StartStep.text hs.step, "REGIME".toList, orNone Regime.text hs.regime,
   "ON".toList, orNone stationText hs.onScreen, "IN".toList, orNone stationText hs.incoming,
   "CUES".toList, hs.reel.strike.text, hs.reel.motor.text, hs.reel.change.text, "MARKS".toList, decimal hs.reel.marks,
   "MISSED".toList, orNone MissReason.text hs.reel.missed, "SKEW".toList, orNone decimalInt hs.skew,
   "HOLD".toList] ++ hs.hold.words ++
  ["FAULT".toList, faultPresence hs.fault,
   "RUN".toList, if hs.engine = .suspended then setClearText hs.showRunning else "NONE".toList]

/-- HQ h (R69). -/
def answerHq (n : Int) : Answer := onHouse n fun h s => (s, .record (s.hqWords h))

def execHq (n : Int) (s : State) : Host.Outcome State Fault Refusal := consoleRow (.hq n) (answerHq n) s

end Sys2Proof.Machine
end

