-- ==== Sys2Proof/Machine/FireRows.lean ====
section
/-!
DEFINITION. The commands of the fire monitor (09_fire_protection.md): GH_OPEN, LT_OPEN, FB_OPEN, BOOTH_TRIP_INPUT,
TRIP_INPUT_QUALIFIED_CLOSED, PD_CHANGE, RELEASE_PULSE_END and the lines FQ, FC, FT.
-/

namespace Sys2Proof.Machine

/-! ### Trip inputs -/

/-- GH_OPEN: gate heat qualified open (R153). -/
def execGhOpen (i : StationId) (s : State) : Host.Outcome State Fault Refusal :=
  done ((s.modStation i fun st => { st with gh := .opened }).tripGate i)

/-- LT_OPEN: lamphouse over-temperature qualified open (R153). -/
def execLtOpen (i : StationId) (s : State) : Host.Outcome State Fault Refusal :=
  done ((s.modStation i fun st => { st with lt := .opened }).tripLampHeat i)

/-- FB_OPEN: the film-break switch qualified open; it trips while the motor runs (R153). -/
def execFbOpen (i : StationId) (s : State) : Host.Outcome State Fault Refusal :=
  let t := s.modStation i fun st => { st with fb := .opened }
  done (if (s.station i).motor.running then t.tripBreak i else t)

/-- The qualified state of a booth input. -/
def Fire.setInput (f : Fire) (b : BoothInput) (c : Contact) : Fire :=
  match b with
  | .fa => { f with fa := c }
  | .mt => { f with mt := c }
  | .fl => { f with fl := c }

/-- The booth cause of an input (R157). -/
def BoothCause.ofInput : BoothInput → BoothCause
  | .fa => .alarm
  | .mt => .manual
  | .fl => .link

/-- BOOTH_TRIP_INPUT: FA, MT or FL qualified open (R157). -/
def execBoothTripInput (b : BoothInput) (s : State) : Host.Outcome State Fault Refusal :=
  done (({ s with fire := s.fire.setInput b .opened } : State).boothTrip (BoothCause.ofInput b))

/-- TRIP_INPUT_QUALIFIED_CLOSED: an input closes again, and no trip state changes (R152). -/
def execTripInputQualifiedClosed (input : TripInput) (s : State) : Host.Outcome State Fault Refusal :=
  match input with
  | .gh i => done (s.modStation i fun st => { st with gh := .closed })
  | .lt i => done (s.modStation i fun st => { st with lt := .closed })
  | .fb i => done (s.modStation i fun st => { st with fb := .closed })
  | .booth b => done { s with fire := s.fire.setInput b .closed }

/-! ### Ports -/

/-- The station of a PORT fault: the start-sequence or on-screen station (R61). -/
def House.showStation (hs : House) : Option StationId :=
  match hs.startStation with
  | some i => some i
  | none => hs.onScreen

/-- PD_CHANGE: the port state follows PD (R160); becoming DOWN in a running show is a fault (R62). -/
def execPdChange (h : HouseId) (c : Contact) (s : State) : Host.Outcome State Fault Refusal :=
  match c with
  | .opened => done (s.modHouse h fun hs => { hs with port := .up })
  | .closed =>
    let hs := s.house h
    let t := s.modHouse h fun hs => { hs with port := .down }
    done (if hs.port = .up && hs.engine.inShow then t.enterFault h .port hs.showStation else t)

/-- RELEASE_PULSE_END: PR is released, and PORT STUCK is latched where the ports are still UP (R161). -/
def execReleasePulseEnd (h : HouseId) (s : State) : Host.Outcome State Fault Refusal :=
  if (s.house h).releasePulse then
    let t := s.modHouse h fun hs => { hs with releasePulse := false }
    done (if (s.house h).port = .up then t.latch (.portStuck h) else t)
  else done s

/-! ### Lines -/

def CaptureCause.text : CaptureCause → Text
  | .filmBreak => "BREAK".toList
  | .gate => "GATE".toList
  | .lampHeat => "LAMPHEAT".toList
  | .alarm => "ALARM".toList
  | .manual => "MANUAL".toList
  | .link => "LINK".toList
  | .console => "CONSOLE".toList

/-- The causes whose flags are SET, in the order of the trip inputs (R164; log 18). -/
def TripFlags.causes (f : TripFlags) : List CaptureCause :=
  (if f.filmBreak then [.filmBreak] else []) ++ (if f.gate then [.gate] else []) ++
    (if f.lampHeat then [.lampHeat] else []) ++ (if f.alarm then [.alarm] else []) ++
    (if f.manual then [.manual] else []) ++ (if f.link then [.link] else []) ++
    (if f.console then [.console] else [])

def flagWords (f : TripFlags) : List Text :=
  if f.causes.isEmpty then ["NONE".toList] else f.causes.map CaptureCause.text

/-- The words of the FQ reply (R164, R182). -/
def CaptureFields.words (c : CaptureFields) (flags : TripFlags) (count : Nat) : List Text :=
  [c.cause.text, orNone stationText c.station, orNone houseText c.house, timeText c.time,
   orNone decimal c.counter, orNone LampState.text c.lamp,
   orNone (fun b => if b then "YES".toList else "NO".toList) c.onScreen, "FLAGS".toList] ++
  flagWords flags ++ ["COUNT".toList, decimal count]

/-- FQ reads the trip capture (R164). -/
def answerFq : Answer := fun s =>
  match s.fire.capture with
  | .empty => (s, .okNone)
  | .locked c =>
    ({ s with fire := { s.fire with capture := .read c, flags := Fire.initial.flags, further := 0 } },
     .record (c.words s.fire.flags s.fire.further))
  | .read c => (s, .record (c.words s.fire.flags s.fire.further))

def execFq (s : State) : Host.Outcome State Fault Refusal := consoleRow .fq answerFq s

/-- The capture is LOCKED (R165). -/
def Fire.captureLocked (f : Fire) : Bool :=
  match f.capture with
  | .locked _ => true
  | .empty | .read _ => false

/-- FC: fire clear (R165, R166). -/
def answerFc : Answer := fun s =>
  checked [(s.fire.captureLocked, .lk), (s.inputStands, .fi)] (fun s => (s.fireClear, .ok)) s

def execFc (s : State) : Host.Outcome State Fault Refusal := consoleRow .fc answerFc s

/-- FT: a booth trip from the console (R157). -/
def answerFt : Answer := fun s => (s.boothTrip .console, .ok)

def execFt (s : State) : Host.Outcome State Fault Refusal := consoleRow .ft answerFt s

end Sys2Proof.Machine
end

