-- ==== Sys2Proof/Machine/LightRows.lean ====
section
/-!
DEFINITION. The commands of the house lights (08_house_lights.md): FADE_UPDATE and the lines LV, LR, PU.
-/

namespace Sys2Proof.Machine

/-- FADE_UPDATE: the fade timer runs out, and the channel makes one update (R141). -/
def execFadeUpdate (h : HouseId) (s : State) : Host.Outcome State Fault Refusal :=
  if (s.house h).light.timer && 0 < (s.house h).light.remaining then done (s.modLight h Light.update) else done s

def Layer.text : Layer → Text
  | .clear => "CLEAR".toList
  | .set => "SET".toList

/-- The words of the LV reply (R143, R182). -/
def Light.words (h : HouseId) (l : Light) : List Text :=
  [houseText h, "L".toList, decimal l.level, "TG".toList, decimal l.target, "N".toList, decimal l.remaining,
   "FIRE".toList, l.fire.text, "PANIC".toList, l.panic.text, "EFF".toList, decimal l.effective]

/-- A fade from the console, its values clamped (R142). -/
def State.consoleFade (s : State) (h : HouseId) (level time : Int) : State × Reply :=
  let (l, movedL) := clampField "LEVEL".toList 0 1000 level
  let (t, movedT) := clampField "TIME".toList 0 60000 time
  (s.fade h l t, .okMoved (movedL ++ movedT))

/-- LV h, LV h level and LV h level time (R142, R143). -/
def answerLv (n : Int) (arg : LightArg) : Answer := onHouse n fun h s =>
  match arg with
  | .query => (s, .record ((s.house h).light.words h))
  | .level l => s.consoleFade h l 0
  | .fade l t => s.consoleFade h l t

def execLv (n : Int) (arg : LightArg) (s : State) : Host.Outcome State Fault Refusal :=
  consoleRow (.lv n arg) (answerLv n arg) s

/-- LR h: the restore from PANIC (R149). -/
def answerLr (n : Int) : Answer := onHouse n fun h s =>
  if (s.house h).light.fire = .set then refuse s .fi
  else if (s.house h).light.panic = .clear then (s, .ok)
  else (s.modLight h Light.restore, .ok)

def execLr (n : Int) (s : State) : Host.Outcome State Fault Refusal := consoleRow (.lr n) (answerLr n) s

/-- PU: the PANIC layer of every house (R147). -/
def answerPu : Answer := fun s =>
  (s.forHouses HouseId.all fun h t => t.modLight h fun l => { l with panic := .set }, .ok)

def execPu (s : State) : Host.Outcome State Fault Refusal := consoleRow .pu answerPu s

end Sys2Proof.Machine
end

