-- ==== Sys2Proof/Machine/OrderRows.lean ====
section
/-!
DEFINITION. The editing and threading lines of the running order (02_the_running_order.md): PA, PI, PD, PC, PQ, TH, UT.
-/

namespace Sys2Proof.Machine

/-! ### The fields of an entry -/

/-- The value given for a field, if any. -/
def givenFirst (fs : List EntryField) : Option Int :=
  fs.findSome? fun | .first n => some n | _ => none

def givenChange (fs : List EntryField) : Option Int :=
  fs.findSome? fun | .change n => some n | _ => none

def givenMotor (fs : List EntryField) : Option Int :=
  fs.findSome? fun | .motor n => some n | _ => none

def givenCue (fs : List EntryField) : Option CueSource :=
  fs.findSome? fun | .cue c => some c | _ => none

def givenStop (fs : List EntryField) : Option Bool :=
  fs.findSome? fun | .stop b => some b | _ => none

/-- A light action with its level clamped to 0 to 1000 and its time to 0 to 60 000 ms (R27). -/
def clampAction (level time : Int) : LightAction :=
  { level := (clampInt 0 1000 level).toNat, time := (clampInt 0 60000 time).toNat }

def givenMs (fs : List EntryField) : Option LightAction :=
  fs.findSome? fun | .ms l t => some (clampAction l t) | _ => none

def givenPi (fs : List EntryField) : Option LightAction :=
  fs.findSome? fun | .pi l t => some (clampAction l t) | _ => none

def givenEn (fs : List EntryField) : Option LightAction :=
  fs.findSome? fun | .en l t => some (clampAction l t) | _ => none

/-- The change frame as taken: given and clamped to 24 to length − 1, or length − 20 (R26). -/
def changeTaken (e : EntryArgs) : Int :=
  match givenChange e.fields with
  | some c => clampInt 24 (e.length - 1) c
  | none => e.length - 20

/-- The motor cue frame as taken: given and clamped to 0 to change − 24, or change − 192, at least 0 (R26). -/
def motorTaken (e : EntryArgs) : Int :=
  match givenMotor e.fields with
  | some m => clampInt 0 (changeTaken e - 24) m
  | none => max (changeTaken e - 192) 0

/-- The entry that joins, WAITING and bound to no station (R25 to R27, R30). -/
def newEntry (e : EntryArgs) : Entry :=
  { label := e.label
    length := e.length.toNat
    first := ((givenFirst e.fields).getD 192).toNat
    change := (changeTaken e).toNat
    motor := (motorTaken e).toNat
    cue := (givenCue e.fields).getD .footage
    stop := (givenStop e.fields).getD false
    ms := givenMs e.fields
    pi := givenPi e.fields
    en := givenEn e.fields
    status := .waiting
    bound := none }

/-- A light action's report: its word, level and time when either was moved (R174). -/
def movedAction (word : Text) (l t : Int) : List Text :=
  let a := clampAction l t
  if (a.level : Int) = l && (a.time : Int) = t then [] else [word, decimal a.level, decimal a.time]

/-- The moved fields in the order of the line (R29, R174). -/
def movedFields (e : EntryArgs) : List Text :=
  e.fields.flatMap fun
    | .change n => if changeTaken e = n then [] else ["CHANGE".toList, decimalInt (changeTaken e)]
    | .motor n => if motorTaken e = n then [] else ["MOTOR".toList, decimalInt (motorTaken e)]
    | .ms l t => movedAction "MS".toList l t
    | .pi l t => movedAction "PI".toList l t
    | .en l t => movedAction "EN".toList l t
    | .first _ | .cue _ | .stop _ => []

/-- The words of an entry line are well formed: the label, and each field word at most once (R25, R181). -/
def entryWordsOk (e : EntryArgs) : Bool := labelOk e.label && fieldsOnce e.fields

/-- The length is 160 to 99 999 and the first picture frame 0 to 999 (R25). -/
def entryRangesOk (e : EntryArgs) : Bool :=
  160 ≤ e.length && e.length ≤ 99999 &&
    match givenFirst e.fields with
    | some f => 0 ≤ f && f ≤ 999
    | none => true

/-- A position number, 1 to 12 (R29). -/
def positionOk (n : Int) : Bool := 1 ≤ n && n ≤ 12

/-! ### Joins and removals -/

/-- Cues are tested at the event by which a next entry joins: the entry at index k, counted from 0, is the next
(R50). -/
def State.joined (s : State) (h : HouseId) (k : Nat) : State :=
  if playingIndex (s.house h).queue = some (k - 1) && 0 < k then s.testFootage h else s

/-- An entry joins before index k, counted from 0 (R24, R41, R50). -/
def State.insertEntry (s : State) (h : HouseId) (k : Nat) (e : Entry) : State :=
  ((s.modQueue h fun q => q.insertIdx k e).readyTest h).joined h k

/-- PA h (R30). -/
def answerPa (n : Int) (e : EntryArgs) : Answer :=
  checked [(!entryWordsOk e, .sy)] <| onHouse n fun h s =>
    let q := (s.house h).queue
    checked [(!entryRangesOk e, .rg), (12 ≤ q.length, .fl)]
      (fun s => (s.insertEntry h q.length (newEntry e), .okMoved (movedFields e))) s

def execPa (n : Int) (e : EntryArgs) (s : State) : Host.Outcome State Fault Refusal :=
  consoleRow (.pa n e) (answerPa n e) s

/-- An entry at index k or behind is bound (R31). -/
def boundFrom (q : List Entry) (k : Nat) : Bool := (q.drop k).any fun e => e.bound.isSome

/-- PI h n (R31). -/
def answerPi (n p : Int) (e : EntryArgs) : Answer :=
  checked [(!entryWordsOk e, .sy)] <| onHouse n fun h s =>
    let q := (s.house h).queue
    let k := (p - 1).toNat
    checked
      [(!positionOk p || !entryRangesOk e, .rg), (q.length < k, .em), (boundFrom q k, .st), (12 ≤ q.length, .fl)]
      (fun s => (s.insertEntry h k (newEntry e), .okMoved (movedFields e))) s

def execPi (n p : Int) (e : EntryArgs) (s : State) : Host.Outcome State Fault Refusal :=
  consoleRow (.pi n p e) (answerPi n p e) s

/-- A line about the entry at a position: refused RG, then EM (R29). -/
def onEntry (n p : Int) (answer : HouseId → Nat → Entry → Answer) : Answer := onHouse n fun h s =>
  if positionOk p then
    match (s.house h).queue[(p - 1).toNat]? with
    | none => refuse s .em
    | some e => answer h (p - 1).toNat e s
  else refuse s .rg

/-- PD h n (R32). -/
def answerPd (n p : Int) : Answer := onEntry n p fun h k e s =>
  checked [((s.house h).engine == .starting || e.bound.isSome, .st)]
    (fun s =>
      ((s.modQueue h fun q => q.eraseIdx k).modHouse h fun hs => hs.readyTest.emptyTest, .ok)) s

def execPd (n p : Int) (s : State) : Host.Outcome State Fault Refusal :=
  consoleRow (.pd n p) (answerPd n p) s

/-- A station loses its binding as its house's order is cleared; a RUN-OUT station's motor is stopped (R33). -/
def State.clearBinding (s : State) (e : Entry) : State :=
  match e.bound with
  | some i => (if e.status = .runOut then s.stopMotor i else s).holdCounter i
  | none => s

/-- PC h (R33). -/
def answerPc (n : Int) : Answer := onHouse n fun h s =>
  let hs := s.house h
  checked
    [(match hs.engine with
      | .idle | .ready | .hold | .interval => false
      | _ => true, .st)]
    (fun s =>
      ((hs.queue.foldl State.clearBinding s).modHouse h
        fun hs => ({ hs with queue := [] } : House).readyTest.emptyTest, .ok)) s

def execPc (n : Int) (s : State) : Host.Outcome State Fault Refusal :=
  consoleRow (.pc n) (answerPc n) s

/-! ### The entry query -/

def EntryStatus.text : EntryStatus → Text
  | .waiting => "WAITING".toList
  | .threaded => "THREADED".toList
  | .playing => "PLAYING".toList
  | .runOut => "RUN-OUT".toList

/-- A light action as its word, level and time, or NONE (R182). -/
def actionWords (word : Text) : Option LightAction → List Text
  | none => [word, "NONE".toList]
  | some a => [word, decimal a.level, decimal a.time]

/-- The words of the PQ reply (R34, R182). -/
def State.pqWords (s : State) (h : HouseId) (k : Nat) (e : Entry) : List Text :=
  [positionText (k + 1), e.label, e.status.text, orNone stationText e.bound,
   "LEN".toList, decimal e.length, "FIRST".toList, decimal e.first, "CHANGE".toList, decimal e.change,
   "MOTOR".toList, decimal e.motor, "STRIKE".toList, decimal (strikeFrame e.motor (s.house h).settings.lead),
   "CUE".toList, cueSourceText e.cue, "STOP".toList, onOffText e.stop] ++
    actionWords "MS".toList e.ms ++ actionWords "PI".toList e.pi ++ actionWords "EN".toList e.en

/-- PQ h n (R34). -/
def answerPq (n p : Int) : Answer := onEntry n p fun h k e s => (s, .record (s.pqWords h k e))

def execPq (n p : Int) (s : State) : Host.Outcome State Fault Refusal :=
  consoleRow (.pq n p) (answerPq n p) s

/-! ### Threading -/

/-- The conditions of TH on the station and its house: each true is a refusal ST (R37). -/
def State.threadBlocked (s : State) (i : StationId) (k : Nat) (e : Entry) : Bool :=
  let st := s.station i
  let q := (s.house st.house).queue
  !st.present || st.motor != .stopped || (s.boundEntry i).isSome || e.status != .waiting || 1 < k ||
    (k == 1 && (s.mode st.house != .changeover ||
      match q.head?.bind (·.bound) with
      | some j => j == i || (s.station j).house != st.house
      | none => true))

/-- TH s n (R37, R38). -/
def answerTh (n p : Int) : Answer := onStation n fun i s =>
  let h := (s.station i).house
  let k := (p - 1).toNat
  let q := (s.house h).queue
  checked [(!positionOk p, .rg), ((s.station i).condition == .resetting, .by_), (q.length ≤ k, .em)]
    (fun s =>
      match q[k]? with
      | none => refuse s .em
      | some e =>
        if s.threadBlocked i k e then refuse s .st
        else
          (((s.modQueue h fun q => q.set k { e with status := .threaded, bound := some i }).threadCounter i).readyTest h,
            .ok)) s

def execTh (n p : Int) (s : State) : Host.Outcome State Fault Refusal :=
  consoleRow (.th n p) (answerTh n p) s

/-- UT s (R39). -/
def answerUt (n : Int) : Answer := onStation n fun i s =>
  let h := (s.station i).house
  checked [((s.station i).condition == .resetting, .by_)]
    (fun s =>
      match s.boundEntry i with
      | none => refuse s .st
      | some e =>
        if (s.station i).motor != .stopped || e.status == .playing || (s.house h).startStation == some i then
          refuse s .st
        else if e.status = .runOut then ((s.removeEntry i).readyTest h, .ok)
        else (((s.modQueue h fun q => unbindEntry q i).holdCounter i).readyTest h, .ok)) s

def execUt (n : Int) (s : State) : Host.Outcome State Fault Refusal :=
  consoleRow (.ut n) (answerUt n) s

end Sys2Proof.Machine
end

