-- ==== Sys2Proof/Machine/ResetRows.lean ====
section
/-!
DEFINITION. POWER_ON (R180) and the booth reset line RS (R178, R179): the values that every record takes at each, by the
rule of its own chapter.
-/

namespace Sys2Proof.Machine

/-! ### Power-on -/

/-- A station record at power-on with its trim straps read (R1, R3, R22). -/
def Station.powerOn (p : Straps) (i : StationId) : Station :=
  let trim := trimOf (p.trim.get i)
  Station.initial trim (trim.map Trim.params) (StationId.defaultHouse i)

/-- POWER_ON: every block takes its power-on values, with the straps read as they stand (R22, R42, R70, R79, R104, R124,
R138, R151, R167, R180). The model's own fields, the queue of commands and the count of choices, are kept (log 23). -/
def execPowerOn (p : Straps) (s : State) : Host.Outcome State Fault Refusal :=
  done
    { straps := p
      stations := PerStation.build (Station.powerOn p)
      houses := PerHouse.build fun _ => House.initial
      clock := { mains := p.mains, cycles := 0, time := 0, isSet := false }
      arbiter := Arbiter.initial
      fire := Fire.initial
      line := LineUnit.initial (lineSpeed p) (lineFormat p) (lineEcho p)
      pins := Pins.initial
      draws := s.draws
      pending := s.pending }

/-! ### Booth reset -/

/-- A station record at booth reset: the power-on values with the trim straps read, but for the trip state and the
qualified states of the inputs (R14, R22, R152, R167). -/
def Station.boothReset (p : Straps) (i : StationId) (st : Station) : Station :=
  { Station.powerOn p i with
      ld := { contact := st.ld.contact, mode := .enforce }
      md := { contact := st.md.contact, mode := .enforce }
      gh := st.gh, lt := st.lt, fb := st.fb, trip := st.trip }

/-- A house's records at booth reset: the power-on values, but for the FIRE layer, the port state and a running release
pulse (R42, R70, R79, R151, R167). -/
def House.boothReset (hs : House) : House :=
  { House.initial with
      light := { Light.initial with fire := hs.light.fire }
      port := hs.port
      releasePulse := hs.releasePulse }

/-- A station that the strap read of a booth reset makes present comes under a booth trip in force, as one made present
by a station reset does (R159; log 14). Its motor and its lamp are already as a trip leaves them. -/
def State.boundByTrip (s : State) (wasPresent : StationId → Bool) (i : StationId) : State :=
  if s.fire.booth.isSome && !wasPresent i && (s.station i).present && (s.station i).trip.isNone then
    s.modStation i fun st => { st with trip := some .booth }
  else s

/-- A house that is not UNUSED takes SUSPENDED while a booth trip stands, with the show-running flag clear (R70). -/
def State.suspendAtReset (s : State) (h : HouseId) : State :=
  if s.fire.booth.isSome && s.mode h != .unused then
    s.modHouse h fun hs => { hs with engine := .suspended, showRunning := false }
  else s

/-- The trim straps read afresh at a booth reset. No row carries their levels there, so each stands as it will: a free
value, one for each reading (R1, R179; log 4). The other straps are read at power-on only (R71, R168). -/
def State.readTrimStraps (s : State) : State :=
  { s with straps := { s.straps with trim := Config.trimStraps s.draws }, draws := s.draws + 1 }

/-- What a taken RS does on every block (R179), the trim straps being read afresh. -/
def State.boothReset (s : State) : State :=
  let r := s.readTrimStraps
  let t := { r with
    stations := PerStation.build fun i => (s.station i).boothReset r.straps i
    houses := PerHouse.build fun h => (s.house h).boothReset
    arbiter := Arbiter.initial
    line := { s.line with warnings := [], rsReply := true, sinceReset := false } }
  let t := t.forStations StationId.all fun i u => u.boundByTrip (fun j => (s.station j).present) i
  t.forHouses HouseId.all fun h u => u.suspendAtReset h

/-- RS (R178, R179). -/
def answerRs : Answer := fun s =>
  checked
    [(StationId.all.any fun i => (s.station i).condition == .resetting, .by_),
     (StationId.all.any fun i => (s.station i).motor != .stopped || !(s.station i).lamp.state.out, .st)]
    (fun s => (s.boothReset, .ok)) s

def execRs (s : State) : Host.Outcome State Fault Refusal := consoleRow .rs answerRs s

end Sys2Proof.Machine
end

