-- ==== Sys2Proof/Machine/StationRows.lean ====
section
/-!
DEFINITION. The commands of the projector stations (01_projector_stations.md): tach pulses, the motor timers, the reset
hold, the door switches, and the lines SQ, MO, DO, IM, SR, SA.
-/

namespace Sys2Proof.Machine

/-! ### Tach pulses -/

/-- The direction is sampled and the counter moves, saturating at 99 999 and at 0; in HOLD it stays (R9). -/
def Station.countPulse (st : Station) (bound : Bool) (dir : Direction) : Station :=
  if bound then
    match dir with
    | .forward => { st with counterMode := .forward, counter := min (st.counter + 1) 99999 }
    | .reverse => { st with counterMode := .reverse, counter := st.counter - 1 }
  else st

/-- What a tach pulse does to the motor state and its timers; `interval` is the frame interval in ms that the pulse
ends (R6, R7, R8). -/
def Station.motorPulse (st : Station) (interval : Nat) : Station :=
  match st.motor with
  | .runUp =>
    if !st.intervalOpen then { st with intervalOpen := true }
    else if 46 < interval then { st with runUpCount := 0 }
    else if st.runUpCount + 1 < 12 then { st with runUpCount := st.runUpCount + 1 }
    else { st with runUpCount := 12, motor := .atSpeed, runUpTimer := false, stallTimer := true }
  | .atSpeed => { st with stallTimer := true }
  | .stopping => { st with stopTimer := true }
  | .stopped => st

/-- A tail reported by a station: in STARTING the start-sequence station takes the picture and then the tail (R48); any
other is taken by the status of its entry (R10). -/
def State.tail (s : State) (i : StationId) : State :=
  let h := (s.station i).house
  if (s.house h).startStation = some i then s.picture h i else s.reelTail i

/-- The tests of a FORWARD pulse: the LEADER step of the start-sequence station (R48), or the footage cues of the
on-screen station (R50). -/
def State.pulseTests (s : State) (i : StationId) : State :=
  let h := (s.station i).house
  let hs := s.house h
  if hs.startStation = some i then (if hs.step = some .leader then s.leaderTest h i else s)
  else if hs.onScreen = some i then s.testFootage h
  else s

/-- TACH_PULSE: the counter moves, then the motor state, then the engine's tests are made, then the tail is reported
(R6 to R10, R48, R50; log 8). -/
def execTachPulse (i : StationId) (dir : Direction) (interval : Nat) (s : State) :
    Host.Outcome State Fault Refusal :=
  let entry := s.boundEntry i
  let before := (s.station i).counter
  let t := s.modStation i fun st => st.countPulse entry.isSome dir
  let wasAtSpeed := (t.station i).motor == .atSpeed
  let t := t.modStation i fun st => st.motorPulse interval
  let t := if !wasAtSpeed && (t.station i).motor == .atSpeed then t.engineAtSpeed i else t
  match entry with
  | none => done t
  | some e =>
    if dir = .forward then
      let t := t.pulseTests i
      done (if before < e.length && before + 1 = e.length then t.tail i else t)
    else done t

/-- RUN_UP_LIMIT: in RUNUP with the limit running, the motor fault SLOW (R6). -/
def execRunUpLimit (i : StationId) (s : State) : Host.Outcome State Fault Refusal :=
  if (s.station i).runUpTimer && (s.station i).motor == .runUp then
    done (((s.stopMotor i).latch (.slow i)).engineSlow i)
  else done s

/-- STALL: the stall timer runs out in AT-SPEED, and the stall is a BREAK trip (R7, R153). -/
def execStall (i : StationId) (s : State) : Host.Outcome State Fault Refusal :=
  if (s.station i).stallTimer && (s.station i).motor == .atSpeed then done (s.tripBreak i) else done s

/-- STOP_TIMER: the stop timer runs out in STOPPING, and the motor is STOPPED (R8). -/
def execStopTimer (i : StationId) (s : State) : Host.Outcome State Fault Refusal :=
  if (s.station i).stopTimer && (s.station i).motor == .stopping then
    done (s.modStation i fun st => { st with motor := .stopped, stopTimer := false })
  else done s

/-! ### The end of a station reset -/

/-- What acts on a station made present by the strap read at the end of a reset (R152, R159). -/
inductive PresenceAct where
  | booth | gh | lt
deriving DecidableEq, Repr

/-- The acts that apply to a station made present: the booth trip in force, and GH and LT standing open. -/
def State.presenceActs (s : State) (i : StationId) : List PresenceAct :=
  (if s.fire.booth.isSome then [.booth] else []) ++
    (if (s.station i).gh = .opened then [.gh] else []) ++
    (if (s.station i).lt = .opened then [.lt] else [])

def State.presenceAct (s : State) (i : StationId) : PresenceAct → State
  | .booth => s.underBoothTrip i
  | .gh => s.tripGate i
  | .lt => s.tripLampHeat i

/-- A station made present: its acts in an order the manual leaves open (log 9), then its house comes under the booth
trip (R159). -/
def State.madePresent (s : State) (i : StationId) : State :=
  let (acts, t) := s.freeOrder (s.presenceActs i)
  (acts.foldl (fun u a => u.presenceAct i a) t).suspendUnderBoothTrip (s.station i).house

/-- RESET_HOLD_END: with the straps as they then stand, a RESETTING station reads them, takes the defaults and the
ENFORCE modes, and becomes NORMAL (R21). -/
def execResetHoldEnd (i : StationId) (p : TrimStraps) (s : State) : Host.Outcome State Fault Refusal :=
  if (s.station i).condition = .resetting then
    let was := (s.station i).present
    let t := { s with straps := { s.straps with trim := s.straps.trim.set i p } }
    let t := t.modStation i fun st =>
      { st.readStraps p with
          condition := .normal
          ld := { st.ld with mode := .enforce }, md := { st.md with mode := .enforce } }
    done (if !was && (t.station i).present then t.madePresent i else t)
  else done s

/-! ### Door switches -/

/-- LD_QUALIFIED: a qualified change of the lamphouse door (R15); at an absent station it is only recorded (R2). -/
def execLdQualified (i : StationId) (c : Contact) (s : State) : Host.Outcome State Fault Refusal :=
  let t := s.modStation i fun st => { st with ld := { st.ld with contact := c } }
  if c = .opened && (s.station i).present then
    match (s.station i).ld.mode with
    | .enforce => done (t.enforceLd i)
    | .advisory => done (t.latch (.interlock i))
  else done t

/-- MD_QUALIFIED: a qualified change of the magazine door (R16); at an absent station it is only recorded (R2). -/
def execMdQualified (i : StationId) (c : Contact) (s : State) : Host.Outcome State Fault Refusal :=
  let t := s.modStation i fun st => { st with md := { st.md with contact := c } }
  if c = .opened && (s.station i).present then
    match (s.station i).md.mode with
    | .enforce => done (t.enforceMd i)
    | .advisory => done (t.latch (.interlock i))
  else done t

/-! ### Manual station lines -/

/-- The checks that MO and DO share: RESETTING, the state of the house engine, and engagement (R18). A RUN-OUT station
is let past the engine's state for MO. -/
def State.manualChecks (s : State) (i : StationId) (motorLine : Bool) : List (Bool × ErrorCode) :=
  let st := s.station i
  let engineOk := match (s.house st.house).engine with
    | .idle | .ready | .hold | .interval | .fault => true
    | _ => false
  let runOut := match s.boundEntry i with
    | some e => e.status == .runOut
    | none => false
  [(st.condition == .resetting, .by_), (!(engineOk && !s.engaged i) && !(motorLine && runOut), .st)]

/-- MO s ON and MO s OFF (R18, R5, R8). -/
def answerMo (n : Int) (on : Bool) : Answer := onStation n fun i s =>
  checked (s.manualChecks i true)
    (fun s =>
      if on then
        match s.startRefusal i with
        | some c => refuse s c
        | none => (s.startMotorThen i id, .ok)
      else (s.stopMotor i, .ok)) s

def execMo (n : Int) (on : Bool) (s : State) : Host.Outcome State Fault Refusal :=
  consoleRow (.mo n on) (answerMo n on) s

/-- The refusal of DO s OPEN past the checks of R18: FI for a trip or ports DOWN, ST for the other conditions of R11. -/
def State.douserRefusal (s : State) (i : StationId) : Option ErrorCode :=
  let st := s.station i
  firstRefusal
    [(s.tripped i, .fi), ((s.house st.house).port == .down, .fi), (!st.present, .st),
     (st.lamp.state != .burn, .st), (st.ld.enforced, .st)]

/-- DO s OPEN and DO s CLOSE (R18, R11). -/
def answerDo (n : Int) (toOpen : Bool) : Answer := onStation n fun i s =>
  checked (s.manualChecks i false)
    (fun s =>
      if toOpen then
        match s.douserRefusal i with
        | some c => refuse s c
        | none => (s.openDemand i, .ok)
      else (s.closeDemand i, .ok)) s

def execDo (n : Int) (toOpen : Bool) (s : State) : Host.Outcome State Fault Refusal :=
  consoleRow (.doDouser n toOpen) (answerDo n toOpen) s

/-- The mode of a door set (R14). -/
def Station.setDoorMode (st : Station) (d : Door) (m : DoorMode) : Station :=
  match d with
  | .ld => { st with ld := { st.ld with mode := m } }
  | .md => { st with md := { st.md with mode := m } }

def Station.door (st : Station) : Door → DoorState
  | .ld => st.ld
  | .md => st.md

/-- IM s d m: the mode of a door, with the interlock event where ENFORCE finds the door open (R14 to R16). -/
def answerIm (n : Int) (d : Door) (m : DoorMode) : Answer := onStation n fun i s =>
  checked [((s.station i).condition == .resetting, .by_)]
    (fun s =>
      let st := s.station i
      let t := s.modStation i fun st => st.setDoorMode d m
      if st.present && !(st.door d).enforced && ((t.station i).door d).enforced then
        match d with
        | .ld => (t.enforceLd i, .ok)
        | .md => (t.enforceMd i, .ok)
      else (t, .ok)) s

def execIm (n : Int) (d : Door) (m : DoorMode) (s : State) : Host.Outcome State Fault Refusal :=
  consoleRow (.im n d m) (answerIm n d m) s

/-! ### Station reset and assignment -/

/-- The binding of a station dropped at a station reset: a THREADED entry returns to WAITING, a RUN-OUT entry leaves
(R20, R42). -/
def State.dropBinding (s : State) (i : StationId) : State :=
  match s.boundEntry i with
  | some e =>
    if e.status = .runOut then s.removeEntry i
    else s.modQueue (s.station i).house fun q => unbindEntry q i
  | none => s

/-- The records of a station as a reset is taken (R20, R104, R120, R134, R138). R22 gives the run-up count 0 at the end of
the reset and does not say when it becomes 0; that it does so here is the model's choice (log 28). -/
def Station.takeReset (st : Station) : Station :=
  { st.stopMotor with
      condition := .resetting, runUpCount := 0, demandOpen := false, csOpen := false
      counter := 0, counterMode := .hold
      lamp := Lamp.initial
      channel := Channel.initial st.channel.params
      carbon := Carbon.initial }

/-- SR s: station reset (R20). -/
def answerSr (n : Int) : Answer := onStation n fun i s =>
  checked
    [((s.station i).condition == .resetting, .by_), (s.engaged i, .st), (!(s.station i).lamp.state.out, .st)]
    (fun s => (((s.dropBinding i).modStation i Station.takeReset).readyTest (s.station i).house, .ok)) s

def execSr (n : Int) (s : State) : Host.Outcome State Fault Refusal :=
  consoleRow (.sr n) (answerSr n) s

/-- SA s h: station s moves to house h (R4). -/
def answerSa (n m : Int) : Answer := onStation n fun i => onHouse m fun h s =>
  let own := (s.station i).house
  checked
    [((s.station i).condition == .resetting, .by_),
     ((s.house own).engine != .idle || (s.house h).engine != .idle, .st),
     ((s.boundEntry i).isSome, .st),
     (2 ≤ ((s.stationsOf h).filter fun j => j != i).length, .fl)]
    (fun s => (s.modStation i fun st => { st with house := h }, .ok)) s

def execSa (n m : Int) (s : State) : Host.Outcome State Fault Refusal :=
  consoleRow (.sa n m) (answerSa n m) s

/-! ### Station query -/

def trimText : Option Trim → Text
  | some .h => "H".toList
  | some .m => "M".toList
  | some .s => "S".toList
  | none => "ABSENT".toList

def Motor.text : Motor → Text
  | .stopped => "STOPPED".toList
  | .runUp => "RUNUP".toList
  | .atSpeed => "AT-SPEED".toList
  | .stopping => "STOPPING".toList

def CounterMode.text : CounterMode → Text
  | .hold => "HOLD".toList
  | .forward => "FORWARD".toList
  | .reverse => "REVERSE".toList

def StationCause.text : StationCause → Text
  | .filmBreak => "BREAK".toList
  | .gate => "GATE".toList
  | .lampHeat => "LAMPHEAT".toList
  | .booth => "BOOTH".toList

/-- The words of the SQ reply (R23, R182). -/
def State.sqWords (s : State) (i : StationId) : List Text :=
  let st := s.station i
  [stationText i, trimText st.trim, houseText st.house,
   if st.condition = .resetting then "RESETTING".toList else st.motor.text,
   decimal st.counter, st.counterMode.text,
   orNone positionText (s.boundPosition i),
   "DEM".toList, openClosedText st.demandOpen, "DS".toList, openClosedText (s.stationPins i).ds,
   "CS".toList, openClosedText st.csOpen, "FH".toList, onOffText (s.stationPins i).fh,
   "LD".toList, contactText st.ld.contact, doorModeText st.ld.mode,
   "MD".toList, contactText st.md.contact, doorModeText st.md.mode,
   "TRIP".toList, orNone StationCause.text st.trip]

/-- SQ s (R23). -/
def answerSq (n : Int) : Answer := onStation n fun i s => (s, .record (s.sqWords i))

def execSq (n : Int) (s : State) : Host.Outcome State Fault Refusal :=
  consoleRow (.sq n) (answerSq n) s

end Sys2Proof.Machine
end

