-- ==== Sys2Proof/Machine/LineRows.lean ====
section
/-!
DEFINITION. The commands of the console line unit (10_the_console_line.md): the lines SS and AK, the passing of a parsed
line to the block that owns it, and CHARACTER_RECEIVED, CHARACTER_TIMEOUT and REPLY_END.
-/

namespace Sys2Proof.Machine

/-! ### Status -/

/-- The words of a warning with its subject and, for MISSED, its reason (R176, R182). -/
def Warning.words : Warning → List Text
  | .shortfall i => ["SHORTFALL".toList, stationText i]
  | .lowCarbon i => ["LOW CARBON".toList, stationText i]
  | .cueSkew h => ["CUE SKEW".toList, houseText h]
  | .notThreaded h => ["NOT-THREADED".toList, houseText h]
  | .missed h r => ["MISSED".toList, houseText h, r.text]
  | .missedStart h => ["MISSED START".toList, houseText h]
  | .interlock i => ["INTERLOCK".toList, stationText i]
  | .portStuck h => ["PORT STUCK".toList, houseText h]
  | .lockout i => ["LOCKOUT".toList, stationText i]
  | .slow i => ["SLOW".toList, stationText i]

def Capture.text : Capture → Text
  | .empty => "EMPTY".toList
  | .locked _ => "LOCKED".toList
  | .read _ => "READ".toList

/-- The words of a warning list (R182). -/
def warningWords (l : List Warning) : List Text := if l.isEmpty then ["NONE".toList] else l.flatMap Warning.words

/-- The words of the SS reply (R176, R182). -/
def State.ssWords (s : State) : List Text :=
  ["FIRE".toList, s.fire.capture.text, "BOOTH".toList, orNone (fun c => (BoothCause.capture c).text) s.fire.booth] ++
    (HouseId.all.flatMap fun h => [houseText h, (s.house h).engine.text, faultPresence (s.house h).fault]) ++
    "W".toList :: warningWords s.line.warnings

/-- SS (R176). -/
def answerSs : Answer := fun s => ({ s with line := { s.line with warnings := [] } }, .record s.ssWords)

def execSs (s : State) : Host.Outcome State Fault Refusal := consoleRow .ss answerSs s

/-- AK (R177). -/
def answerAk : Answer := fun s => ({ s with line := { s.line with attention := false } }, .ok)

def execAk (s : State) : Host.Outcome State Fault Refusal := consoleRow .ak answerAk s

/-! ### Taking a line -/

/-- The block that owns a command answers it (R173). -/
def answer (i : Instr) : Answer :=
  match i with
  | .sq n => answerSq n
  | .mo n b => answerMo n b
  | .doDouser n b => answerDo n b
  | .im n d m => answerIm n d m
  | .sr n => answerSr n
  | .sa n h => answerSa n h
  | .pa h e => answerPa h e
  | .pi h n e => answerPi h n e
  | .pd h n => answerPd h n
  | .pc h => answerPc h
  | .pq h n => answerPq h n
  | .th n p => answerTh n p
  | .ut n => answerUt n
  | .go h => answerGo h
  | .en h => answerEn h
  | .co h => answerCo h
  | .hq h => answerHq h
  | .hf h => answerHf h
  | .ha h => answerHa h
  | .hs h a => answerHs h a
  | .ck a b c => answerCk a b c
  | .cq => answerCq
  | .atAlarm h a => answerAt h a
  | .ls n => answerLs n
  | .lx n => answerLx n
  | .lc n l => answerLc n l
  | .lf n k => answerLf n k
  | .lp n a => answerLp n a
  | .lq n => answerLq n
  | .sp m => answerSp m
  | .lv h a => answerLv h a
  | .lr h => answerLr h
  | .pu => answerPu
  | .fq => answerFq
  | .fc => answerFc
  | .ft => answerFt
  | .ss => answerSs
  | .ak => answerAk
  | .rs => answerRs
  | .powerOn _ | .tachPulse _ _ _ | .runUpLimit _ | .stall _ | .stopTimer _ | .resetHoldEnd _ _
  | .ldQualified _ _ | .mdQualified _ _ | .cuClosing _ | .cbClosing _ | .pdChange _ _ | .ghOpen _
  | .ltOpen _ | .fbOpen _ | .boothTripInput _ | .releasePulseEnd _ | .mainsCycle | .clockSecond
  | .lampWaitTimeout _ | .strikePulseEnd _ | .rechargeEnd | .regulationSample _ _ _ | .jogStep _
  | .bucketClose _ | .fadeUpdate _ | .characterReceived _ _ | .characterTimeout | .replyEnd
  | .tripInputQualifiedClosed _ => fun s => refuse s .sy

/-- The refusal that the marks of a line give it (R171). -/
def Marks.refusal (m : Marks) : Option ErrorCode :=
  firstRefusal [(m.lost, .by_), (m.error, .pe), (m.overlong, .ln)]

/-- The answer to a complete line: refused by its marks, refused SY by its form, or answered by the block that owns its
command (R171, R173). -/
def answerLine (l : Line) : Answer := fun s =>
  match l.marks.refusal with
  | some c => refuse s c
  | none =>
    match parseLine l.text with
    | none => refuse s .sy
    | some i => answer i s

/-- A complete line is taken: its answer is worked out and its reply started after `lead` (R169, R172). -/
def State.takeLine (s : State) (lead : Text) (l : Line) : State :=
  let (t, r) := answerLine l s
  t.startReply lead r

/-! ### Characters -/

/-- How many of the eight bits are ones. -/
def countOnes (frame : BitVec 8) : Nat := (List.range 8).countP fun k => frame.getLsbD k

/-- The character a frame carries, or none with a parity or framing error (R168, R169; log 19). In 7-BIT EVEN the
parity bit is bit 7. The codes are those of ASCII, CR 13 and LF 10, the model's choice (log 27). -/
def CharFormat.read (f : CharFormat) (frame : BitVec 8) (stop : Bool) : Option Char :=
  match f with
  | .even7 =>
    if stop && countOnes frame % 2 == 0 then some (Char.ofNat (frame.toNat % 128)) else none
  | .none8 => if stop then some (Char.ofNat frame.toNat) else none

/-- The character timer started or restarted; while a reply is sent it is suspended (R171). -/
def LineUnit.startTimer (l : LineUnit) : LineUnit :=
  { l with timer := match l.transmit with
      | .idle => .running
      | .sending => .suspended }

/-- The line under reception is LOST from the first character after the waiting line's CR (R170). -/
def LineUnit.markLost (l : LineUnit) : LineUnit :=
  if l.waiting.isSome then { l with marks := { l.marks with lost := true } } else l

/-- The line under reception emptied, with its marks clear and the timer stopped (R169, R171). -/
def LineUnit.clearLine (l : LineUnit) : LineUnit :=
  { l with buffer := [], marks := Marks.clear, timer := .notRunning }

/-- A character with a parity or framing error: discarded, and the line is marked ERROR (R169). -/
def LineUnit.receiveError (l : LineUnit) : LineUnit :=
  { l.markLost.startTimer with marks := { l.markLost.marks with error := true } }

/-- A line character is discarded in a LOST line, stored while the buffer holds fewer than 64, and otherwise marks the
line OVERLONG (R169). -/
def LineUnit.store (l : LineUnit) (c : Char) : LineUnit :=
  if l.marks.lost then l
  else if l.buffer.length < 64 then { l with buffer := l.buffer ++ [c] }
  else { l with marks := { l.marks with overlong := true } }

/-- With echo ON, a character received while IDLE and with no line waiting is sent back (R172). -/
def LineUnit.echoChar (l : LineUnit) (c : Char) : LineUnit :=
  if l.echo && l.transmit = .idle && l.waiting.isNone then { l with tx := [c] } else l

/-- A line character (R169 to R172). -/
def LineUnit.receiveChar (l : LineUnit) (c : Char) : LineUnit := (l.markLost.store c).startTimer.echoChar c

/-- A CR ends the line under reception: a lost line counts as an owed refusal, a line that comes while a reply is sent
becomes the waiting line, and any other is taken (R169, R170). -/
def State.receiveCr (s : State) : State :=
  let l := s.line
  let t := { s with line := l.clearLine }
  if l.waiting.isSome then { t with line := { t.line with owed := min (l.owed + 1) 255 } }
  else if l.transmit = .sending then
    { t with line := { t.line with waiting := some { text := l.buffer, marks := l.marks } } }
  else t.takeLine l.echoCr { text := l.buffer, marks := l.marks }

/-- CHARACTER_RECEIVED (R168 to R172): `frame` is the character's data bits, with the parity bit at bit 7 in 7-BIT EVEN,
and `stop` whether a stop bit stands where it should be. -/
def execCharacterReceived (frame : BitVec 8) (stop : Bool) (s : State) : Host.Outcome State Fault Refusal :=
  match s.line.format.read frame stop with
  | none => done { s with line := s.line.receiveError }
  | some c =>
    if c = '\n' then done s
    else if c = '\r' then done s.receiveCr
    else done { s with line := s.line.receiveChar c }

/-- CHARACTER_TIMEOUT: the partial line is discarded, and NO TO is sent, after CR LF with echo ON (R171, R172). -/
def execCharacterTimeout (s : State) : Host.Outcome State Fault Refusal :=
  if s.line.timer = .running then
    done (({ s with line := s.line.clearLine } : State).startReply s.line.echoCr (.no .to_))
  else done s

/-! ### The end of a reply -/

/-- The transmit state IDLE at the end of a reply, with the timer of a line begun restarted, and ATTENTION deasserted at
the end of the reply to RS unless an event has asserted it since the reset (R171, R172, R179). -/
def LineUnit.endReply (l : LineUnit) : LineUnit :=
  { l with
      transmit := .idle, tx := [], rsReply := false
      attention := if l.rsReply && !l.sinceReset then false else l.attention
      timer := match l.timer with
        | .notRunning => .notRunning
        | .running | .suspended => .running }

/-- REPLY_END: the waiting line is taken, or an owed NO BY is sent, or the unit stays IDLE (R170). -/
def execReplyEnd (s : State) : Host.Outcome State Fault Refusal :=
  if s.line.transmit = .sending then
    let t := { s with line := s.line.endReply }
    match s.line.waiting with
    | some l => done (({ t with line := { t.line with waiting := none } } : State).takeLine [] l)
    | none =>
      if 0 < s.line.owed then
        done (({ t with line := { t.line with owed := s.line.owed - 1 } } : State).startReply [] (.no .by_))
      else done t
  else done s

end Sys2Proof.Machine
end

