-- ==== Sys2Proof/Machine/Dispatch.lean ====
section
/-!
DEFINITION. One arm for each command of the opcode table, each a direct call of its meaning.
-/

namespace Sys2Proof.Machine

def exec (i : Instr) (s : State) : Host.Outcome State Fault Refusal :=
  match i with
  | .powerOn straps => Sys2Proof.Machine.execPowerOn straps s
  | .tachPulse k dir interval => Sys2Proof.Machine.execTachPulse k dir interval s
  | .runUpLimit k => Sys2Proof.Machine.execRunUpLimit k s
  | .stall k => Sys2Proof.Machine.execStall k s
  | .stopTimer k => Sys2Proof.Machine.execStopTimer k s
  | .resetHoldEnd k straps => Sys2Proof.Machine.execResetHoldEnd k straps s
  | .ldQualified k c => Sys2Proof.Machine.execLdQualified k c s
  | .mdQualified k c => Sys2Proof.Machine.execMdQualified k c s
  | .cuClosing k => Sys2Proof.Machine.execCuClosing k s
  | .cbClosing h => Sys2Proof.Machine.execCbClosing h s
  | .pdChange h c => Sys2Proof.Machine.execPdChange h c s
  | .ghOpen k => Sys2Proof.Machine.execGhOpen k s
  | .ltOpen k => Sys2Proof.Machine.execLtOpen k s
  | .fbOpen k => Sys2Proof.Machine.execFbOpen k s
  | .boothTripInput b => Sys2Proof.Machine.execBoothTripInput b s
  | .releasePulseEnd h => Sys2Proof.Machine.execReleasePulseEnd h s
  | .mainsCycle => Sys2Proof.Machine.execMainsCycle s
  | .clockSecond => Sys2Proof.Machine.execClockSecond s
  | .lampWaitTimeout h => Sys2Proof.Machine.execLampWaitTimeout h s
  | .strikePulseEnd k => Sys2Proof.Machine.execStrikePulseEnd k s
  | .rechargeEnd => Sys2Proof.Machine.execRechargeEnd s
  | .regulationSample k volts amps => Sys2Proof.Machine.execRegulationSample k volts amps s
  | .jogStep k => Sys2Proof.Machine.execJogStep k s
  | .bucketClose k => Sys2Proof.Machine.execBucketClose k s
  | .fadeUpdate h => Sys2Proof.Machine.execFadeUpdate h s
  | .characterReceived frame stop => Sys2Proof.Machine.execCharacterReceived frame stop s
  | .characterTimeout => Sys2Proof.Machine.execCharacterTimeout s
  | .replyEnd => Sys2Proof.Machine.execReplyEnd s
  | .sq k => Sys2Proof.Machine.execSq k s
  | .mo k on => Sys2Proof.Machine.execMo k on s
  | .doDouser k toOpen => Sys2Proof.Machine.execDo k toOpen s
  | .im k door mode => Sys2Proof.Machine.execIm k door mode s
  | .sr k => Sys2Proof.Machine.execSr k s
  | .sa k h => Sys2Proof.Machine.execSa k h s
  | .pa h e => Sys2Proof.Machine.execPa h e s
  | .pi h n e => Sys2Proof.Machine.execPi h n e s
  | .pd h n => Sys2Proof.Machine.execPd h n s
  | .pc h => Sys2Proof.Machine.execPc h s
  | .pq h n => Sys2Proof.Machine.execPq h n s
  | .th k n => Sys2Proof.Machine.execTh k n s
  | .ut k => Sys2Proof.Machine.execUt k s
  | .go h => Sys2Proof.Machine.execGo h s
  | .en h => Sys2Proof.Machine.execEn h s
  | .co h => Sys2Proof.Machine.execCo h s
  | .hq h => Sys2Proof.Machine.execHq h s
  | .hf h => Sys2Proof.Machine.execHf h s
  | .ha h => Sys2Proof.Machine.execHa h s
  | .hs h arg => Sys2Proof.Machine.execHs h arg s
  | .ck hh mm ss => Sys2Proof.Machine.execCk hh mm ss s
  | .cq => Sys2Proof.Machine.execCq s
  | .atAlarm h arg => Sys2Proof.Machine.execAt h arg s
  | .ls k => Sys2Proof.Machine.execLs k s
  | .lx k => Sys2Proof.Machine.execLx k s
  | .lc k length => Sys2Proof.Machine.execLc k length s
  | .lf k n => Sys2Proof.Machine.execLf k n s
  | .lp k arg => Sys2Proof.Machine.execLp k arg s
  | .lq k => Sys2Proof.Machine.execLq k s
  | .sp mode => Sys2Proof.Machine.execSp mode s
  | .lv h arg => Sys2Proof.Machine.execLv h arg s
  | .lr h => Sys2Proof.Machine.execLr h s
  | .pu => Sys2Proof.Machine.execPu s
  | .fq => Sys2Proof.Machine.execFq s
  | .fc => Sys2Proof.Machine.execFc s
  | .ft => Sys2Proof.Machine.execFt s
  | .ss => Sys2Proof.Machine.execSs s
  | .ak => Sys2Proof.Machine.execAk s
  | .rs => Sys2Proof.Machine.execRs s
  | .tripInputQualifiedClosed input => Sys2Proof.Machine.execTripInputQualifiedClosed input s

end Sys2Proof.Machine
end

