-- ==== Sys2Proof/Safety.lean ====
section
/-!
DEFINITION. The words in which claims about the controller are made: which parts of the state a command may change, how
a console line is answered, and the invariants that hold in every state the controller can be in.
-/

namespace Sys2Proof.Machine

/-! ### Frames -/

/-- The parts of the state that a command may change or leave alone. The output pins follow the records and the queue
of commands is no part of a command's effect; `ChangesOnly` speaks of both. -/
inductive Part where
  | straps
  | station (i : StationId)
  | house (h : HouseId)
  | clock
  | arbiter
  | fire
  | line
  | draws
deriving DecidableEq, Repr

/-- A part is the same in two states. -/
def Part.same (s t : State) : Part → Prop
  | .straps => t.straps = s.straps
  | .station i => t.station i = s.station i
  | .house h => t.house h = s.house h
  | .clock => t.clock = s.clock
  | .arbiter => t.arbiter = s.arbiter
  | .fire => t.fire = s.fire
  | .line => t.line = s.line
  | .draws => t.draws = s.draws

/-- From s to t nothing changes but the parts named and the output pins, which stand in t as the records of t give
them; the queue of waiting commands is as it was. -/
def ChangesOnly (parts : List Part) (s t : State) : Prop :=
  (∀ p, p ∉ parts → p.same s t) ∧ t.pending = s.pending ∧ t.pins = t.outputs

/-! ### Console lines -/

/-- The line unit can take a line in the event of its CR: it sends nothing and no line waits (R169). -/
def LineFree (s : State) : Prop := s.line.transmit = .idle ∧ s.line.waiting = none

/-- The line unit with a reply started: its text stands on console transmit behind the echo of the CR, and a running
character timer is suspended (R171, R172). -/
def LineUnit.sent (l : LineUnit) (r : Reply) : LineUnit :=
  { l with transmit := .sending, tx := l.echoCr ++ r.text, timer := l.timer.suspend }

/-- The line unit with a reply started that no character came before: no echo stands ahead of its text (R170, R172). -/
def LineUnit.sentAlone (l : LineUnit) (r : Reply) : LineUnit :=
  { l with transmit := .sending, tx := r.text, timer := l.timer.suspend }

/-- The line was answered with a reply, and nothing else became of the line unit. -/
def Answered (s t : State) (r : Reply) : Prop := t.line = s.line.sent r

/-- The line unit with a warning handed over (R175, R177). -/
def LineUnit.warned (l : LineUnit) (w : Warning) : LineUnit :=
  { l with warnings := addWarning w l.warnings, attention := true, sinceReset := true }

/-! ### The manual's tables, as claims use them -/

/-- The station a console line names, by its number. -/
def stationNumber : Instr → Option Int
  | .sq n | .mo n _ | .doDouser n _ | .im n _ _ | .sr n | .sa n _ | .th n _ | .ut n | .ls n | .lx n
  | .lc n _ | .lf n _ | .lp n _ | .lq n => some n
  | _ => none

/-- The house a console line names, by its number. -/
def houseNumber : Instr → Option Int
  | .sa _ h | .pa h _ | .pi h _ _ | .pd h _ | .pc h | .pq h _ | .go h | .en h | .co h | .hq h | .hf h
  | .ha h | .hs h _ | .atAlarm h _ | .lv h _ | .lr h => some h
  | _ => none

/-- The station trip that a command is in a state, with its station cause and its capture cause (R153): gate heat,
lamphouse over-temperature, a stall at speed, or a film break while the motor runs, at a present station. -/
def State.tripEvent (s : State) : Instr → Option (StationId × StationCause × CaptureCause)
  | .ghOpen i => if (s.station i).present then some (i, .gate, .gate) else none
  | .ltOpen i => if (s.station i).present then some (i, .lampHeat, .lampHeat) else none
  | .stall i =>
    if (s.station i).present && (s.station i).stallTimer && (s.station i).motor == .atSpeed then
      some (i, .filmBreak, .filmBreak)
    else none
  | .fbOpen i =>
    if (s.station i).present && ((s.station i).motor == .runUp || (s.station i).motor == .atSpeed) then
      some (i, .filmBreak, .filmBreak)
    else none
  | _ => none

/-- The booth trip that a command is, with its cause, FT apart (R157). -/
def boothCause : Instr → Option BoothCause
  | .boothTripInput .fa => some .alarm
  | .boothTripInput .mt => some .manual
  | .boothTripInput .fl => some .link
  | _ => none

/-- A capture after one more trip: filled when EMPTY or READ, and otherwise flagged and counted up to 255 (R162). -/
def Fire.afterTrip (f : Fire) (fields : CaptureFields) : Fire :=
  match f.capture with
  | .locked _ =>
    { f with
        further := if f.further < 255 then f.further + 1 else 255
        flags := match fields.cause with
          | .filmBreak => { f.flags with filmBreak := true }
          | .gate => { f.flags with gate := true }
          | .lampHeat => { f.flags with lampHeat := true }
          | .alarm => { f.flags with alarm := true }
          | .manual => { f.flags with manual := true }
          | .link => { f.flags with link := true }
          | .console => { f.flags with console := true } }
  | _ => { f with capture := .locked fields }

/-- A station as a stop leaves its motor (R8). -/
def Station.stopped (st : Station) : Station :=
  match st.motor with
  | .runUp | .atSpeed => { st with motor := .stopping, runUpTimer := false, stallTimer := false, stopTimer := true }
  | .stopped | .stopping => st

/-- A station as a start that is taken leaves its motor (R5). -/
def Station.started (st : Station) : Station :=
  match st.motor with
  | .runUp | .atSpeed => st
  | .stopped | .stopping =>
    { st with motor := .runUp, runUpCount := 0, intervalOpen := false, runUpTimer := true, stopTimer := false }

/-- A station as an extinguish leaves its lamp, its arc channel and its carbon (R118, with R83, R87, R92, R94, R130): a
lamp that is out keeps everything; any other enters COLD. -/
def Station.extinguished (st : Station) : Station :=
  if st.lamp.state.out then st
  else
    { st with
        lamp := { st.lamp with state := .cold, cls := none, granted := none, establish := 0, pulseTimer := false }
        channel := { st.channel with
          sampleTimer := false, status := .held
          loss := if st.lamp.state = .burn then 0 else st.channel.loss
          short := if st.lamp.state = .burn then 0 else st.channel.short
          credit := if st.lamp.state = .burn then 0 else st.channel.credit
          fsPulses := if st.lamp.state = .burn then 0 else st.channel.fsPulses }
        carbon := if st.lamp.state = .burn then
            { st.carbon with window := [], openBucket := none, bucketTimer := false }
          else st.carbon }

/-- The arbiter as a lamp that was in a state leaves that state without a new grant (R108, R114): a QUEUED lamp leaves
the queue; a lamp in STRIKING or ESTABLISH ends the grant and starts the recharge. -/
def Arbiter.without (a : Arbiter) (i : StationId) (was : LampState) : Arbiter :=
  match was with
  | .queued => { a with queue := a.queue.erase i }
  | .striking | .establish => { a with grant := none, supply := .recharge, recharge := true }
  | .cold | .burn | .stub | .lockout => a

/-- A lamp channel with a fade started (R140), for a level and a time within their ranges. -/
def Light.faded (l : Light) (level time : Nat) : Light :=
  if time = 0 then { l with level := level, target := level, remaining := 0, timer := false }
  else { l with target := level, remaining := (time + 99) / 100, timer := true }

/-- A lamp channel with a light action of an entry applied; an absent action starts no fade (R144). -/
def Light.acted (l : Light) : Option LightAction → Light
  | none => l
  | some a => l.faded a.level a.time

/-- The house record at the entry to STARTING, the lamp-wait timer apart (R46). -/
def House.atStart (hs : House) : House :=
  { hs with
      engine := .starting, step := some .lampWait, hold := .none
      reel := { strike := .pending, motor := .pending, change := .pending, marks := 0, missed := none } }

/-- The cue frames of an entry lie ahead of a counter, and so does its tail (R28, R50). -/
def Entry.ahead (e : Entry) (lead counter : Nat) : Prop :=
  counter + 24 * lead < e.motor ∧ counter < e.change ∧ counter < e.length

/-! ### Conditions of console lines -/

/-- A station is the console's to move by hand (R18): NORMAL, its house engine IDLE, READY, HOLD, INTERVAL or FAULT, and
not engaged. -/
def ByHand (s : State) (i : StationId) : Prop :=
  (s.station i).condition = .normal ∧ s.engaged i = false ∧
    (s.house (s.station i).house).engine ∈ [.idle, .ready, .hold, .interval, .fault]

/-- The frames and actions of an entry as R25 to R27 take them from a line whose length and first picture are in range. -/
def TakenBy (e : EntryArgs) (x : Entry) : Prop :=
  x.label = e.label ∧ (x.length : Int) = e.length ∧ x.status = .waiting ∧ x.bound = none ∧
    (∀ n, givenFirst e.fields = some n → (x.first : Int) = n) ∧ (givenFirst e.fields = none → x.first = 192) ∧
    (∀ n, givenChange e.fields = some n →
      (x.change : Int) = if n < 24 then 24 else if e.length - 1 < n then e.length - 1 else n) ∧
    (givenChange e.fields = none → (x.change : Int) = e.length - 20) ∧
    (∀ n, givenMotor e.fields = some n →
      (x.motor : Int) = if n < 0 then 0 else if (x.change : Int) - 24 < n then (x.change : Int) - 24 else n) ∧
    (givenMotor e.fields = none → x.motor = x.change - 192) ∧
    x.cue = (givenCue e.fields).getD .footage ∧ x.stop = (givenStop e.fields).getD false ∧
    x.ms = givenMs e.fields ∧ x.pi = givenPi e.fields ∧ x.en = givenEn e.fields

/-- The conditions of a strike request, the lamp's state apart (R106). -/
def StrikeAllowed (s : State) (i : StationId) (t : Trim) : Prop :=
  (s.station i).condition = .normal ∧ (s.station i).trim = some t ∧ (s.station i).trip = none ∧
    s.fire.booth = none ∧ ((s.station i).ld.mode = .advisory ∨ (s.station i).ld.contact = .closed) ∧
    t.stub + 20 * t.sp ≤ (s.station i).carbon.rp

/-- The conditions of a start command (R5). -/
def StartAllowed (s : State) (i : StationId) : Prop :=
  (s.station i).condition = .normal ∧ (s.station i).present = true ∧ (s.station i).trip = none ∧
    s.fire.booth = none ∧ ((s.station i).md.mode = .advisory ∨ (s.station i).md.contact = .closed)

/-! ### Effects that several commands share -/

/-- From s to t the lamp of station i was requested to strike as the line LS requests it (R106 to R109): every station and
the arbiter stand as LS, given in s while the line unit is free, leaves them. -/
def StruckAs (s t : State) (i : StationId) : Prop :=
  ∃ u, exec (.ls i.number) { s with line := { s.line with transmit := .idle, waiting := none } } = .next u ∧
    t.stations = u.stations ∧ t.arbiter = u.arbiter

/-- From s to t house h entered FAULT with a cause at station i (R61, R63): no step, regime or cue stands, and no entry
stays PLAYING; the record, unless one is held, names the station, the label of its entry or of the head, the time and the
counter, and asserts ATTENTION; every demand of the house is CLOSED, every shutter closed, and the station's motor does
not run. Other houses and their stations keep their records. -/
def Faulted (s t : State) (h : HouseId) (cause : FaultCause) (i : StationId) : Prop :=
  (t.house h).engine = .fault ∧ (t.house h).step = none ∧ (t.house h).lampWait = false ∧ (t.house h).regime = none ∧
    (t.house h).reel = { strike := .pending, motor := .pending, change := .pending, marks := 0, missed := none } ∧
    (t.house h).queue = ((s.house h).queue.map fun e =>
      if e.status = .playing then { e with status := .threaded } else e) ∧
    (t.house h).fault = (match (s.house h).fault with
      | some r => some r
      | none => some
          { cause := cause, station := some i
            label := match s.boundEntry i with
              | some e => some e.label
              | none => (s.house h).queue.head?.map fun e => e.label
            time := s.clock.time, counter := some (s.station i).counter, read := false }) ∧
    ((s.house h).fault = none → t.line.attention = true) ∧ (t.station i).motor.running = false ∧
    (∀ j, (s.station j).house = h → (t.station j).demandOpen = false ∧ (t.station j).csOpen = false) ∧
    (∀ j, (s.station j).house ≠ h → t.station j = s.station j) ∧ ∀ k, k ≠ h → t.house k = s.house k

/-! ### Invariants -/

/-- A station from which nothing may be started: tripped, absent or RESETTING. -/
def Station.barred (st : Station) : Prop :=
  st.trip.isSome = true ∨ st.present = false ∨ st.condition = .resetting

/-- The motors (R2, R5 to R9, R19, R20): a tripped, absent or RESETTING station has its contactor released; each motor
timer runs exactly in its motor state; the counts stay in their ranges. -/
def StationInv (s : State) : Prop :=
  ∀ i, ((s.station i).barred → (s.station i).motor.running = false) ∧
    (s.station i).runUpTimer = decide ((s.station i).motor = .runUp) ∧
    (s.station i).stallTimer = decide ((s.station i).motor = .atSpeed) ∧
    (s.station i).stopTimer = decide ((s.station i).motor = .stopping) ∧
    (s.station i).runUpCount ≤ 12 ∧ (s.station i).counter ≤ 99999

/-- The lamps and the strike supply (R105, R108 to R115): the strike queue holds each QUEUED lamp once and no other; the
lamp in STRIKING or ESTABLISH is the one that holds the grant, so there is at most one; the supply state, the recharge
and the lamp's own counts agree; no lamp waits for a FREE supply, since a grant is tested as each joins (R109); a
tripped, absent or RESETTING station's lamp is out; under a booth trip every present station is tripped. -/
def LampInv (s : State) : Prop :=
  (∀ i, ((s.station i).barred → (s.station i).lamp.state.out = true) ∧
    (i ∈ s.arbiter.queue ↔ (s.station i).lamp.state = .queued) ∧
    (s.arbiter.grant = some i ↔ (s.station i).lamp.state.onSupply = true) ∧
    ((s.station i).lamp.cls.isSome = true ↔ (s.station i).lamp.state = .queued) ∧
    ((s.station i).lamp.granted.isSome = true ↔ (s.station i).lamp.state.onSupply = true) ∧
    (s.station i).lamp.pulseTimer = decide ((s.station i).lamp.state = .striking) ∧
    (s.station i).lamp.retry ≤ (if (s.station i).lamp.state.out then 3 else 2) ∧
    (s.station i).lamp.restrike ≤ 2 ∧
    (s.station i).lamp.establish ≤ (if (s.station i).lamp.state = .establish then 14 else 0) ∧
    i ∈ s.arbiter.order) ∧
  s.arbiter.queue.Nodup ∧ s.arbiter.order.length = 6 ∧
  (s.arbiter.supply = .granted ↔ s.arbiter.grant.isSome = true) ∧
  s.arbiter.recharge = decide (s.arbiter.supply = .recharge) ∧
  (s.arbiter.supply = .free → s.arbiter.queue = []) ∧
  (s.fire.booth.isSome = true → ∀ i, (s.station i).present = true → (s.station i).trip.isSome = true)

/-- An entry is as a PA or PI line can leave it (R25 to R27). -/
def Entry.asTaken (e : Entry) : Prop :=
  labelOk e.label = true ∧ 160 ≤ e.length ∧ e.length ≤ 99999 ∧ e.first ≤ 999 ∧
    24 ≤ e.change ∧ e.change + 1 ≤ e.length ∧ e.motor + 24 ≤ e.change ∧
    ∀ a ∈ [e.ms, e.pi, e.en], ∀ x ∈ a, x.level ≤ 1000 ∧ x.time ≤ 60000

/-- A running order holds at most 12 entries, each as a line can leave it (R24 to R27). -/
def EntriesInv (s : State) : Prop :=
  ∀ h, (s.house h).queue.length ≤ 12 ∧ ∀ e ∈ (s.house h).queue, e.asTaken

/-- The stations bound in a running order, in the order of the positions. -/
def boundStations (q : List Entry) : List StationId := q.filterMap (·.bound)

/-- A station that an entry of house h may be bound to: assigned to h, present and not RESETTING (R36, R37). -/
def State.bindable (s : State) (h : HouseId) (i : StationId) : Prop :=
  (s.station i).house = h ∧ (s.station i).present = true ∧ (s.station i).condition = .normal

/-- The bindings and the statuses (R35, R36, R41): bound entries stand at positions 1 and 2, each to a station of its
own in its house; an entry is bound exactly when it is not WAITING; one entry is PLAYING exactly while a picture is on
the screen, at position 1 or behind a RUN-OUT entry; a RUN-OUT entry stands at position 1, and in no house that is IDLE,
READY, STARTING or SUSPENDED; READY, IDLE and STARTING agree with the head; a counter is in HOLD exactly when its
station is unbound. -/
def OrderInv (s : State) : Prop :=
  (∀ h,
    (∀ e ∈ (s.house h).queue, (e.bound.isSome = true ↔ e.status ≠ .waiting)) ∧
    (∀ e ∈ (s.house h).queue.drop 2, e.bound = none) ∧
    (∀ i ∈ boundStations (s.house h).queue, s.bindable h i) ∧
    (boundStations (s.house h).queue).Nodup ∧
    (∀ e ∈ (s.house h).queue.drop 1, e.status ≠ .runOut) ∧
    ((s.house h).queue.countP fun e => e.status == .playing) = (if (s.house h).engine.showing then 1 else 0) ∧
    (∀ e ∈ (s.house h).queue.drop 1, e.status = .playing →
      ∃ r ∈ (s.house h).queue.head?, r.status = .runOut) ∧
    (∀ e ∈ (s.house h).queue, e.status = .runOut →
      (s.house h).engine ∉ [.idle, .ready, .starting, .suspended]) ∧
    ((s.house h).engine = .ready → (s.house h).headBound = true) ∧
    ((s.house h).engine = .idle → (s.house h).headBound = false) ∧
    ((s.house h).engine = .starting → ∃ e ∈ (s.house h).queue.head?, e.status = .threaded)) ∧
  ∀ i, (s.station i).counterMode = .hold ↔ s.boundEntry i = none

/-- The parameters of a lamp stand in their ranges (R97). -/
def Params.inRange (p : Params) : Prop :=
  60 ≤ p.vset ∧ p.vset ≤ 160 ∧ p.dead ≤ 20 ∧ 1 ≤ p.gain ∧ p.gain ≤ 15 ∧ 16 ≤ p.thr ∧ p.thr ≤ 1024

/-- The arc channel and the carbon of a station (R82, R83, R87, R92, R96, R101, R125, R128 to R130): sampling, counts,
credit and window live only with the lamp; in BURN the credit lies below the threshold; a jog runs only in COLD. -/
def Station.arcInv (st : Station) : Prop :=
  st.channel.sampleTimer = st.lamp.state.sampled ∧
  st.channel.status = (if st.lamp.state.sampled then .live else .held) ∧
  (∀ v ∈ st.channel.vc, v ≤ 255) ∧ (∀ a ∈ st.channel.ic, a ≤ 255) ∧
  st.channel.params.isSome = st.present ∧ (∀ p ∈ st.channel.params, p.inRange) ∧
  st.channel.steps ≤ 4 ∧
  (∀ n ∈ st.channel.jog, 1 ≤ n ∧ n ≤ 200 ∧ st.lamp.state = .cold) ∧
  (if st.lamp.state = .burn then
    st.channel.loss ≤ 1 ∧ st.channel.short ≤ 2 ∧ (∀ p ∈ st.channel.params, st.channel.credit + 1 ≤ p.thr) ∧
      st.carbon.openBucket.isSome = true ∧ st.carbon.bucketTimer = true
   else
    st.channel.loss = 0 ∧ st.channel.short = 0 ∧ st.channel.credit = 0 ∧
      st.carbon.window = [] ∧ st.carbon.openBucket = none ∧ st.carbon.bucketTimer = false) ∧
  st.carbon.rp ≤ 5000 ∧ st.carbon.window.length ≤ 8 ∧ (∀ n ∈ st.carbon.window, n ≤ 255) ∧
  (∀ n ∈ st.carbon.openBucket, n ≤ 255)

/-- The arc channels and the carbon of every station, with the invariant of the lamps that they rest on. -/
def ArcInv (s : State) : Prop := LampInv s ∧ ∀ i, (s.station i).arcInv

/-- The house lights (R139 to R141): levels are per-mille, at most 600 updates remain, and the fade timer runs exactly
while updates remain. -/
def LightInv (s : State) : Prop :=
  ∀ h, (s.house h).light.level ≤ 1000 ∧ (s.house h).light.target ≤ 1000 ∧ (s.house h).light.remaining ≤ 600 ∧
    (s.house h).light.timer = decide (0 < (s.house h).light.remaining)

/-- The line unit (R169 to R172, R175): at most 64 characters; a line waits and refusals are owed only while a reply is
sent; the timer is suspended, and not running, only while a reply is sent; each warning stands once. -/
def LineInv (s : State) : Prop :=
  s.line.buffer.length ≤ 64 ∧ s.line.owed ≤ 255 ∧
  (s.line.transmit = .idle →
    s.line.waiting = none ∧ s.line.owed = 0 ∧ s.line.rsReply = false ∧ s.line.timer ≠ .suspended) ∧
  (s.line.transmit = .sending → s.line.timer ≠ .running) ∧
  s.line.warnings.Pairwise fun a b => Warning.same a b = false

/-- While a booth trip is in force no motor runs, no lamp is queued or lit, no contactor, strike solenoid or fire-shutter
hold is energized, and every house is SUSPENDED, or UNUSED and IDLE (R158, R159), together with the invariants this
rests on. -/
def BoothInv (s : State) : Prop :=
  StationInv s ∧ LampInv s ∧ OrderInv s ∧ s.pins = s.outputs ∧
  (s.fire.booth.isSome = true →
    (∀ i, (s.station i).motor.running = false ∧ (s.station i).lamp.state.out = true ∧
      (s.pins.stations.get i).mc = false ∧ (s.pins.stations.get i).sk = false ∧
      (s.pins.stations.get i).fh = false) ∧
    ∀ h, (s.house h).engine = .suspended ∨ ((s.house h).engine = .idle ∧ s.mode h = .unused))

end Sys2Proof.Machine
end

