-- ==== Sys2Proof/Certificates/Slice0/Obligations.lean ====
section
/-!
DEFINITION. The statements about the controller. Each formalises rules of spec/; the rule numbers stand in the docstrings.
"The line unit is free" (`LineFree`) is the normal case of a console line; `BusyOrMarkedLinesAreNotRun` says what
becomes of a line otherwise.
-/

section Statements

open Sys2Proof Sys2Proof.Machine

/-! ### The machine as a whole -/

/-- A step runs the command at the front of the queue on the state with the queue's rest; with no command waiting it
leaves the state as it is (the second is the model's choice, log 5). -/
def Obligations.StepRunsTheFrontCommand : Prop :=
  ∀ (c : Instr) (rest : List Instr) (s : State),
    step { s with pending := c :: rest } = exec c { s with pending := rest } ∧
      step { s with pending := [] } = .next { s with pending := [] }

/-- R13: after every command the fire-shutter hold of a present station is energized exactly while its motor is AT-SPEED
and it is untripped, no booth trip in force. The other outputs follow the records as well: MC (R5 to R8), DS (R11), SK
(R105, R19), PR (R161), DL (R139), SB (R114). Every command goes on, and touches no waiting command. -/
def Obligations.EveryCommandGoesOnAndOutputsFollow : Prop :=
  ∀ (c : Instr) (s : State), ∃ t, exec c s = .next t ∧ t.pending = s.pending ∧
    (∀ i, (t.station i).present = true →
      ((t.pins.stations.get i).fh = true ↔
        (t.station i).motor = .atSpeed ∧ (t.station i).trip = none ∧ t.fire.booth = none) ∧
      ((t.pins.stations.get i).mc = true ↔ (t.station i).motor = .runUp ∨ (t.station i).motor = .atSpeed) ∧
      ((t.pins.stations.get i).ds = true ↔
        (t.station i).demandOpen = true ∧ (t.station i).lamp.state = .burn ∧ (t.station i).trip = none ∧
          t.fire.booth = none ∧ (t.house (t.station i).house).port = .up ∧
          ((t.station i).ld.mode = .enforce → (t.station i).ld.contact = .closed)) ∧
      ((t.pins.stations.get i).sk = true ↔
        (t.station i).lamp.state = .striking ∧ (t.station i).trip = none ∧ t.fire.booth = none ∧
          (t.station i).condition = .normal)) ∧
    (∀ i, (t.station i).present = false →
      t.pins.stations.get i = { mc := false, ds := false, fh := false, sk := false }) ∧
    (∀ h, (t.pins.houses.get h).pr = (t.house h).releasePulse ∧
      (t.pins.houses.get h).dl =
        (if (t.house h).light.fire = .set ∨ (t.house h).light.panic = .set then 1000 else (t.house h).light.level)) ∧
    t.pins.sb = t.arbiter.grant.isSome

/-- POWER_ON gives every record its power-on value, with the straps read (R1, R3, R22, R42, R70, R79, R104, R124, R138,
R151, R167, R168, R180). `State.reset` is what it gives with every strap closed (the strap levels are the model's
choice, log 3). -/
def Obligations.PowerOnTakesPowerOnValues : Prop :=
  (∀ (p : Straps) (s : State), ∃ t, exec (.powerOn p) s = .next t ∧ t.pending = s.pending ∧ t.straps = p ∧
    (∀ i, t.station i =
      { trim := (t.station i).trim
        house := match i with
          | .s1 | .s2 => .h1
          | .s3 | .s4 => .h2
          | .s5 | .s6 => .h3
        condition := .normal, motor := .stopped, runUpCount := 0, intervalOpen := false, runUpTimer := false
        stallTimer := false, stopTimer := false, counter := 0, counterMode := .hold, demandOpen := false
        csOpen := false, ld := { contact := .closed, mode := .enforce }, md := { contact := .closed, mode := .enforce }
        gh := .closed, lt := .closed, fb := .closed, trip := none
        lamp := { state := .stub, cls := none, granted := none, retry := 0, restrike := 0, establish := 0
                  pulseTimer := false }
        channel := { sampleTimer := false, vc := none, ic := none, status := .held, loss := 0, short := 0, credit := 0
                     steps := 0, params := (t.station i).channel.params, jog := none, fsPulses := 0 }
        carbon := { rp := 0, window := [], openBucket := none, bucketTimer := false, mark := .clear } }) ∧
    (∀ i,
      (p.trim.get i = { idA := .closed, idB := .closed } → (t.station i).trim = some .h ∧
        (t.station i).channel.params = some { vset := 112, dead := 2, gain := 4, thr := 256, mode := .step }) ∧
      (p.trim.get i = { idA := .closed, idB := .opened } → (t.station i).trim = some .m ∧
        (t.station i).channel.params = some { vset := 100, dead := 2, gain := 4, thr := 256, mode := .step }) ∧
      (p.trim.get i = { idA := .opened, idB := .closed } → (t.station i).trim = some .s ∧
        (t.station i).channel.params = some { vset := 84, dead := 2, gain := 4, thr := 256, mode := .step }) ∧
      (p.trim.get i = { idA := .opened, idB := .opened } → (t.station i).trim = none ∧
        (t.station i).channel.params = none)) ∧
    (∀ h, t.house h =
      { engine := .idle, step := none, lampWait := false, regime := none
        reel := { strike := .pending, motor := .pending, change := .pending, marks := 0, missed := none }
        skew := none, hold := .none, fault := none, showRunning := false
        settings := { lead := 90, margin := 60, level := 300, fade := 3000, restrike := true }
        queue := []
        light := { level := 1000, target := 1000, remaining := 0, timer := false, fire := .clear, panic := .clear }
        alarm := none, port := .down, releasePulse := false }) ∧
    t.clock = { mains := p.mains, cycles := 0, time := 0, isSet := false } ∧
    t.arbiter = { queue := [], grant := none, supply := .free, recharge := false, mode := .rotate
                  order := [.s1, .s2, .s3, .s4, .s5, .s6] } ∧
    t.fire.booth = none ∧ t.fire.fa = .closed ∧ t.fire.mt = .closed ∧ t.fire.fl = .closed ∧
    t.fire.capture = .empty ∧ t.fire.further = 0 ∧
    t.fire.flags = { filmBreak := false, gate := false, lampHeat := false, alarm := false, manual := false
                     link := false, console := false } ∧
    t.line =
      { speed := match p.speedA, p.speedB with
          | .closed, .closed => .baud110
          | .closed, .opened => .baud300
          | .opened, .closed => .baud1200
          | .opened, .opened => .baud2400
        format := if p.format = .closed then .even7 else .none8
        echo := decide (p.echo = .closed)
        buffer := [], marks := { overlong := false, error := false, lost := false }, waiting := none, owed := 0
        timer := .notRunning, transmit := .idle, tx := [], rsReply := false, warnings := [], attention := false
        sinceReset := false }) ∧
  exec (.powerOn Straps.reset) State.reset = .next State.reset

/-! ### The console line -/

/-- Every well-formed console command is read back from the line that spells it (R173, R181): no argument is dropped. -/
def Obligations.ConsoleLineReadsBack : Prop :=
  ∀ i : Instr, i.isConsole = true → i.wellFormed = true → parseLine (encodeLine i) = some i

/-- A console command that is answered NO and a code leaves every record as it was; only the reply is sent
(00_scope.md "Refused, clamped and accepted"; R174). -/
def Obligations.RefusedLineLeavesEveryRecord : Prop :=
  ∀ (i : Instr) (s t : State) (c : ErrorCode), i.isConsole = true → LineFree s → exec i s = .next t →
    t.line.tx = s.line.echoCr ++ (Reply.no c).text →
    Answered s t (.no c) ∧ ChangesOnly [.line] s t

/-- A complete line while a line waits is lost and counted as an owed refusal, and one while a reply is sent becomes the
waiting line; nothing else changes (R169, R170; that a console row stands for a complete line is the model's reading,
log 1). A CR that finds a marked or unreadable line answers it NO BY, NO PE, NO LN or NO SY; the buffer and its marks are
emptied and the timer is stopped at every CR (R171, R173). -/
def Obligations.BusyOrMarkedLinesAreNotRun : Prop :=
  (∀ (i : Instr) (s : State), i.isConsole = true →
    (s.line.waiting.isSome = true → ∃ t, exec i s = .next t ∧ ChangesOnly [.line] s t ∧
      t.line = { s.line with owed := if s.line.owed < 255 then s.line.owed + 1 else 255 }) ∧
    (s.line.waiting = none → s.line.transmit = .sending → ∃ t, exec i s = .next t ∧ ChangesOnly [.line] s t ∧
      t.line = { s.line with
        waiting := some { text := encodeLine i, marks := { overlong := false, error := false, lost := false } } })) ∧
  ∀ (s : State) (frame : BitVec 8) (stop : Bool), s.line.format.read frame stop = some '\r' →
    ∀ e : LineUnit, e = { s.line with
      buffer := [], marks := { overlong := false, error := false, lost := false }, timer := .notRunning } →
    ∃ t, exec (.characterReceived frame stop) s = .next t ∧
      (s.line.waiting.isSome = true → ChangesOnly [.line] s t ∧
        t.line = { e with owed := if s.line.owed < 255 then s.line.owed + 1 else 255 }) ∧
      (s.line.waiting = none → s.line.transmit = .sending → ChangesOnly [.line] s t ∧
        t.line = { e with waiting := some { text := s.line.buffer, marks := s.line.marks } }) ∧
      (LineFree s → s.line.marks.lost = true → ChangesOnly [.line] s t ∧ t.line = e.sent (.no .by_)) ∧
      (LineFree s → s.line.marks.lost = false → s.line.marks.error = true →
        ChangesOnly [.line] s t ∧ t.line = e.sent (.no .pe)) ∧
      (LineFree s → s.line.marks.lost = false → s.line.marks.error = false → s.line.marks.overlong = true →
        ChangesOnly [.line] s t ∧ t.line = e.sent (.no .ln)) ∧
      (LineFree s → s.line.marks.lost = false → s.line.marks.error = false → s.line.marks.overlong = false →
        parseLine s.line.buffer = none → ChangesOnly [.line] s t ∧ t.line = e.sent (.no .sy))

/-- A console command naming a station outside 1 to 6 or a house outside 1 to 3 is refused RG, and changes nothing
else (R23, R18, R14, R20, R4, R29, R45, R54, R60, R64, R68, R69, R74, R97, R100, R103, R106, R119, R121, R142, R149). -/
def Obligations.NumbersOutOfRangeAreRefusedRg : Prop :=
  ∀ (i : Instr) (s : State) (n : Int), i.wellFormed = true → LineFree s →
    (stationNumber i = some n ∧ (n < 1 ∨ 6 < n) ∨ houseNumber i = some n ∧ (n < 1 ∨ 3 < n)) →
    ∃ t, exec i s = .next t ∧ Answered s t (.no .rg) ∧ ChangesOnly [.line] s t

/-- What a received character does, a CR apart (R168 to R172): a parity or framing error discards it and marks the line
ERROR; an LF does nothing; any other is stored while there are fewer than 64, marks the line OVERLONG beyond, is
discarded in a LOST line, starts the character timer, and is echoed with echo ON while the unit is free. That the parity
bit is the frame's top bit is the model's reading (log 19).
Console transmit sends each character of its text with a start bit, its data bits, in 7-BIT EVEN a bit that makes the ones
even, and two stop bits at 110 baud and one otherwise (R168). The character code and the order of the bits, of a received
character as of a transmitted one, are the model's (log 27). -/
def Obligations.CharacterJoinsTheLine : Prop :=
  (∀ (i : Instr) (s : State), ∃ t, exec i s = .next t ∧ t.pins.transmit.length = t.line.tx.length ∧
    ∀ (k : Nat) (c : Char) (f : TxFrame), t.line.tx[k]? = some c → t.pins.transmit[k]? = some f →
      f.startBits = 1 ∧ f.stopBits = (if t.line.speed = .baud110 then 2 else 1) ∧
      f.data.length = (if t.line.format = .even7 then 7 else 8) ∧
      (∀ n, n < f.data.length → f.data[n]? = some (c.toNat.testBit n)) ∧
      (t.line.format = .none8 → f.parity = none) ∧
      (t.line.format = .even7 →
        ∃ b, f.parity = some b ∧ (f.data.count true + if b then 1 else 0) % 2 = 0)) ∧
  ∀ (s : State) (frame : BitVec 8) (stop : Bool),
    s.line.format.read frame stop =
      (match s.line.format with
        | .even7 =>
          if stop = true ∧ (frame.getLsbD 0 ^^ frame.getLsbD 1 ^^ frame.getLsbD 2 ^^ frame.getLsbD 3 ^^
              frame.getLsbD 4 ^^ frame.getLsbD 5 ^^ frame.getLsbD 6 ^^ frame.getLsbD 7) = false then
            some (Char.ofNat (frame.extractLsb' 0 7).toNat)
          else none
        | .none8 => if stop = true then some (Char.ofNat frame.toNat) else none) ∧
    ∃ t, exec (.characterReceived frame stop) s = .next t ∧
      (s.line.format.read frame stop ≠ some '\r' → ChangesOnly [.line] s t) ∧
      (s.line.format.read frame stop = none →
        t.line = { s.line with
          marks := { s.line.marks with error := true, lost := s.line.marks.lost || s.line.waiting.isSome }
          timer := if s.line.transmit = .idle then .running else .suspended }) ∧
      (s.line.format.read frame stop = some '\n' → t.line = s.line) ∧
      ∀ c, s.line.format.read frame stop = some c → c ≠ '\n' → c ≠ '\r' →
        t.line = { s.line with
          marks :=
            { s.line.marks with
                lost := s.line.marks.lost || s.line.waiting.isSome
                overlong := s.line.marks.overlong ||
                  (!s.line.marks.lost && s.line.waiting.isNone && decide (64 ≤ s.line.buffer.length)) }
          buffer :=
            if s.line.marks.lost = false ∧ s.line.waiting = none ∧ s.line.buffer.length < 64 then s.line.buffer ++ [c]
            else s.line.buffer
          timer := if s.line.transmit = .idle then .running else .suspended
          tx := if s.line.echo = true ∧ s.line.transmit = .idle ∧ s.line.waiting = none then [c] else s.line.tx }

/-- A CR that finds a complete, unmarked line spelling a console command does exactly what that command's row does, with
the buffer, its marks and the character timer cleared (R169, R173). -/
def Obligations.CrTakesTheLineAsItsCommand : Prop :=
  ∀ (i : Instr) (s : State) (frame : BitVec 8) (stop : Bool), i.sendable = true → LineFree s →
    s.line.format.read frame stop = some '\r' → s.line.buffer = encodeLine i →
    s.line.marks = { overlong := false, error := false, lost := false } →
    exec (.characterReceived frame stop) s =
      exec i { s with line := { s.line with
        buffer := [], marks := { overlong := false, error := false, lost := false }, timer := .notRunning } }

/-- The character timer running out discards the partial line and sends NO TO (R171, R172). At the end of a reply the
unit takes the waiting line, or sends one owed NO BY, or goes IDLE; the end of the reply to RS deasserts ATTENTION unless
an event has asserted it since (R170, R171, R179). A waiting line that is marked is answered NO BY, NO PE or NO LN and one
that spells no command NO SY; any other does what its command's row does; with echo ON too no CR LF of the waiting line's
stands before its reply, since that CR came while a reply was sent (R169, R171 to R173). That an end of a timer or a
reply that does not run changes nothing is the model's reading (log 2). -/
def Obligations.TimeoutAndReplyEnd : Prop :=
  ∀ (s : State) (e : LineUnit),
    e = { s.line with
      transmit := .idle, tx := [], rsReply := false
      attention := s.line.attention && (!s.line.rsReply || s.line.sinceReset)
      timer := if s.line.timer = .notRunning then .notRunning else .running } →
    (s.line.timer = .running → ∃ t, exec .characterTimeout s = .next t ∧ ChangesOnly [.line] s t ∧
      t.line = { s.line with
        buffer := [], marks := { overlong := false, error := false, lost := false }, timer := .notRunning
        transmit := .sending
        tx := (if s.line.echo then ['\r', '\n'] else []) ++ ['N', 'O', ' ', 'T', 'O', '\r', '\n'] }) ∧
    (s.line.timer ≠ .running → exec .characterTimeout s = .next { s with pins := s.outputs }) ∧
    (s.line.transmit = .sending → s.line.waiting = none → s.line.owed = 0 →
      ∃ t, exec .replyEnd s = .next t ∧ ChangesOnly [.line] s t ∧ t.line = e) ∧
    (s.line.transmit = .sending → s.line.waiting = none → 0 < s.line.owed →
      ∃ t, exec .replyEnd s = .next t ∧ ChangesOnly [.line] s t ∧
        t.line = { e with
          owed := s.line.owed - 1, transmit := .sending, tx := ['N', 'O', ' ', 'B', 'Y', '\r', '\n']
          timer := if s.line.timer = .notRunning then .notRunning else .suspended }) ∧
    (s.line.transmit = .idle → exec .replyEnd s = .next { s with pins := s.outputs }) ∧
    (∀ l, s.line.transmit = .sending → s.line.waiting = some l →
      (∀ c : ErrorCode,
        (l.marks.lost = true ∧ c = .by_ ∨ l.marks.lost = false ∧ l.marks.error = true ∧ c = .pe ∨
          l.marks.lost = false ∧ l.marks.error = false ∧ l.marks.overlong = true ∧ c = .ln ∨
          l.marks = { overlong := false, error := false, lost := false } ∧ parseLine l.text = none ∧ c = .sy) →
        ∃ t, exec .replyEnd s = .next t ∧ ChangesOnly [.line] s t ∧
          t.line = ({ e with waiting := none } : LineUnit).sentAlone (.no c)) ∧
      (∀ i, l.marks = { overlong := false, error := false, lost := false } → parseLine l.text = some i →
        ∃ u, exec i { s with line := { e with waiting := none, echo := false } } = .next u ∧
          exec .replyEnd s = .next { u with line := { u.line with echo := s.line.echo } }))

/-- SS answers with the status words and empties the warning list, and AK deasserts ATTENTION; neither changes anything
else (R176, R177). -/
def Obligations.StatusReportsOnceAndAkDeasserts : Prop :=
  ∀ s : State, LineFree s →
    (∃ t, exec .ss s = .next t ∧ ChangesOnly [.line] s t ∧
      t.line = ({ s.line with warnings := [] } : LineUnit).sent (.record
        (["FIRE".toList,
          match s.fire.capture with
            | .empty => "EMPTY".toList
            | .locked _ => "LOCKED".toList
            | .read _ => "READ".toList,
          "BOOTH".toList,
          match s.fire.booth with
            | none => "NONE".toList
            | some .alarm => "ALARM".toList
            | some .manual => "MANUAL".toList
            | some .link => "LINK".toList
            | some .console => "CONSOLE".toList] ++
          (HouseId.all.flatMap fun h => [houseText h, (s.house h).engine.text, faultPresence (s.house h).fault]) ++
          ["W".toList] ++
          (if s.line.warnings = [] then ["NONE".toList] else s.line.warnings.flatMap Warning.words)))) ∧
    (∃ t, exec .ak s = .next t ∧ ChangesOnly [.line] s t ∧
      t.line = ({ s.line with attention := false } : LineUnit).sent .ok)

/-- RS is refused BY while any station is RESETTING, and ST unless every motor is STOPPED and every lamp out; taken, it
gives every record its booth-reset value and keeps the clock and all that the fire monitor holds (R178, R179, R22, R42,
R70, R79, R104, R124, R138, R151, R159, R167). The trim straps are read afresh (R1); what they then read is a free value,
one for each reading, since no row carries it (log 4). That a station made present by the strap read under a booth trip is
tripped BOOTH is the model's reading of R159 (log 14). -/
def Obligations.BoothResetTakesItsValues : Prop :=
  ∀ s : State, LineFree s →
    ((∃ i, (s.station i).condition = .resetting) →
      ∃ t, exec .rs s = .next t ∧ Answered s t (.no .by_) ∧ ChangesOnly [.line] s t) ∧
    ((∀ i, (s.station i).condition = .normal) →
      (∃ i, (s.station i).motor ≠ .stopped ∨ (s.station i).lamp.state.out = false) →
      ∃ t, exec .rs s = .next t ∧ Answered s t (.no .st) ∧ ChangesOnly [.line] s t) ∧
    ((∀ i, (s.station i).condition = .normal ∧ (s.station i).motor = .stopped ∧
        (s.station i).lamp.state.out = true) →
      ∀ straps : Straps, straps = { s.straps with trim := Config.trimStraps s.draws } →
      ∃ t p, exec .rs s = .next t ∧ exec (.powerOn straps) s = .next p ∧
        t.pending = s.pending ∧ t.pins = t.outputs ∧ t.straps = straps ∧ t.clock = s.clock ∧ t.fire = s.fire ∧
        t.draws = s.draws + 1 ∧ t.arbiter = p.arbiter ∧
        t.line = ({ s.line with warnings := [], rsReply := true, sinceReset := false } : LineUnit).sent .ok ∧
        (∀ i, t.station i =
          { p.station i with
              ld := { (p.station i).ld with contact := (s.station i).ld.contact }
              md := { (p.station i).md with contact := (s.station i).md.contact }
              gh := (s.station i).gh, lt := (s.station i).lt, fb := (s.station i).fb
              trip := if (s.station i).trip = none ∧ s.fire.booth.isSome = true ∧ (s.station i).present = false ∧
                  (p.station i).present = true then some .booth
                else (s.station i).trip }) ∧
        ∀ h, t.house h =
          { p.house h with
              light := { (p.house h).light with fire := (s.house h).light.fire }
              port := (s.house h).port, releasePulse := (s.house h).releasePulse
              engine := if s.fire.booth.isSome = true ∧ t.mode h ≠ .unused then .suspended else .idle })

/-- A query is answered and changes nothing: SQ, LQ, HQ, CQ, PQ of an entry that stands, SP and LV and HS without a value
(R23, R34, R68, R69, R73, R103, R111, R123, R137, R143). The words of LV and HS are written out here. -/
def Obligations.QueriesChangeNothing : Prop :=
  ∀ s : State, LineFree s →
    (∀ i : StationId,
      (∃ t, exec (.sq i.number) s = .next t ∧ Answered s t (.record (s.sqWords i)) ∧ ChangesOnly [.line] s t) ∧
      (∃ t, exec (.lq i.number) s = .next t ∧ Answered s t (.record (s.lqWords i)) ∧ ChangesOnly [.line] s t)) ∧
    (∀ h : HouseId,
      (∃ t, exec (.hq h.number) s = .next t ∧ Answered s t (.record (s.hqWords h)) ∧ ChangesOnly [.line] s t) ∧
      (∀ (k : Nat) (e : Entry), (s.house h).queue[k]? = some e → k < 12 →
        ∃ t, exec (.pq h.number (k + 1)) s = .next t ∧ Answered s t (.record (s.pqWords h k e)) ∧
          ChangesOnly [.line] s t) ∧
      (∃ t, exec (.lv h.number .query) s = .next t ∧ ChangesOnly [.line] s t ∧
        Answered s t (.record
          [houseText h, "L".toList, decimal (s.house h).light.level, "TG".toList, decimal (s.house h).light.target,
           "N".toList, decimal (s.house h).light.remaining,
           "FIRE".toList, if (s.house h).light.fire = .set then "SET".toList else "CLEAR".toList,
           "PANIC".toList, if (s.house h).light.panic = .set then "SET".toList else "CLEAR".toList,
           "EFF".toList, decimal
             (if (s.house h).light.fire = .set ∨ (s.house h).light.panic = .set then 1000
              else (s.house h).light.level)])) ∧
      (∃ t, exec (.hs h.number none) s = .next t ∧ ChangesOnly [.line] s t ∧
        Answered s t (.record
          [houseText h, "LEAD".toList, decimal (s.house h).settings.lead,
           "MARGIN".toList, decimal (s.house h).settings.margin, "LEVEL".toList, decimal (s.house h).settings.level,
           "FADE".toList, decimal (s.house h).settings.fade,
           "RESTRIKE".toList, if (s.house h).settings.restrike then "ON".toList else "OFF".toList]))) ∧
    (∃ t, exec .cq s = .next t ∧ Answered s t (.record s.cqWords) ∧ ChangesOnly [.line] s t) ∧
    (∃ t, exec (.sp none) s = .next t ∧ Answered s t (.record s.spWords) ∧ ChangesOnly [.line] s t)

/-! ### Projector stations -/

/-- A tach pulse moves the counter of its station when the station is bound, up to 99 999 and down to 0, whatever else
the pulse brings about; no other counter moves (R9). -/
def Obligations.TachPulseMovesTheCounter : Prop :=
  ∀ (s : State) (i : StationId) (dir : Direction) (interval : Nat),
    ∃ t, exec (.tachPulse i dir interval) s = .next t ∧
      (s.boundEntry i = none → (t.station i).counter = (s.station i).counter) ∧
      (∀ e, s.boundEntry i = some e → dir = .forward →
        (t.station i).counter = if (s.station i).counter < 99999 then (s.station i).counter + 1 else 99999) ∧
      (∀ e, s.boundEntry i = some e → dir = .reverse → (t.station i).counter = (s.station i).counter - 1) ∧
      ∀ j, j ≠ i → (t.station j).counter = (s.station j).counter

/-- A tach pulse at an unbound station drives its motor and changes nothing else (R6 to R8): the first pulse in RUNUP
opens an interval; one of 46 ms or less counts, a longer one sets the count to 0, the twelfth makes the motor AT-SPEED;
in AT-SPEED the stall timer and in STOPPING the stop timer restarts.
The end of the stop timer makes a STOPPING motor STOPPED (R8). The end of the run-up limit in RUNUP stops the motor
and latches SLOW (R6); at the station of a start sequence the house enters FAULT with cause MOTOR (R47, R61). -/
def Obligations.MotorPulsesAndTimers : Prop :=
  (∀ (s : State) (i : StationId) (dir : Direction) (interval : Nat), s.boundEntry i = none →
    ∃ t, exec (.tachPulse i dir interval) s = .next t ∧ ChangesOnly [.station i] s t ∧
      t.station i =
        match (s.station i).motor with
        | .stopped => s.station i
        | .stopping => { s.station i with stopTimer := true }
        | .atSpeed => { s.station i with stallTimer := true }
        | .runUp =>
          if (s.station i).intervalOpen = false then { s.station i with intervalOpen := true }
          else if 46 < interval then { s.station i with runUpCount := 0 }
          else if (s.station i).runUpCount < 11 then
            { s.station i with runUpCount := (s.station i).runUpCount + 1 }
          else
            { s.station i with runUpCount := 12, motor := .atSpeed, runUpTimer := false, stallTimer := true }) ∧
  ∀ (s : State) (i : StationId),
    ((s.station i).motor = .stopping → (s.station i).stopTimer = true →
      ∃ t, exec (.stopTimer i) s = .next t ∧ ChangesOnly [.station i] s t ∧
        t.station i = { s.station i with motor := .stopped, stopTimer := false }) ∧
    ((s.station i).motor = .runUp → (s.station i).runUpTimer = true →
      (s.house (s.station i).house).startStation ≠ some i →
      ∃ t, exec (.runUpLimit i) s = .next t ∧ ChangesOnly [.station i, .line] s t ∧
        t.line = s.line.warned (.slow i) ∧
        t.station i = { s.station i with
          motor := .stopping, runUpTimer := false, stallTimer := false, stopTimer := true }) ∧
    ((s.station i).motor = .runUp → (s.station i).runUpTimer = true →
      (s.house (s.station i).house).startStation = some i →
      ∃ t, exec (.runUpLimit i) s = .next t ∧ (t.station i).motor = .stopping ∧
        (t.house (s.station i).house).engine = .fault ∧
        ((s.house (s.station i).house).fault = none → ∃ r, (t.house (s.station i).house).fault = some r ∧
          r.cause = .motor ∧ r.station = some i ∧ r.time = s.clock.time ∧
          r.counter = some (s.station i).counter ∧ r.read = false) ∧
        t.line = s.line.warned (.slow i))

/-- A trip event of R153 (GH_OPEN, LT_OPEN, STALL, FB_OPEN) at a present station leaves it TRIPPED with its first cause.
An untripped station has its motor stopped, its demand CLOSED, its shutter closed, its lamp out, its jog and its feed
pulses ended; its counter stands (R153, R154). One already tripped keeps its motor, demand, shutter and lamp (R19). No
other station's trip, lamp or counter changes.
A trip with cause LAMPHEAT or BREAK of an untripped station that is not engaged and not RUN-OUT changes the station,
the arbiter where its lamp stood in it, the capture and ATTENTION, and nothing else; its house takes the test of R41
(R153 to R155). -/
def Obligations.TripActsOnTheStation : Prop :=
  (∀ (s : State) (c : Instr) (i : StationId) (cause : StationCause) (cap : CaptureCause),
    s.tripEvent c = some (i, cause, cap) →
    ∃ t, exec c s = .next t ∧
      (t.station i).trip = some ((s.station i).trip.getD cause) ∧
      (t.station i).counter = (s.station i).counter ∧
      ((s.station i).trip = none →
        (t.station i).motor = (s.station i).stopped.motor ∧ (t.station i).demandOpen = false ∧
          (t.station i).csOpen = false ∧ (t.station i).lamp = (s.station i).extinguished.lamp ∧
          (t.station i).carbon = (s.station i).extinguished.carbon ∧
          (t.station i).channel = { (s.station i).extinguished.channel with jog := none, fsPulses := 0 }) ∧
      ((s.station i).trip.isSome = true →
        (t.station i).motor = (s.station i).motor ∧ (t.station i).demandOpen = (s.station i).demandOpen ∧
          (t.station i).csOpen = (s.station i).csOpen ∧ (t.station i).lamp = (s.station i).lamp) ∧
      ∀ j, j ≠ i → (t.station j).trip = (s.station j).trip ∧ (t.station j).lamp = (s.station j).lamp ∧
        (t.station j).counter = (s.station j).counter) ∧
  ∀ (s : State) (c : Instr) (i : StationId) (cause : StationCause) (cap : CaptureCause),
    s.tripEvent c = some (i, cause, cap) → cause ≠ .gate → (s.station i).trip = none → s.engaged i = false →
    (∀ e, s.boundEntry i = some e → e.status ≠ .runOut) →
    ∃ t, exec c s = .next t ∧
      ChangesOnly [.station i, .house (s.station i).house, .arbiter, .fire, .line] s t ∧
      t.house (s.station i).house = (s.house (s.station i).house).readyTest ∧
      t.arbiter = s.arbiter.without i (s.station i).lamp.state ∧
      t.line = { s.line with attention := true, sinceReset := true } ∧
      t.station i =
        { s.station i with
            motor := (s.station i).stopped.motor, runUpTimer := (s.station i).stopped.runUpTimer
            stallTimer := (s.station i).stopped.stallTimer, stopTimer := (s.station i).stopped.stopTimer
            trip := some cause, demandOpen := false, csOpen := false
            lt := if c = .ltOpen i then .opened else (s.station i).lt
            fb := if c = .fbOpen i then .opened else (s.station i).fb
            lamp := (s.station i).extinguished.lamp, carbon := (s.station i).extinguished.carbon
            channel := { (s.station i).extinguished.channel with jog := none, fsPulses := 0 } }

/-- A trip of an engaged untripped station, and a door opened in ENFORCE at an engaged station, bring its house to FAULT
with cause TRIP or INTERLOCK: the record, unless one is held, names the station, its entry's label, the time and the
counter; every shutter of the house is closed and every demand CLOSED; no entry stays PLAYING. The other houses keep
their records (R17, R61, R63, R155). -/
def Obligations.EngagedStationFaultsTheHouse : Prop :=
  ∀ (s : State) (c : Instr) (i : StationId) (cause : FaultCause),
    ((∃ k cap, s.tripEvent c = some (i, k, cap)) ∧ (s.station i).trip = none ∧ cause = .trip ∨
      c = .ldQualified i .opened ∧ (s.station i).present = true ∧ (s.station i).ld.mode = .enforce ∧
        cause = .interlock ∨
      c = .mdQualified i .opened ∧ (s.station i).present = true ∧ (s.station i).md.mode = .enforce ∧
        cause = .interlock) →
    s.engaged i = true →
    ∃ t, exec c s = .next t ∧
      (t.house (s.station i).house).engine = .fault ∧ (t.house (s.station i).house).regime = none ∧
      (t.house (s.station i).house).step = none ∧ (t.house (s.station i).house).lampWait = false ∧
      (∀ e ∈ (t.house (s.station i).house).queue, e.status ≠ .playing) ∧
      (t.house (s.station i).house).fault =
        (match (s.house (s.station i).house).fault with
          | some r => some r
          | none => some
              { cause := cause, station := some i, label := (s.boundEntry i).map fun e => e.label
                time := s.clock.time, counter := some (s.station i).counter, read := false }) ∧
      (∀ j, (s.station j).house = (s.station i).house →
        (t.station j).demandOpen = false ∧ (t.station j).csOpen = false) ∧
      (∀ j, (s.station j).house ≠ (s.station i).house → t.station j = s.station j) ∧
      (∀ h, h ≠ (s.station i).house → t.house h = s.house h) ∧ t.line.attention = true

/-- Every trip event of R153 and R157 acts at the capture: it fills it when EMPTY or READ with what stood before the
trip, sets the flag of its cause and counts in LOCKED, and asserts ATTENTION (R162, R163). The events are GH_OPEN,
LT_OPEN, STALL and FB_OPEN, BOOTH_TRIP_INPUT and the line FT with cause CONSOLE, and a start command that is taken and
finds FB open, here by MO ON and by a GO whose head lamp burns, which trips the station with BREAK (a start command at the
motor cue stands in `FootageCuesAreTaken`). -/
def Obligations.CaptureTakesTheFirstTrip : Prop :=
  ∀ (s : State) (c : Instr),
    (∀ i cause cap, s.tripEvent c = some (i, cause, cap) →
      ∃ t, exec c s = .next t ∧ t.line.attention = true ∧
        t.fire = s.fire.afterTrip
          { cause := cap, station := some i, house := some (s.station i).house, time := s.clock.time
            counter := some (s.station i).counter, lamp := some (s.station i).lamp.state
            onScreen := some (decide ((s.house (s.station i).house).onScreen = some i)) }) ∧
    (∀ k, (boothCause c = some k ∨ c = .ft ∧ k = .console ∧ LineFree s) →
      ∀ f, f = s.fire.afterTrip
          { cause := BoothCause.capture k, station := none, house := none, time := s.clock.time, counter := none
            lamp := none, onScreen := none } →
        ∃ t, exec c s = .next t ∧ t.line.attention = true ∧ t.fire.capture = f.capture ∧
          t.fire.flags = f.flags ∧ t.fire.further = f.further) ∧
    ∀ i, LineFree s → StartAllowed s i → (s.station i).fb = .opened → (s.station i).motor.running = false →
      (c = .mo i.number true ∧ ByHand s i ∨
        ∃ h, c = .go h.number ∧ (s.house h).engine ∈ [.ready, .interval, .hold] ∧ (s.house h).port = .up ∧
          (s.station i).house = h ∧ (s.station i).lamp.state = .burn ∧
          ∃ e, (s.house h).queue.head? = some e ∧ e.status = .threaded ∧ e.bound = some i) →
      ∃ t, exec c s = .next t ∧ t.line.attention = true ∧ (t.station i).trip = some .filmBreak ∧
        (t.station i).motor = .stopping ∧
        t.fire = s.fire.afterTrip
          { cause := .filmBreak, station := some i, house := some (s.station i).house, time := s.clock.time
            counter := some (s.station i).counter, lamp := some (s.station i).lamp.state, onScreen := some false } ∧
        (∀ h, c = .go h.number → (t.house h).engine = .fault ∧
          ((s.house h).fault = none → ∃ r, (t.house h).fault = some r ∧ r.cause = .trip ∧ r.station = some i))

/-- At the end of the reset hold a RESETTING station takes the class its straps give with that class's parameters, its
doors return to ENFORCE and its condition becomes NORMAL; nothing else changes, where the reading makes no station
present, or one with no booth trip in force and GH and LT closed (R1, R21, R96). Made present under a booth trip it is
tripped BOOTH, and its house leaves IDLE for SUSPENDED (R159); no light channel changes (R151), so that this entry to
SUSPENDED starts no fade (the model's reading, log 13). That the reading makes no interlock event of a door that
stands open is the model's reading (log 14). -/
def Obligations.ResetHoldEnds : Prop :=
  ∀ (s : State) (i : StationId) (p : TrimStraps), (s.station i).condition = .resetting →
    (((s.station i).present = true ∨ p = { idA := .opened, idB := .opened } ∨
        (s.fire.booth = none ∧ (s.station i).gh = .closed ∧ (s.station i).lt = .closed)) →
      ∃ t, exec (.resetHoldEnd i p) s = .next t ∧ ChangesOnly [.straps, .station i] s t ∧
        t.straps = { s.straps with trim := s.straps.trim.set i p } ∧
        t.station i =
          { s.station i with
              condition := .normal
              ld := { (s.station i).ld with mode := .enforce }, md := { (s.station i).md with mode := .enforce }
              trim := match p.idA, p.idB with
                | .closed, .closed => some .h
                | .closed, .opened => some .m
                | .opened, .closed => some .s
                | .opened, .opened => none
              channel := { (s.station i).channel with
                params := match p.idA, p.idB with
                  | .closed, .closed => some { vset := 112, dead := 2, gain := 4, thr := 256, mode := .step }
                  | .closed, .opened => some { vset := 100, dead := 2, gain := 4, thr := 256, mode := .step }
                  | .opened, .closed => some { vset := 84, dead := 2, gain := 4, thr := 256, mode := .step }
                  | .opened, .opened => none } }) ∧
    ((s.station i).present = false → p ≠ { idA := .opened, idB := .opened } → s.fire.booth.isSome = true →
      (s.station i).trip = none → (s.station i).gh = .closed → (s.station i).lt = .closed →
      ∃ t, exec (.resetHoldEnd i p) s = .next t ∧ (t.station i).condition = .normal ∧
        (t.station i).trip = some .booth ∧ (t.station i).demandOpen = false ∧ (t.station i).csOpen = false ∧
        t.fire = s.fire ∧
        ((s.house (s.station i).house).engine = .idle →
          (t.house (s.station i).house).engine = .suspended ∧
            (t.house (s.station i).house).showRunning = false) ∧
        (∀ h, (t.house h).light = (s.house h).light ∧ (h ≠ (s.station i).house → t.house h = s.house h)) ∧
        ((s.house (s.station i).house).engine ≠ .idle →
          t.house (s.station i).house = s.house (s.station i).house))

/-- A qualified door change (R2, R15 to R17), by LD_QUALIFIED and MD_QUALIFIED, at a station that is not engaged: a door
that closes, or any change at an absent station, is only recorded; opened in ADVISORY it latches INTERLOCK; LD opened in
ENFORCE puts the lamp out and MD opened in ENFORCE stops the motor and closes the demand, each with INTERLOCK. That an
opening reported again acts again is the model's reading (log 15). -/
def Obligations.DoorChangesActByTheirMode : Prop :=
  ∀ (s : State) (i : StationId) (c : Contact),
    (c = .closed ∨ (s.station i).present = false →
      (∃ t, exec (.ldQualified i c) s = .next t ∧ ChangesOnly [.station i] s t ∧
        t.station i = { s.station i with ld := { (s.station i).ld with contact := c } }) ∧
      ∃ t, exec (.mdQualified i c) s = .next t ∧ ChangesOnly [.station i] s t ∧
        t.station i = { s.station i with md := { (s.station i).md with contact := c } }) ∧
    (c = .opened → (s.station i).present = true → (s.station i).ld.mode = .advisory →
      ∃ t, exec (.ldQualified i c) s = .next t ∧ ChangesOnly [.station i, .line] s t ∧
        t.line = s.line.warned (.interlock i) ∧
        t.station i = { s.station i with ld := { contact := .opened, mode := .advisory } }) ∧
    (c = .opened → (s.station i).present = true → (s.station i).md.mode = .advisory →
      ∃ t, exec (.mdQualified i c) s = .next t ∧ ChangesOnly [.station i, .line] s t ∧
        t.line = s.line.warned (.interlock i) ∧
        t.station i = { s.station i with md := { contact := .opened, mode := .advisory } }) ∧
    (c = .opened → (s.station i).present = true → (s.station i).ld.mode = .enforce → s.engaged i = false →
      ∃ t, exec (.ldQualified i c) s = .next t ∧ ChangesOnly [.station i, .arbiter, .line] s t ∧
        t.line = s.line.warned (.interlock i) ∧ t.arbiter = s.arbiter.without i (s.station i).lamp.state ∧
        t.station i = { (s.station i).extinguished with ld := { contact := .opened, mode := .enforce } }) ∧
    (c = .opened → (s.station i).present = true → (s.station i).md.mode = .enforce → s.engaged i = false →
      ∃ t, exec (.mdQualified i c) s = .next t ∧ ChangesOnly [.station i, .line] s t ∧
        t.line = s.line.warned (.interlock i) ∧
        t.station i =
          { (s.station i).stopped with demandOpen := false, md := { contact := .opened, mode := .enforce } })

/-- IM sets the mode of one door and is answered OK; it is refused BY while RESETTING. Setting ENFORCE on a door that
stands open enforces it: at a present station that is not engaged LD puts the lamp out, and MD stops the motor and closes
the demand, with INTERLOCK (R14 to R17). -/
def Obligations.InterlockModeLine : Prop :=
  ∀ (s : State) (i : StationId) (m : DoorMode), LineFree s →
    ((s.station i).condition = .resetting → ∀ d,
      ∃ t, exec (.im i.number d m) s = .next t ∧ Answered s t (.no .by_) ∧ ChangesOnly [.line] s t) ∧
    ((s.station i).condition = .normal →
      ((m = .advisory ∨ (s.station i).ld.mode = .enforce ∨ (s.station i).ld.contact = .closed ∨
          (s.station i).present = false) →
        ∃ t, exec (.im i.number .ld m) s = .next t ∧ Answered s t .ok ∧ ChangesOnly [.station i, .line] s t ∧
          t.station i = { s.station i with ld := { (s.station i).ld with mode := m } }) ∧
      ((m = .advisory ∨ (s.station i).md.mode = .enforce ∨ (s.station i).md.contact = .closed ∨
          (s.station i).present = false) →
        ∃ t, exec (.im i.number .md m) s = .next t ∧ Answered s t .ok ∧ ChangesOnly [.station i, .line] s t ∧
          t.station i = { s.station i with md := { (s.station i).md with mode := m } }) ∧
      (m = .enforce → (s.station i).present = true → s.engaged i = false →
        ((s.station i).ld = { contact := .opened, mode := .advisory } →
          ∃ t, exec (.im i.number .ld m) s = .next t ∧ ChangesOnly [.station i, .arbiter, .line] s t ∧
            t.line = (s.line.warned (.interlock i)).sent .ok ∧
            t.arbiter = s.arbiter.without i (s.station i).lamp.state ∧
            t.station i = { (s.station i).extinguished with ld := { contact := .opened, mode := .enforce } }) ∧
        ((s.station i).md = { contact := .opened, mode := .advisory } →
          ∃ t, exec (.im i.number .md m) s = .next t ∧ ChangesOnly [.station i, .line] s t ∧
            t.line = (s.line.warned (.interlock i)).sent .ok ∧
            t.station i =
              { (s.station i).stopped with demandOpen := false, md := { contact := .opened, mode := .enforce } })))

/-- MO and DO of a station that may be moved by hand (R18, R5, R8, R11). MO OFF stops the motor. MO ON of a present,
untripped station with MD not enforced open and FB closed starts a stopped motor and leaves a running one. DO CLOSE
closes the demand; DO OPEN opens it when every other condition of R11 holds, and is refused FI for a trip or ports DOWN
and ST for the other conditions; that FI comes first is the model's reading (log 17). -/
def Obligations.ManualMotorAndDouserLines : Prop :=
  ∀ (s : State) (i : StationId), LineFree s → ByHand s i →
    (∃ t, exec (.mo i.number false) s = .next t ∧ Answered s t .ok ∧ ChangesOnly [.station i, .line] s t ∧
      t.station i = (s.station i).stopped) ∧
    ((s.station i).present = true → (s.station i).trip = none → s.fire.booth = none →
      ((s.station i).md.mode = .advisory ∨ (s.station i).md.contact = .closed) → (s.station i).fb = .closed →
      ∃ t, exec (.mo i.number true) s = .next t ∧ Answered s t .ok ∧ ChangesOnly [.station i, .line] s t ∧
        t.station i =
          match (s.station i).motor with
          | .runUp | .atSpeed => s.station i
          | .stopped | .stopping =>
            { s.station i with
                motor := .runUp, runUpCount := 0, intervalOpen := false, runUpTimer := true, stopTimer := false }) ∧
    (∃ t, exec (.doDouser i.number false) s = .next t ∧ Answered s t .ok ∧ ChangesOnly [.station i, .line] s t ∧
      t.station i = { s.station i with demandOpen := false }) ∧
    ((s.station i).trip = none → s.fire.booth = none → (s.house (s.station i).house).port = .up →
      (((s.station i).present = true ∧ (s.station i).lamp.state = .burn ∧
          ((s.station i).ld.mode = .advisory ∨ (s.station i).ld.contact = .closed)) →
        ∃ t, exec (.doDouser i.number true) s = .next t ∧ Answered s t .ok ∧ ChangesOnly [.station i, .line] s t ∧
          t.station i = { s.station i with demandOpen := true } ∧ (t.pins.stations.get i).ds = true) ∧
      (((s.station i).present = false ∨ (s.station i).lamp.state ≠ .burn ∨
          (s.station i).ld = { contact := .opened, mode := .enforce }) →
        ∃ t, exec (.doDouser i.number true) s = .next t ∧ Answered s t (.no .st) ∧ ChangesOnly [.line] s t)) ∧
    (((s.station i).trip.isSome = true ∨ s.fire.booth.isSome = true ∨
        (s.house (s.station i).house).port = .down) →
      ∃ t, exec (.doDouser i.number true) s = .next t ∧ Answered s t (.no .fi) ∧ ChangesOnly [.line] s t)

/-- SR of an unengaged station that is NORMAL and whose lamp is out makes it RESETTING: the motor stopped, the demand and
the shutter closed, the counter 0 in HOLD, the lamp in STUB with no carbon, the channel and the carbon record cleared;
a THREADED entry of the station returns to WAITING, and the house takes the test of R41 (R20, R104, R120, R138). That the
run-up count, 0 at the end of the reset by R22, becomes 0 as SR is taken is the model's choice (log 28). SA of an unbound
NORMAL station between houses that are both IDLE moves it, where at most one other station stands there (R4). -/
def Obligations.ResetAndAssignLines : Prop :=
  ∀ (s : State) (i : StationId), LineFree s → (s.station i).condition = .normal →
    (s.engaged i = false → (s.station i).lamp.state.out = true →
      (∀ e, s.boundEntry i = some e → e.status ≠ .runOut) →
      ∃ t, exec (.sr i.number) s = .next t ∧ Answered s t .ok ∧
        ChangesOnly [.station i, .house (s.station i).house, .line] s t ∧
        t.house (s.station i).house =
          ({ s.house (s.station i).house with
              queue := (s.house (s.station i).house).queue.map fun e =>
                if e.bound = some i then { e with status := .waiting, bound := none } else e } : House).readyTest ∧
        t.station i =
          { (s.station i).stopped with
              condition := .resetting, runUpCount := 0, counter := 0, counterMode := .hold
              demandOpen := false, csOpen := false
              lamp := { state := .stub, cls := none, granted := none, retry := 0, restrike := 0, establish := 0
                        pulseTimer := false }
              channel := { sampleTimer := false, vc := none, ic := none, status := .held, loss := 0, short := 0
                           credit := 0, steps := 0, params := (s.station i).channel.params, jog := none
                           fsPulses := 0 }
              carbon := { rp := 0, window := [], openBucket := none, bucketTimer := false, mark := .clear } }) ∧
    (∀ h : HouseId, (s.house (s.station i).house).engine = .idle → (s.house h).engine = .idle →
      s.boundEntry i = none → ((StationId.all.filter fun j => j ≠ i ∧ (s.station j).house = h).length ≤ 1) →
      ∃ t, exec (.sa i.number h.number) s = .next t ∧ Answered s t .ok ∧ ChangesOnly [.station i, .line] s t ∧
        t.station i = { s.station i with house := h })

/-! ### The running order -/

/-- R30: PA appends at the tail of the house's running order an entry that is WAITING and bound to no station, in every
state of the house engine, and is refused FL when 12 entries stand there. PI inserts before position n when no entry at
or behind n is bound, and every entry from there moves one place back (R31). The entry is as R25 to R27 take it and the
moved values are answered (R29). While no picture is on the screen nothing else changes but the test of R41. -/
def Obligations.EntryJoinsTheRunningOrder : Prop :=
  ∀ (s : State) (h : HouseId) (e : EntryArgs), LineFree s → e.wellFormed = true →
    160 ≤ e.length → e.length ≤ 99999 → (∀ n, givenFirst e.fields = some n → 0 ≤ n ∧ n ≤ 999) →
    ((s.house h).queue.length < 12 →
      ∃ t x, exec (.pa h.number e) s = .next t ∧ TakenBy e x ∧
        (t.house h).queue = (s.house h).queue ++ [x] ∧
        t.line.tx = s.line.echoCr ++ (Reply.okMoved (movedFields e)).text ∧
        ((s.house h).engine ∉ [.playing, .preparing, .motorCued] →
          Answered s t (Reply.okMoved (movedFields e)) ∧ ChangesOnly [.house h, .line] s t ∧
          t.house h = ({ s.house h with queue := (s.house h).queue ++ [x] } : House).readyTest)) ∧
    (12 ≤ (s.house h).queue.length →
      ∃ t, exec (.pa h.number e) s = .next t ∧ Answered s t (.no .fl) ∧ ChangesOnly [.line] s t) ∧
    (∀ k : Nat, k ≤ (s.house h).queue.length → (s.house h).queue.length < 12 →
      (∀ x ∈ (s.house h).queue.drop k, x.bound = none) →
      (s.house h).engine ∉ [.playing, .preparing, .motorCued] →
      ∃ t x, exec (.pi h.number (k + 1) e) s = .next t ∧ TakenBy e x ∧
        Answered s t (Reply.okMoved (movedFields e)) ∧ ChangesOnly [.house h, .line] s t ∧
        t.house h =
          ({ s.house h with
              queue := (s.house h).queue.take k ++ x :: (s.house h).queue.drop k } : House).readyTest)

/-- PD deletes an unbound entry outside STARTING and closes the order up; of a bound entry it is refused ST, and of none
EM (R32). PC in IDLE, READY, HOLD or INTERVAL removes every entry; the stations bound there lose their bindings, and a
RUN-OUT station's motor is stopped (R33). A HOLD or INTERVAL house left empty goes to IDLE (R65). -/
def Obligations.EntriesLeaveTheRunningOrder : Prop :=
  ∀ (s : State) (h : HouseId), LineFree s →
    (∀ (k : Nat) (e : Entry), k < 12 → (s.house h).queue[k]? = some e →
      (e.bound = none → (s.house h).engine ≠ .starting →
        ∃ t, exec (.pd h.number (k + 1)) s = .next t ∧ Answered s t .ok ∧ ChangesOnly [.house h, .line] s t ∧
          t.house h =
            ({ s.house h with queue := (s.house h).queue.eraseIdx k } : House).readyTest.emptyTest) ∧
      (e.bound.isSome = true ∨ (s.house h).engine = .starting →
        ∃ t, exec (.pd h.number (k + 1)) s = .next t ∧ Answered s t (.no .st) ∧ ChangesOnly [.line] s t)) ∧
    (∀ k : Nat, k < 12 → (s.house h).queue.length ≤ k →
      ∃ t, exec (.pd h.number (k + 1)) s = .next t ∧ Answered s t (.no .em) ∧ ChangesOnly [.line] s t) ∧
    ((s.house h).engine ∈ [.idle, .ready, .hold, .interval] →
      ∃ t, exec (.pc h.number) s = .next t ∧ Answered s t .ok ∧
        (t.house h).queue = [] ∧ (t.house h).engine = .idle ∧
        (∀ k, k ≠ h → t.house k = s.house k) ∧
        t.clock = s.clock ∧ t.arbiter = s.arbiter ∧ t.fire = s.fire ∧
        (∀ i, (∀ e ∈ (s.house h).queue, e.bound ≠ some i) → t.station i = s.station i) ∧
        (∀ i, ∀ e ∈ (s.house h).queue, e.bound = some i → (t.station i).counterMode = .hold ∧
          (t.station i).counter = (s.station i).counter ∧ (t.station i).lamp = (s.station i).lamp ∧
          (t.station i).demandOpen = (s.station i).demandOpen ∧
          (e.status = .runOut → (t.station i).motor.running = false))) ∧
    ((s.house h).engine ∉ [.idle, .ready, .hold, .interval] →
      ∃ t, exec (.pc h.number) s = .next t ∧ Answered s t (.no .st) ∧ ChangesOnly [.line] s t)

/-- TH binds a present, unbound, NORMAL station whose motor is STOPPED to the first unbound entry, at position 1, or at
position 2 of a CHANGEOVER house behind an entry bound to the house's other station: the entry becomes THREADED, the
counter 0 in FORWARD (R37, R38). UT of a station whose motor is STOPPED, whose entry is THREADED and which is not in a
start sequence returns the entry to WAITING; the counter keeps its value in HOLD (R39). The house takes the test of R41. -/
def Obligations.ThreadingLines : Prop :=
  ∀ (s : State) (i : StationId), LineFree s → (s.station i).condition = .normal → (s.station i).motor = .stopped →
    (∀ (k : Nat) (e : Entry), (s.station i).present = true → s.boundEntry i = none →
      (s.house (s.station i).house).queue[k]? = some e → e.status = .waiting →
      (k = 0 ∨ k = 1 ∧ s.mode (s.station i).house = .changeover ∧
        ∃ j, ((s.house (s.station i).house).queue.head?.bind fun x => x.bound) = some j ∧ j ≠ i ∧
          (s.station j).house = (s.station i).house) →
      ∃ t, exec (.th i.number (k + 1)) s = .next t ∧ Answered s t .ok ∧
        ChangesOnly [.station i, .house (s.station i).house, .line] s t ∧
        t.station i = { s.station i with counter := 0, counterMode := .forward } ∧
        t.house (s.station i).house =
          ({ s.house (s.station i).house with
              queue := (s.house (s.station i).house).queue.set k
                { e with status := .threaded, bound := some i } } : House).readyTest) ∧
    (∀ e, s.boundEntry i = some e → e.status = .threaded →
      (s.house (s.station i).house).startStation ≠ some i →
      ∃ t, exec (.ut i.number) s = .next t ∧ Answered s t .ok ∧
        ChangesOnly [.station i, .house (s.station i).house, .line] s t ∧
        t.station i = { s.station i with counterMode := .hold } ∧
        t.house (s.station i).house =
          ({ s.house (s.station i).house with
              queue := (s.house (s.station i).house).queue.map fun x =>
                if x.bound = some i then { x with status := .waiting, bound := none } else x } : House).readyTest)

/-! ### The house engine -/

/-- A READY, INTERVAL or HOLD house whose head is THREADED on an untripped station, with its ports UP and no booth trip in
force, is started by GO and by the changeover button alike (R45): it enters STARTING at LAMP-WAIT. A head lamp on its way
is waited for, and nothing else changes; a COLD one is requested to strike, as LS requests it, and waited for; where the
request is refused, or the lamp is in STUB or LOCKOUT, the house goes on to FAULT with cause LAMP (R46). GO is refused BY
in STARTING, FI in SUSPENDED or with the head tripped or the ports DOWN, and ST in the other states and without a THREADED
head; the button then does nothing, or brings FAULT with cause START in place of FI (R45). -/
def Obligations.ShowStartsFromItsHead : Prop :=
  ∀ (s : State) (h : HouseId), LineFree s →
    (∀ (e : Entry) (i : StationId), (s.house h).engine ∈ [.ready, .interval, .hold] →
      (s.house h).queue.head? = some e → e.status = .threaded → e.bound = some i → (s.station i).house = h →
      ((s.house h).port = .up → (s.station i).trip = none → s.fire.booth = none → (s.station i).lamp.state ≠ .burn →
        ∃ t u, exec (.cbClosing h) s = .next t ∧ exec (.go h.number) s = .next u ∧
          u = { t with line := t.line.sent .ok, pins := u.pins } ∧
          ((s.station i).lamp.state ∈ [.queued, .striking, .establish] → ChangesOnly [.house h] s t ∧
            t.house h = { (s.house h).atStart with lampWait := true }) ∧
          (∀ t₀, (s.station i).lamp.state = .cold → StrikeAllowed s i t₀ → StruckAs s t i ∧
            (∀ k, t.house k = if k = h then { (s.house h).atStart with lampWait := true } else s.house k) ∧
            t.clock = s.clock ∧ t.fire = s.fire ∧ t.line = s.line ∧ t.draws = s.draws ∧ t.straps = s.straps) ∧
          (((s.station i).lamp.state ∈ [.stub, .lockout] ∨
              (s.station i).lamp.state = .cold ∧ ∀ t₀, ¬ StrikeAllowed s i t₀) →
            Faulted s t h .lamp i ∧ (t.house h).hold = .none ∧ (t.station i).lamp = (s.station i).lamp ∧
            t.arbiter = s.arbiter ∧ t.fire = s.fire ∧ t.clock = s.clock)) ∧
      ((s.house h).port = .down ∨ (s.station i).trip.isSome = true ∨ s.fire.booth.isSome = true →
        (∃ t, exec (.go h.number) s = .next t ∧ Answered s t (.no .fi) ∧ ChangesOnly [.line] s t) ∧
        ∃ t, exec (.cbClosing h) s = .next t ∧ (t.house h).engine = .fault ∧
          ((s.house h).fault = none → ∃ r, (t.house h).fault = some r ∧ r.cause = .start ∧
            r.station = some i ∧ r.read = false))) ∧
    ((s.house h).engine = .starting →
      ∃ t, exec (.go h.number) s = .next t ∧ Answered s t (.no .by_) ∧ ChangesOnly [.line] s t) ∧
    ((s.house h).engine = .suspended →
      ∃ t, exec (.go h.number) s = .next t ∧ Answered s t (.no .fi) ∧ ChangesOnly [.line] s t) ∧
    (((s.house h).engine ∈ [.idle, .playing, .preparing, .motorCued, .runDown, .fault] ∨
        (s.house h).engine ∈ [.ready, .interval, .hold] ∧
          ∀ e, (s.house h).queue.head? = some e → e.status ≠ .threaded ∨ e.bound = none) →
      ∃ t, exec (.go h.number) s = .next t ∧ Answered s t (.no .st) ∧ ChangesOnly [.line] s t) ∧
    (((s.house h).engine ∈ [.idle, .starting, .playing, .preparing, .runDown, .fault, .suspended] ∨
        (s.house h).engine ∈ [.ready, .interval, .hold] ∧
          ∀ e, (s.house h).queue.head? = some e → e.status ≠ .threaded ∨ e.bound = none) →
      exec (.cbClosing h) s = .next { s with pins := s.outputs })

/-- A start whose head lamp already burns passes to RUNUP in the same event: the head station's motor starts and the
head's MS action is applied; a motor already AT-SPEED passes on to LEADER at once (R46, R47, R144). The pulse that brings its motor AT-SPEED passes RUNUP to LEADER (R47). In
LEADER the FORWARD pulse that reaches the first picture takes the picture: the demand is set OPEN, the shutter opened, the
PI action applied, the entry made PLAYING, the regime recorded by the house mode and the engine enters PLAYING; a pulse
before it only counts (R48, R44, R12, R35, R134). The picture is stated for a reel whose cues and tail still lie ahead. -/
def Obligations.StartWithBurningLampRunsUp : Prop :=
  (∀ (s : State) (h : HouseId) (e : Entry) (i : StationId), LineFree s →
    (s.house h).engine ∈ [.ready, .interval, .hold] →
    (s.house h).queue.head? = some e → e.status = .threaded → e.bound = some i → (s.house h).port = .up →
    StartAllowed s i → (s.station i).fb = .closed → (s.station i).lamp.state = .burn →
    ((s.station i).motor = .atSpeed → (s.station i).counter < e.first) → e.asTaken →
    ∃ t, exec (.go h.number) s = .next t ∧ Answered s t .ok ∧ ChangesOnly [.house h, .station i, .line] s t ∧
      t.station i = (s.station i).started ∧
      t.house h = { (s.house h).atStart with
        step := if (s.station i).motor = .atSpeed then some .leader else some .runUp
        lampWait := false, light := (s.house h).light.acted e.ms }) ∧
  ∀ (s : State) (h : HouseId) (e : Entry) (i : StationId) (interval : Nat) (q : List Entry),
    (s.house h).engine = .starting → (s.house h).queue = e :: q → e.bound = some i → OrderInv s →
    ∀ n, n = (s.station i).counter + 1 → n < e.length → e.asTaken →
    ((s.house h).step = some .runUp → (s.station i).motor = .runUp → (s.station i).intervalOpen = true →
      (s.station i).runUpCount = 11 → interval ≤ 46 → n < e.first →
      ∃ t, exec (.tachPulse i .forward interval) s = .next t ∧ ChangesOnly [.house h, .station i] s t ∧
        t.station i = { s.station i with
          counter := n, counterMode := .forward, runUpCount := 12, motor := .atSpeed, runUpTimer := false
          stallTimer := true } ∧
        t.house h = { s.house h with step := some .leader }) ∧
    ((s.house h).step = some .leader → (s.station i).motor = .atSpeed →
      ∃ t, exec (.tachPulse i .forward interval) s = .next t ∧
        (n < e.first → ChangesOnly [.station i] s t ∧
          t.station i = { s.station i with counter := n, counterMode := .forward, stallTimer := true }) ∧
        (e.first ≤ n → e.ahead (s.house h).settings.lead n → (s.station i).trip = none → s.fire.booth = none →
          ChangesOnly [.house h, .station i] s t ∧
          t.station i = { s.station i with
            counter := n, counterMode := .forward, stallTimer := true, demandOpen := true, csOpen := true
            carbon := { (s.station i).carbon with mark := .clear } } ∧
          t.house h = { s.house h with
            engine := .playing, step := none, lampWait := false
            regime := match s.mode h with
              | .changeover => some .changeover
              | .single => some .single
              | .unused => none
            queue := { e with status := .playing } :: q
            light := (s.house h).light.acted e.pi }))

/-- EN ends a running show: every station of the house has its motor stopped, its demand and shutter closed and its lamp
put out; a PLAYING entry returns to THREADED and a RUN-OUT entry leaves; the hold level is faded to; the engine takes
READY or IDLE by the head (R60, R41). It is refused ST in any other state. -/
def Obligations.EndOfShowLine : Prop :=
  ∀ (s : State) (h : HouseId), LineFree s →
    ((s.house h).engine ∈ [.starting, .playing, .preparing, .motorCued, .runDown] → OrderInv s →
      (s.house h).settings.level ≤ 1000 → (s.house h).settings.fade ≤ 60000 →
      ∃ t, exec (.en h.number) s = .next t ∧ Answered s t .ok ∧
        (∀ k, k ≠ h → t.house k = s.house k) ∧ t.clock = s.clock ∧ t.fire = s.fire ∧
        (∀ i, (s.station i).house ≠ h → t.station i = s.station i) ∧
        (∀ i, (s.station i).house = h →
          t.station i = { (s.station i).extinguished with
            motor := (s.station i).stopped.motor, runUpTimer := (s.station i).stopped.runUpTimer
            stallTimer := (s.station i).stopped.stallTimer, stopTimer := (s.station i).stopped.stopTimer
            demandOpen := false, csOpen := false, counterMode := (t.station i).counterMode }) ∧
        t.house h = { s.house h with
          engine := if (t.house h).headBound then .ready else .idle
          step := none, lampWait := false, regime := none, hold := .none
          reel := { strike := .pending, motor := .pending, change := .pending, marks := 0, missed := none }
          light := (s.house h).light.faded (s.house h).settings.level (s.house h).settings.fade
          queue := ((s.house h).queue.filter fun e => e.status ≠ .runOut).map fun e =>
            if e.status = .playing then { e with status := .threaded } else e }) ∧
    ((s.house h).engine ∈ [.idle, .ready, .interval, .hold, .fault, .suspended] →
      ∃ t, exec (.en h.number) s = .next t ∧ Answered s t (.no .st) ∧ ChangesOnly [.line] s t)

/-- CO and the changeover button in MOTOR-CUED make the change instant when the incoming reel is ready: the picture moves
from the outgoing to the incoming station in one event, the outgoing lamp is put out and its entry is RUN-OUT, the skew
is stored and a skew beyond 24 frames latches CUE SKEW (R54 to R56, R35, R44). Stated for a new reel whose cues and tail
still lie ahead. When the reel is not ready (a missed mark, the ports DOWN, the next entry unbound, the incoming lamp not in
BURN, or the incoming motor not AT-SPEED) CO is refused ST and the button does nothing; out of MOTOR-CUED CO is refused ST
(R54). -/
def Obligations.ManualChangeover : Prop :=
  ∀ (s : State) (h : HouseId), LineFree s →
    (∀ (k : Nat) (x y : Entry) (out inc : StationId), (s.house h).engine = .motorCued →
      (s.house h).regime = some .changeover → (s.house h).queue[k]? = some x → x.status = .playing →
      x.stop = false → (s.house h).queue[k + 1]? = some y → x.bound = some out → y.bound = some inc → OrderInv s →
      (s.house h).reel.missed = none → (s.station inc).lamp.state = .burn → (s.station inc).motor = .atSpeed →
      (s.house h).port = .up → (s.station inc).trip = none → s.fire.booth = none → y.asTaken →
      y.ahead (s.house h).settings.lead (s.station inc).counter →
      ∃ t u, exec (.cbClosing h) s = .next t ∧ exec (.co h.number) s = .next u ∧
        u.line = t.line.sent .ok ∧ u.stations = t.stations ∧ u.houses = t.houses ∧ u.arbiter = t.arbiter ∧
        ChangesOnly [.house h, .station out, .station inc, .arbiter, .line] s t ∧
        t.station inc = { s.station inc with
          demandOpen := true, csOpen := true, carbon := { (s.station inc).carbon with mark := .clear } } ∧
        t.station out = { (s.station out).extinguished with demandOpen := false, csOpen := false } ∧
        t.arbiter = s.arbiter.without out (s.station out).lamp.state ∧
        t.line = (if 24 < (((s.station inc).counter : Int) - y.first).natAbs then s.line.warned (.cueSkew h)
          else s.line) ∧
        t.house h = { s.house h with
          engine := .playing, skew := some (((s.station inc).counter : Int) - y.first)
          reel := { strike := .pending, motor := .pending, change := .pending, marks := 0, missed := none }
          regime := match s.mode h with
            | .changeover => some .changeover
            | .single => some .single
            | .unused => none
          queue := ((s.house h).queue.set k { x with status := .runOut }).set (k + 1) { y with status := .playing }
          light := (s.house h).light.acted y.pi }) ∧
    ((s.house h).engine ≠ .motorCued →
      ∃ t, exec (.co h.number) s = .next t ∧ Answered s t (.no .st) ∧ ChangesOnly [.line] s t) ∧
    ((s.house h).engine = .motorCued →
      ((s.house h).reel.missed.isSome = true ∨ (s.house h).port = .down ∨
        (∀ y, (s.house h).next = some y → y.bound = none) ∨
        ∃ y inc, (s.house h).next = some y ∧ y.bound = some inc ∧
          ((s.station inc).lamp.state ≠ .burn ∨ (s.station inc).motor ≠ .atSpeed)) →
      (∃ t, exec (.co h.number) s = .next t ∧ Answered s t (.no .st) ∧ ChangesOnly [.line] s t) ∧
      exec (.cbClosing h) s = .next { s with pins := s.outputs })

/-- A cue mark of the on-screen station between the window start and the length counts up to 2; a mark outside the
window, beyond the second, or of any other station changes nothing (R51). Under FOOTAGE, and where R49 permits no cue
(a stop flag, a SINGLE regime, no next entry), it does nothing else. Under SENSOR and FIRST the first counted mark is a
motor cue: in PREPARING the incoming motor starts with the next reel's MS action, a next reel that is unbound or whose
station refuses the start marks NOT-THREADED, and a station started with FB open is tripped BREAK and the house enters
FAULT; in PLAYING the strike cue, still PENDING, is taken first in the same event: it warns NOT-THREADED of an unbound next
reel and checks the carbon of a bound one, stated for a lamp that is not COLD (a strike request stands in
`FootageCuesAreTaken`); a motor cue already TAKEN is not taken again. The second is a change cue: with the incoming reel
ready it makes the change as the changeover button does. With a missed mark, the lamp not in BURN or the motor not AT-SPEED
the house enters RUN-DOWN: the incoming motor is stopped, and MISSED is latched with the missed mark, or with LAMP or SPEED;
LAMP before SPEED is the model's choice (log 26). A next reel that is unbound is missed with the missed mark, or for
NOT-THREADED where none is set, the model's reading (R49 to R54, R57; log 7). -/
def Obligations.CueMarksAreCounted : Prop :=
  ∀ (s : State) (i : StationId) (e : Entry) (h : HouseId), (s.station i).house = h → (s.house h).playing = some e →
    (((s.house h).engine ∉ [.playing, .preparing, .motorCued] ∨ e.bound ≠ some i ∨ 2 ≤ (s.house h).reel.marks ∨
        (s.station i).counter + 240 < e.motor ∨ e.length < (s.station i).counter) →
      exec (.cuClosing i) s = .next { s with pins := s.outputs }) ∧
    ((s.house h).engine ∈ [.playing, .preparing, .motorCued] → e.bound = some i → (s.house h).reel.marks < 2 →
      e.motor ≤ (s.station i).counter + 240 → (s.station i).counter ≤ e.length →
      ∀ counted : House, counted = { s.house h with
        reel := { (s.house h).reel with marks := (s.house h).reel.marks + 1 } } →
      ((e.cue = .footage ∨ e.stop = true ∨ (s.house h).regime ≠ some .changeover ∨ (s.house h).next = none ∨
          (s.house h).reel.marks = 0 ∧ (s.house h).reel.strike = .taken ∧ (s.house h).reel.motor = .taken) →
        ∃ t, exec (.cuClosing i) s = .next t ∧ ChangesOnly [.house h] s t ∧ t.house h = counted) ∧
      (∀ y, e.cue ≠ .footage → e.stop = false → (s.house h).regime = some .changeover →
        (s.house h).next = some y →
        ((s.house h).reel.marks = 0 → (s.house h).reel.motor = .pending →
          ((s.house h).engine = .preparing → (s.house h).reel.strike = .taken →
            ∃ t, exec (.cuClosing i) s = .next t ∧
              ((y.bound = none ∨ ∃ j, y.bound = some j ∧ ¬ StartAllowed s j) → ChangesOnly [.house h] s t ∧
                t.house h = { counted with
                  engine := .motorCued
                  reel := { counted.reel with motor := .taken, missed := some .notThreaded } }) ∧
              (∀ j, y.bound = some j → StartAllowed s j →
                ((s.station j).fb = .closed → y.asTaken →
                  ChangesOnly [.house h, .station j] s t ∧ t.station j = (s.station j).started ∧
                  t.house h = { counted with
                    engine := .motorCued, reel := { counted.reel with motor := .taken }
                    light := (s.house h).light.acted y.ms }) ∧
                ((s.station j).fb = .opened → (s.station j).motor.running = false → (s.station j).house = h →
                  (t.station j).trip = some .filmBreak ∧ (t.house h).engine = .fault ∧
                  ((s.house h).fault = none →
                    ∃ f, (t.house h).fault = some f ∧ f.cause = .trip ∧ f.station = some j)))) ∧
          ((s.house h).engine = .playing → (s.house h).reel.strike = .pending →
            ∃ t, exec (.cuClosing i) s = .next t ∧
              (y.bound = none → ChangesOnly [.house h, .line] s t ∧ t.line = s.line.warned (.notThreaded h) ∧
                t.house h = { counted with
                  engine := .motorCued
                  reel := { counted.reel with strike := .taken, motor := .taken, missed := some .notThreaded } }) ∧
              (∀ j, y.bound = some j → StartAllowed s j → (s.station j).fb = .closed → y.asTaken →
                (s.station j).lamp.state ≠ .cold → ∀ p, (s.station j).prediction = some p →
                ChangesOnly [.house h, .station j, .line] s t ∧ t.station j = (s.station j).started ∧
                t.line = (if p.1 < (s.house h).settings.lead + y.length / 24 + (s.house h).settings.margin then
                  s.line.warned (.lowCarbon j) else s.line) ∧
                t.house h = { counted with
                  engine := .motorCued, reel := { counted.reel with strike := .taken, motor := .taken }
                  light := (s.house h).light.acted y.ms }))) ∧
        ((s.house h).reel.marks = 1 → (s.house h).engine = .motorCued → (s.house h).reel.strike = .taken →
          (s.house h).reel.motor = .taken → (s.house h).reel.change = .pending →
          (∀ j, y.bound = some j →
            ((s.house h).reel.missed = none → (s.station j).lamp.state = .burn → (s.station j).motor = .atSpeed →
              (s.house h).port = .up →
              exec (.cuClosing i) s = exec (.cbClosing h) s) ∧
            (∀ r, ((s.house h).reel.missed = some r ∨
                (s.house h).reel.missed = none ∧ (s.station j).lamp.state ≠ .burn ∧ r = .lamp ∨
                (s.house h).reel.missed = none ∧ (s.station j).lamp.state = .burn ∧
                  (s.station j).motor ≠ .atSpeed ∧ r = .speed) →
              ∃ t, exec (.cuClosing i) s = .next t ∧ ChangesOnly [.house h, .station j, .line] s t ∧
                t.station j = (s.station j).stopped ∧ t.line = s.line.warned (.missed h r) ∧
                t.house h = { counted with
                  engine := .runDown, reel := { counted.reel with change := .taken, missed := some r } })) ∧
          (y.bound = none → ∀ r, r = (s.house h).reel.missed.getD .notThreaded →
            ∃ t, exec (.cuClosing i) s = .next t ∧ ChangesOnly [.house h, .line] s t ∧
              t.line = s.line.warned (.missed h r) ∧ t.house h = { counted with
                engine := .runDown, reel := { counted.reel with change := .taken, missed := some r } }))))

/-- The footage cues of a new reel, taken at the FORWARD pulse that reaches their frame, after the counter and the motor
(the order is the model's, log 8). The strike cue makes the house PREPARING: an unbound next reel latches NOT-THREADED; a
bound one is checked for carbon, and its lamp, when COLD, is requested to strike as LS requests it, a refused request
being dropped (R49, R50, R52, R107). The motor cue makes it MOTOR-CUED: the incoming motor starts with the next reel's MS
action; a next reel that is unbound, or whose station refuses the start, marks NOT-THREADED; a station whose FB stands open
is started and tripped BREAK in the event, and the house enters FAULT with cause TRIP (R53, R144, R153, R155). The change
cue with the reel ready makes the change as the changeover button does; otherwise the house enters RUN-DOWN: the incoming
motor is stopped, and MISSED is latched with the missed mark, or with LAMP or SPEED (R54, R57; LAMP before SPEED is the
model's choice, log 26). -/
def Obligations.FootageCuesAreTaken : Prop :=
  ∀ (s : State) (h : HouseId) (k : Nat) (x y : Entry) (i : StationId) (interval : Nat),
    (s.house h).queue[k]? = some x → (s.house h).queue[k + 1]? = some y → x.status = .playing → x.bound = some i →
    (s.house h).regime = some .changeover → x.stop = false → x.cue = .footage → (s.station i).motor = .atSpeed →
    OrderInv s →
    ∀ n, n = (s.station i).counter + 1 → n < x.length → x.length ≤ 99999 →
    ∀ o, o = { s.station i with counter := n, counterMode := .forward, stallTimer := true } →
    (x.motor ≤ n + 24 * (s.house h).settings.lead → n < x.motor → n < x.change → (s.house h).engine = .playing →
      (s.house h).reel.strike = .pending → LampInv s →
      ∃ t, exec (.tachPulse i .forward interval) s = .next t ∧ t.station i = o ∧
        t.house h = { s.house h with engine := .preparing, reel := { (s.house h).reel with strike := .taken } } ∧
        (y.bound = none → ChangesOnly [.house h, .station i, .line] s t ∧ t.line = s.line.warned (.notThreaded h)) ∧
        (∀ j, y.bound = some j → ∀ p, (s.station j).prediction = some p →
          t.line = (if p.1 < (s.house h).settings.lead + y.length / 24 + (s.house h).settings.margin then
            s.line.warned (.lowCarbon j) else s.line) ∧
          ((s.station j).lamp.state ≠ .cold ∨ (∀ t₀, ¬ StrikeAllowed s j t₀) →
            ChangesOnly [.house h, .station i, .line] s t) ∧
          (∀ t₀, (s.station j).lamp.state = .cold → StrikeAllowed s j t₀ →
            ChangesOnly [.house h, .station i, .station j, .arbiter, .line] s t ∧
              ∃ u, exec (.ls j.number) { s with line := { s.line with transmit := .idle, waiting := none } } = .next u ∧
                t.station j = u.station j ∧ t.arbiter = u.arbiter))) ∧
    (x.motor ≤ n → n < x.change → (s.house h).engine = .preparing → (s.house h).reel.strike = .taken →
      (s.house h).reel.motor = .pending →
      ∃ t, exec (.tachPulse i .forward interval) s = .next t ∧
        ((y.bound = none ∨ ∃ j, y.bound = some j ∧ ¬ StartAllowed s j) →
          ChangesOnly [.house h, .station i] s t ∧ t.station i = o ∧
          t.house h = { s.house h with
            engine := .motorCued, reel := { (s.house h).reel with motor := .taken, missed := some .notThreaded } }) ∧
        (∀ j, y.bound = some j → StartAllowed s j →
          ((s.station j).fb = .closed → y.asTaken →
            ChangesOnly [.house h, .station i, .station j] s t ∧ t.station i = o ∧
            t.station j = (s.station j).started ∧
            t.house h = { s.house h with
              engine := .motorCued, reel := { (s.house h).reel with motor := .taken }
              light := (s.house h).light.acted y.ms }) ∧
          ((s.station j).fb = .opened → (s.station j).motor.running = false →
            Faulted s t h .trip j ∧ (t.station j).trip = some .filmBreak ∧ (t.station i).motor = .stopping ∧
            (t.station i).counter = n ∧ t.fire = s.fire.afterTrip
              { cause := .filmBreak, station := some j, house := some h, time := s.clock.time
                counter := some (s.station j).counter, lamp := some (s.station j).lamp.state
                onScreen := some false }))) ∧
    (∀ j, x.change ≤ n → (s.house h).engine = .motorCued → (s.house h).reel.strike = .taken →
      (s.house h).reel.motor = .taken → (s.house h).reel.change = .pending → y.bound = some j →
      ((s.house h).reel.missed = none → (s.station j).lamp.state = .burn → (s.station j).motor = .atSpeed →
        (s.house h).port = .up →
        exec (.tachPulse i .forward interval) s = exec (.cbClosing h) (s.modStation i fun _ => o)) ∧
      (∀ r, ((s.house h).reel.missed = some r ∨
          (s.house h).reel.missed = none ∧ (s.station j).lamp.state ≠ .burn ∧ r = .lamp ∨
          (s.house h).reel.missed = none ∧ (s.station j).lamp.state = .burn ∧ (s.station j).motor ≠ .atSpeed ∧
            r = .speed) →
        ∃ t, exec (.tachPulse i .forward interval) s = .next t ∧
          ChangesOnly [.house h, .station i, .station j, .line] s t ∧ t.station i = o ∧
          t.station j = (s.station j).stopped ∧ t.line = s.line.warned (.missed h r) ∧
          t.house h = { s.house h with
            engine := .runDown, reel := { (s.house h).reel with change := .taken, missed := some r } }))

/-- The tail of a bound station, reported as its counter comes to its reel's length. A RUN-OUT station's motor is stopped
and its entry leaves (R10, R40); a HOLD or INTERVAL house it empties stays so (the model's reading, log 22). A reel on
screen for which R49 permits no cue (the last one, one with the stop flag, one under a SINGLE regime) ends: its station's
demand and shutter are closed, its motor is stopped, its lamp is put out, its entry leaves, the EN action is applied, and
the engine takes IDLE with no entry left and INTERVAL otherwise (R59). A reel that ends in RUN-DOWN ends so too, but with
the hold level in place of an absent EN action, and HOLD with the missed mark in place of INTERVAL; so does a SENSOR reel
whose tail comes in PREPARING or MOTOR-CUED with a next entry there: its changeover is missed with the missed mark, or
SENSOR, as its reason, MISSED is latched and the incoming motor is stopped (R58, R145). A tail in STARTING is taken as the
picture and then the tail in the one event; stated for a reel that no cue prepares (R48). -/
def Obligations.TailsEndReels : Prop :=
  ∀ (s : State) (h : HouseId) (k : Nat) (x : Entry) (i : StationId) (interval : Nat),
    (s.house h).queue[k]? = some x → x.bound = some i → (s.station i).motor = .atSpeed →
    (s.station i).counter + 1 = x.length → x.asTaken → OrderInv s → ∀ q, q = (s.house h).queue.eraseIdx k →
    (s.house h).settings.level ≤ 1000 → (s.house h).settings.fade ≤ 60000 →
    ∀ o, o = { (s.station i).stopped with counter := x.length, counterMode := .hold } →
    ∀ ended, ended = { o.extinguished with demandOpen := false, csOpen := false } →
    ∃ t, exec (.tachPulse i .forward interval) s = .next t ∧
    (x.status = .runOut → ChangesOnly [.house h, .station i] s t ∧ t.station i = o ∧
      t.house h = { s.house h with queue := q }) ∧
    (x.status = .playing → (s.house h).engine ∈ [.playing, .preparing, .motorCued] →
      ((s.house h).queue.length = k + 1 ∨ x.stop = true ∨ (s.house h).regime = some .single) →
      ChangesOnly [.house h, .station i, .arbiter] s t ∧ t.station i = ended ∧
      t.arbiter = s.arbiter.without i (s.station i).lamp.state ∧
      t.house h = { s.house h with
        queue := q, regime := none
        engine := if q = [] then .idle else .interval
        hold := if q = [] then .none else (s.house h).hold
        reel := { strike := .pending, motor := .pending, change := .pending, marks := 0, missed := none }
        light := (s.house h).light.acted x.en }) ∧
    (∀ held : Light, held = (match x.en with
        | none => (s.house h).light.faded (s.house h).settings.level (s.house h).settings.fade
        | some a => (s.house h).light.faded a.level a.time) →
      (x.status = .playing → (s.house h).engine = .runDown →
        ChangesOnly [.house h, .station i, .arbiter] s t ∧ t.station i = ended ∧
        t.arbiter = s.arbiter.without i (s.station i).lamp.state ∧
        t.house h = { s.house h with
          queue := q, regime := none
          engine := if q = [] then .idle else .hold
          hold := if q = [] then .none else .missed (s.house h).reel.missed
          light := held }) ∧
      (∀ y r, x.status = .playing → (s.house h).engine ∈ [.preparing, .motorCued] →
        (s.house h).queue[k + 1]? = some y → x.stop = false → (s.house h).regime = some .changeover →
        x.cue = .sensor → (s.house h).reel.strike = .taken → r = (s.house h).reel.missed.getD .sensor →
        (∀ j, j ≠ i → t.station j = if y.bound = some j then (s.station j).stopped else s.station j) ∧
        (∀ j, j ≠ h → t.house j = s.house j) ∧ t.clock = s.clock ∧ t.fire = s.fire ∧ t.draws = s.draws ∧
        t.station i = ended ∧ t.line = s.line.warned (.missed h r) ∧
        t.arbiter = s.arbiter.without i (s.station i).lamp.state ∧
        t.house h = { s.house h with
          queue := q, regime := none, engine := .hold, hold := .missed (some r)
          reel := { (s.house h).reel with missed := some r }, light := held })) ∧
    ((s.house h).engine = .starting → k = 0 → (q = [] ∨ x.stop = true ∨ s.mode h = .single) →
      ChangesOnly [.house h, .station i, .arbiter] s t ∧
      t.station i = { ended with carbon := { ended.carbon with mark := .clear } } ∧
      t.arbiter = s.arbiter.without i (s.station i).lamp.state ∧
      t.house h = { s.house h with
        queue := q, regime := none, step := none, lampWait := false
        engine := if q = [] then .idle else .interval
        hold := if q = [] then .none else (s.house h).hold
        reel := { strike := .pending, motor := .pending, change := .pending, marks := 0, missed := none }
        light := ((s.house h).light.acted x.pi).acted x.en })

/-- HF gives the record's words and sets its read flag, or answers OK NONE. HA clears a read record and moves the house
from FAULT to HOLD, or to IDLE when its running order is empty; it is refused ST out of FAULT, and LK while the record is
unread (R64). -/
def Obligations.FaultRecordLines : Prop :=
  ∀ (s : State) (h : HouseId), LineFree s →
    ((s.house h).fault = none →
      ∃ t, exec (.hf h.number) s = .next t ∧ Answered s t .okNone ∧ ChangesOnly [.line] s t) ∧
    (∀ r, (s.house h).fault = some r →
      ∃ t, exec (.hf h.number) s = .next t ∧ ChangesOnly [.house h, .line] s t ∧
        Answered s t (.record [r.cause.text, orNone stationText r.station, orNone id r.label, timeText r.time,
          orNone decimal r.counter]) ∧
        t.house h = { s.house h with fault := some { r with read := true } }) ∧
    ((s.house h).engine = .fault → (∀ r, (s.house h).fault = some r → r.read = true) →
      ∃ t, exec (.ha h.number) s = .next t ∧ Answered s t .ok ∧ ChangesOnly [.house h, .line] s t ∧
        ((s.house h).queue ≠ [] →
          t.house h = { s.house h with fault := none, engine := .hold, hold := .fault }) ∧
        ((s.house h).queue = [] →
          t.house h = { s.house h with fault := none, engine := .idle, hold := .none })) ∧
    ((s.house h).engine ≠ .fault →
      ∃ t, exec (.ha h.number) s = .next t ∧ Answered s t (.no .st) ∧ ChangesOnly [.line] s t) ∧
    (∀ r, (s.house h).engine = .fault → (s.house h).fault = some r → r.read = false →
      ∃ t, exec (.ha h.number) s = .next t ∧ Answered s t (.no .lk) ∧ ChangesOnly [.line] s t)

/-- HS sets one setting, clamped to its range and answered OK C when it was moved; the other settings stand (R68). A
change of LEAD works an armed alarm's pre-strike time out afresh; one already DONE stays DONE (R78). -/
def Obligations.HouseSettingsLine : Prop :=
  ∀ (s : State) (h : HouseId) (n : Int) (b : Bool), LineFree s →
    (∀ v, v = clampInt 10 300 n → ∃ t, exec (.hs h.number (some (.lead n))) s = .next t ∧
      Answered s t (if v = n then .ok else .clamped ["LEAD".toList, decimalInt v]) ∧
      ChangesOnly [.house h, .line] s t ∧
      t.house h = { s.house h with
        settings := { (s.house h).settings with lead := v.toNat }, alarm := (t.house h).alarm } ∧
      ((s.house h).alarm = none → (t.house h).alarm = none) ∧
      ∀ a, (s.house h).alarm = some a → ∃ x, (t.house h).alarm = some x ∧ x.start = a.start ∧
        (a.start < 86400 → s.clock.time < 86400 → x.pre < 86400 ∧ (x.pre + v.toNat) % 86400 = a.start ∧
          (a.state = .done → x.state = .done) ∧
          (a.state ≠ .done → x.state =
            if (s.clock.time + 86400 - x.pre) % 86400 < (a.start + 86400 - x.pre) % 86400 then .passed
            else .armed))) ∧
    (∀ v, v = clampInt 0 600 n → ∃ t, exec (.hs h.number (some (.margin n))) s = .next t ∧
      Answered s t (if v = n then .ok else .clamped ["MARGIN".toList, decimalInt v]) ∧
      ChangesOnly [.house h, .line] s t ∧
      t.house h = { s.house h with settings := { (s.house h).settings with margin := v.toNat } }) ∧
    (∀ v, v = clampInt 0 1000 n → ∃ t, exec (.hs h.number (some (.level n))) s = .next t ∧
      Answered s t (if v = n then .ok else .clamped ["LEVEL".toList, decimalInt v]) ∧
      ChangesOnly [.house h, .line] s t ∧
      t.house h = { s.house h with settings := { (s.house h).settings with level := v.toNat } }) ∧
    (∀ v, v = clampInt 0 60000 n → ∃ t, exec (.hs h.number (some (.fade n))) s = .next t ∧
      Answered s t (if v = n then .ok else .clamped ["FADE".toList, decimalInt v]) ∧
      ChangesOnly [.house h, .line] s t ∧
      t.house h = { s.house h with settings := { (s.house h).settings with fade := v.toNat } }) ∧
    (∃ t, exec (.hs h.number (some (.restrike b))) s = .next t ∧ Answered s t .ok ∧
      ChangesOnly [.house h, .line] s t ∧
      t.house h = { s.house h with settings := { (s.house h).settings with restrike := b } })

/-- The lamp-wait timer running out in STARTING puts the head lamp out and brings FAULT with cause LAMP (R46, R61, R63).
The port state follows PD; becoming DOWN in a running show it brings FAULT with cause PORT, and in any other state
nothing more (R160, R62). -/
def Obligations.LampWaitAndPortFaults : Prop :=
  ∀ (s : State) (h : HouseId),
    (∀ i, (s.house h).engine = .starting → (s.house h).lampWait = true → (s.house h).startStation = some i →
      (s.station i).house = h →
      ∃ t, exec (.lampWaitTimeout h) s = .next t ∧ (t.house h).engine = .fault ∧
        (t.house h).lampWait = false ∧ (t.station i).lamp = (s.station i).extinguished.lamp ∧
        t.arbiter = s.arbiter.without i (s.station i).lamp.state ∧
        t.line.attention = ((s.house h).fault.isNone || s.line.attention) ∧
        (∀ k, k ≠ h → t.house k = s.house k) ∧
        ((s.house h).fault = none → ∃ r, (t.house h).fault = some r ∧ r.cause = .lamp ∧ r.station = some i ∧
          r.counter = some (s.station i).counter ∧ r.time = s.clock.time ∧ r.read = false)) ∧
    (∃ t, exec (.pdChange h .opened) s = .next t ∧ ChangesOnly [.house h] s t ∧
      t.house h = { s.house h with port := .up }) ∧
    ((s.house h).engine ∉ [.starting, .playing, .preparing, .motorCued, .runDown] →
      ∃ t, exec (.pdChange h .closed) s = .next t ∧ ChangesOnly [.house h] s t ∧
        t.house h = { s.house h with port := .down }) ∧
    ((s.house h).engine ∈ [.starting, .playing, .preparing, .motorCued, .runDown] → (s.house h).port = .up →
      ∃ t, exec (.pdChange h .closed) s = .next t ∧ (t.house h).port = .down ∧ (t.house h).engine = .fault ∧
        (∀ k, k ≠ h → t.house k = s.house k) ∧
        (∀ i, (t.station i).lamp = (s.station i).lamp ∧ ((s.station i).house ≠ h → t.station i = s.station i)) ∧
        ((s.house h).fault = none → ∃ r, (t.house h).fault = some r ∧ r.cause = .port ∧ r.read = false ∧
          t.line = { s.line with attention := true, sinceReset := true }))

/-! ### The show clock -/

/-- A mains cycle is counted; the cycle that reaches the mains frequency sets the count to 0 and advances the time of day
by one second round the 24-hour clock, as CLOCK_SECOND does. With no alarm time reached nothing else changes (R71).
That the two rows divide the counting so is the model's reading (log 6). -/
def Obligations.ClockCountsTheMains : Prop :=
  ∀ (s : State) (hz : Nat), hz = (if s.clock.mains = .hz50 then 50 else 60) →
    (s.clock.cycles + 1 < hz → ∃ t, exec .mainsCycle s = .next t ∧ ChangesOnly [.clock] s t ∧
      t.clock = { s.clock with cycles := s.clock.cycles + 1 }) ∧
    (hz ≤ s.clock.cycles + 1 → exec .mainsCycle s = exec .clockSecond s) ∧
    ((∀ h a, (s.house h).alarm = some a → a.start ≠ (s.clock.time + 1) % 86400 ∧
        (a.state = .armed → a.pre ≠ (s.clock.time + 1) % 86400)) →
      ∃ t, exec .clockSecond s = .next t ∧ ChangesOnly [.clock] s t ∧
        t.clock = { s.clock with cycles := 0, time := (s.clock.time + 1) % 86400 })

/-- When the time reached by counting is the start time of one house's alarm and of no other, the alarm becomes OFF; a
house that is not READY latches MISSED START; a READY house is started by the checks of GO, as its changeover button
would start it, whatever the head lamp's state (R76, R45, R46); so with its head THREADED and untripped, its ports UP and
its head lamp on its way it enters STARTING. When it is an ARMED pre-strike time, the pre-strike is DONE; a READY house's
head lamp, when COLD, is requested to strike as LS requests it, and where it is not COLD, the request is refused or the
house is not READY nothing else happens (R75). -/
def Obligations.AlarmTimesFire : Prop :=
  ∀ (s : State) (h : HouseId) (a : Alarm) (now : Nat), now = (s.clock.time + 1) % 86400 →
    (s.house h).alarm = some a → (∀ k, k ≠ h → (s.house k).alarm = none) →
    (a.start = now → (a.state = .armed → a.pre ≠ now) → (s.house h).engine ≠ .ready →
      ∃ t, exec .clockSecond s = .next t ∧ ChangesOnly [.clock, .house h, .line] s t ∧
        t.house h = { s.house h with alarm := none } ∧ t.line = s.line.warned (.missedStart h)) ∧
    (∀ (e : Entry) (i : StationId), a.start = now → (a.state = .armed → a.pre ≠ now) →
      (s.house h).engine = .ready → (s.house h).queue.head? = some e → e.status = .threaded → e.bound = some i →
      (s.house h).port = .up → (s.station i).trip = none → s.fire.booth = none →
      (s.station i).lamp.state ∈ [.queued, .striking, .establish] →
      ∃ t, exec .clockSecond s = .next t ∧ ChangesOnly [.clock, .house h] s t ∧
        t.house h = { s.house h with
          alarm := none, engine := .starting, step := some .lampWait, lampWait := true, hold := .none
          reel := { strike := .pending, motor := .pending, change := .pending, marks := 0, missed := none } }) ∧
    (a.start = now → (a.state = .armed → a.pre ≠ now) → (s.house h).engine = .ready →
      ∀ u, u = s.modHouse h (fun hs => { hs with alarm := none }) →
      exec .clockSecond s = exec (.cbClosing h) { u with clock := { s.clock with cycles := 0, time := now } }) ∧
    (a.state = .armed → a.pre = now → a.start ≠ now →
      ∃ t, exec .clockSecond s = .next t ∧ t.house h = { s.house h with alarm := some { a with state := .done } } ∧
        ((s.house h).engine ≠ .ready → ChangesOnly [.clock, .house h] s t) ∧
        ∀ i, (s.house h).engine = .ready → ((s.house h).queue.head?.bind fun e => e.bound) = some i →
          ((s.station i).lamp.state ≠ .cold ∨ (∀ t₀, ¬ StrikeAllowed s i t₀) →
            ChangesOnly [.clock, .house h] s t) ∧
          (∀ t₀, (s.station i).lamp.state = .cold → StrikeAllowed s i t₀ → StruckAs s t i ∧
            (∀ k, k ≠ h → t.house k = s.house k) ∧ t.fire = s.fire ∧ t.line = s.line ∧ t.draws = s.draws))

/-- CK sets the time of day, the cycle count 0 and the flag SET, and touches no alarm; a field out of its range is
refused RG (R72, R77). AT arms a house's alarm for hh:mm:00 with its pre-strike a lead earlier round the clock, PASSED
from the pre-strike time up to the start time and ARMED otherwise; while NOT-SET it is refused ST; AT OFF disarms (R74). -/
def Obligations.ClockAndAlarmLines : Prop :=
  ∀ (s : State) (h : HouseId) (hh mm : Int) (sec : Option Int), LineFree s →
    (0 ≤ hh → hh ≤ 23 → 0 ≤ mm → mm ≤ 59 → (0 ≤ sec.getD 0 ∧ sec.getD 0 ≤ 59) →
      ∃ t, exec (.ck hh mm sec) s = .next t ∧ Answered s t .ok ∧ ChangesOnly [.clock, .line] s t ∧
        t.clock = { s.clock with
          time := hh.toNat * 3600 + mm.toNat * 60 + (sec.getD 0).toNat, cycles := 0, isSet := true }) ∧
    ((hh < 0 ∨ 23 < hh ∨ mm < 0 ∨ 59 < mm ∨ sec.getD 0 < 0 ∨ 59 < sec.getD 0) →
      ∃ t, exec (.ck hh mm sec) s = .next t ∧ Answered s t (.no .rg) ∧ ChangesOnly [.line] s t) ∧
    (0 ≤ hh → hh ≤ 23 → 0 ≤ mm → mm ≤ 59 → s.clock.isSet = true → s.clock.time < 86400 →
      ∃ t a, exec (.atAlarm h.number (.arm hh mm)) s = .next t ∧ Answered s t .ok ∧
        ChangesOnly [.house h, .line] s t ∧ t.house h = { s.house h with alarm := some a } ∧
        a.start = hh.toNat * 3600 + mm.toNat * 60 ∧ a.pre < 86400 ∧
        (a.pre + (s.house h).settings.lead) % 86400 = a.start ∧
        a.state = if (s.clock.time + 86400 - a.pre) % 86400 < (a.start + 86400 - a.pre) % 86400 then .passed
          else .armed) ∧
    (0 ≤ hh → hh ≤ 23 → 0 ≤ mm → mm ≤ 59 → s.clock.isSet = false →
      ∃ t, exec (.atAlarm h.number (.arm hh mm)) s = .next t ∧ Answered s t (.no .st) ∧
        ChangesOnly [.line] s t) ∧
    ((hh < 0 ∨ 23 < hh ∨ mm < 0 ∨ 59 < mm) →
      ∃ t, exec (.atAlarm h.number (.arm hh mm)) s = .next t ∧ Answered s t (.no .rg) ∧
        ChangesOnly [.line] s t) ∧
    (∃ t, exec (.atAlarm h.number .off) s = .next t ∧ Answered s t .ok ∧ ChangesOnly [.house h, .line] s t ∧
      t.house h = { s.house h with alarm := none })

/-! ### Lamps and the strike supply -/

/-- LS of a COLD lamp that meets R106 puts it in the strike queue, NORMAL, with its counts 0 and a jog ended; with the
supply FREE and the queue empty it is granted in the same event and enters STRIKING, SK and SB energized (R106, R108,
R109, R110, R112). LS of a lamp that is not COLD is refused ST, of a tripped station FI, of a RESETTING one BY. -/
def Obligations.StrikeLine : Prop :=
  ∀ (s : State) (i : StationId), LineFree s →
    (∀ t₀, StrikeAllowed s i t₀ → (s.station i).lamp.state = .cold →
      (s.arbiter.supply ≠ .free ∨ s.arbiter.recharge = true →
        ∃ t, exec (.ls i.number) s = .next t ∧ Answered s t .ok ∧ ChangesOnly [.station i, .arbiter, .line] s t ∧
          t.arbiter = { s.arbiter with queue := s.arbiter.queue ++ [i] } ∧
          t.station i = { s.station i with
            lamp := { (s.station i).lamp with
              state := .queued, cls := some .normal, granted := none, retry := 0, restrike := 0, establish := 0
              pulseTimer := false }
            channel := { (s.station i).channel with sampleTimer := false, status := .held, jog := none } }) ∧
      (s.arbiter.supply = .free → s.arbiter.recharge = false → s.arbiter.queue = [] → i ∈ s.arbiter.order →
        ∃ t, exec (.ls i.number) s = .next t ∧ Answered s t .ok ∧ ChangesOnly [.station i, .arbiter, .line] s t ∧
          t.arbiter = { s.arbiter with
            grant := some i, supply := .granted
            order := match s.arbiter.mode with
              | .fixed => s.arbiter.order
              | .rotate => (StationId.all.rotateLeft i.number) } ∧
          (t.station i).lamp =
            { (s.station i).lamp with
              state := .striking, cls := none, granted := some .normal, retry := 0, restrike := 0, establish := 0
              pulseTimer := true } ∧
          (t.pins.stations.get i).sk = true ∧ t.pins.sb = true)) ∧
    ((s.station i).condition = .resetting →
      ∃ t, exec (.ls i.number) s = .next t ∧ Answered s t (.no .by_) ∧ ChangesOnly [.line] s t) ∧
    ((s.station i).condition = .normal → ((s.station i).trip.isSome = true ∨ s.fire.booth.isSome = true) →
      ∃ t, exec (.ls i.number) s = .next t ∧ Answered s t (.no .fi) ∧ ChangesOnly [.line] s t) ∧
    ((s.station i).condition = .normal → (s.station i).trip = none → s.fire.booth = none →
      ((s.station i).present = false ∨ (s.station i).lamp.state ≠ .cold ∨
        (s.station i).ld = { contact := .opened, mode := .enforce } ∨
        (∃ t₀, (s.station i).trim = some t₀ ∧ (s.station i).carbon.rp < t₀.stub + 20 * t₀.sp)) →
      ∃ t, exec (.ls i.number) s = .next t ∧ Answered s t (.no .st) ∧ ChangesOnly [.line] s t)

/-- LX of a station that is not engaged puts a queued or lit lamp out, takes a LOCKOUT lamp to COLD with its counts kept,
leaves COLD and STUB, and ends a jog (R119, R118, R102). LC records the length, clamped to 0 to 5000, in a lamp that is
out: the lamp enters STUB at or below the stub and COLD above it, its counts 0 and a jog ended; of a lamp that is not
out it is refused ST (R121). -/
def Obligations.ExtinguishAndCarbonLines : Prop :=
  ∀ (s : State) (i : StationId) (n : Int), LineFree s → (s.station i).condition = .normal →
    (s.engaged i = false → (s.station i).lamp.state ≠ .lockout →
      ∃ t, exec (.lx i.number) s = .next t ∧ Answered s t .ok ∧ ChangesOnly [.station i, .arbiter, .line] s t ∧
        t.arbiter = s.arbiter.without i (s.station i).lamp.state ∧
        t.station i = { (s.station i).extinguished with
          channel := { (s.station i).extinguished.channel with jog := none } }) ∧
    ((s.station i).lamp.state = .lockout →
      ∃ t, exec (.lx i.number) s = .next t ∧ Answered s t .ok ∧ ChangesOnly [.station i, .line] s t ∧
        (t.station i).lamp =
          { (s.station i).lamp with
            state := .cold, cls := none, granted := none, establish := 0, pulseTimer := false } ∧
        (t.station i).channel.jog = none ∧ (t.station i).carbon = (s.station i).carbon ∧
        (t.station i).motor = (s.station i).motor) ∧
    (∀ t₀, (s.station i).trim = some t₀ → (s.station i).lamp.state.out = true → ∀ v, v = clampInt 0 5000 n →
      ∃ t, exec (.lc i.number n) s = .next t ∧ ChangesOnly [.station i, .line] s t ∧
        Answered s t (if v = n then .ok else .clamped ["LENGTH".toList, decimalInt v]) ∧
        (t.station i).carbon = { (s.station i).carbon with rp := v.toNat } ∧
        (t.station i).lamp =
          { state := if v.toNat ≤ t₀.stub then .stub else .cold, cls := none, granted := none, retry := 0
            restrike := 0, establish := 0, pulseTimer := false } ∧
        (t.station i).channel.jog = none ∧
        t.station i = { s.station i with
          lamp := (t.station i).lamp, carbon := (t.station i).carbon, channel := (t.station i).channel }) ∧
    ((s.station i).lamp.state.out = false →
      ∃ t, exec (.lc i.number n) s = .next t ∧ Answered s t (.no .st) ∧ ChangesOnly [.line] s t)

/-- The end of the strike pulse takes a lamp from STRIKING to ESTABLISH with the sample timer started; SK is released and
the grant stands (R112, R82). The end of the recharge frees the supply; with the queue empty nothing else changes; else
one lamp is granted, URGENT before NORMAL, the lowest number in FIXED and the first of the rotation order in ROTATE
(R109, R110, R114). -/
def Obligations.StrikePulseAndRechargeEnd : Prop :=
  ∀ (s : State) (i : StationId),
    ((s.station i).lamp.state = .striking → (s.station i).lamp.pulseTimer = true →
      ∃ t, exec (.strikePulseEnd i) s = .next t ∧ ChangesOnly [.station i] s t ∧
        t.station i = { s.station i with
          lamp := { (s.station i).lamp with state := .establish, cls := none, establish := 0, pulseTimer := false }
          channel := { (s.station i).channel with sampleTimer := true, status := .live } } ∧
        (t.pins.stations.get i).sk = false) ∧
    (s.arbiter.recharge = true → s.arbiter.queue = [] →
      ∃ t, exec .rechargeEnd s = .next t ∧ ChangesOnly [.arbiter] s t ∧
        t.arbiter = { s.arbiter with supply := .free, recharge := false }) ∧
    (s.arbiter.recharge = true → LampInv s → s.arbiter.queue ≠ [] →
      ∃ t k, exec .rechargeEnd s = .next t ∧ k ∈ s.arbiter.queue ∧ ChangesOnly [.station k, .arbiter] s t ∧
        t.arbiter.grant = some k ∧ t.arbiter.supply = .granted ∧ t.arbiter.recharge = false ∧
        t.arbiter.queue = s.arbiter.queue.erase k ∧ (t.station k).lamp.state = .striking ∧
        (t.pins.stations.get k).sk = true ∧ t.pins.sb = true ∧
        (∀ j ∈ s.arbiter.queue, (s.station j).lamp.cls = some .urgent → (s.station k).lamp.cls = some .urgent) ∧
        (∀ j ∈ s.arbiter.queue, (s.station j).lamp.cls = (s.station k).lamp.cls →
          (s.arbiter.mode = .fixed → k.number ≤ j.number) ∧
          (s.arbiter.mode = .rotate → s.arbiter.order.idxOf k ≤ s.arbiter.order.idxOf j)) ∧
        t.arbiter.order = (match s.arbiter.mode with
          | .fixed => s.arbiter.order
          | .rotate => StationId.all.rotateLeft k.number))

/-- A regulation sample taken in ESTABLISH (R82, R113 to R115): in band it counts, and the fifteenth brings the lamp to
BURN with the grant ended, the recharge started and a fresh window; BURN of the head lamp ends LAMP-WAIT: the engine goes
on to RUNUP, the head station's motor starts and the MS action is applied (R46, R47; a motor already AT-SPEED or a film
break found at the start apart). Out of band the sample ends the
attempt, and the third failure brings LOCKOUT with its warning; LOCKOUT of the start-sequence or the on-screen lamp brings
the house to FAULT with cause LAMP (R46, R61). -/
def Obligations.EstablishSamples : Prop :=
  ∀ (s : State) (i : StationId) (volts amps : Conversions) (t₀ : Trim) (p : Params) (hs : House),
    (s.station i).trim = some t₀ → (s.station i).channel.params = some p → hs = s.house (s.station i).house →
    (s.station i).lamp.state = .establish → (s.station i).channel.sampleTimer = true →
    ∀ v a, v = (min volts.c1 255 + min volts.c2 255 + min volts.c3 255 + min volts.c4 255) / 4 →
    a = (min amps.c1 255 + min amps.c2 255 + min amps.c3 255 + min amps.c4 255) / 4 →
    ∃ t, exec (.regulationSample i volts amps) s = .next t ∧
      (t.station i).channel.vc = some v ∧ (t.station i).channel.ic = some a ∧
      (t.station i).carbon.rp = (s.station i).carbon.rp ∧
      ((t₀.imin ≤ a ∧ 40 ≤ v ∧ v < 180) →
        ((s.station i).lamp.establish < 14 → ChangesOnly [.station i] s t ∧
          (t.station i).motor = (s.station i).motor ∧
          (t.station i).lamp = { (s.station i).lamp with establish := (s.station i).lamp.establish + 1 }) ∧
        (14 ≤ (s.station i).lamp.establish →
          (hs.startStation ≠ some i ∨ hs.step ≠ some .lampWait ∨
            (s.station i).fb = .closed ∧ (s.station i).motor ≠ .atSpeed) →
          (t.station i).lamp = { (s.station i).lamp with
            state := .burn, cls := none, granted := none, retry := 0, establish := 0, pulseTimer := false } ∧
          t.arbiter = { s.arbiter with grant := none, supply := .recharge, recharge := true } ∧
          (t.station i).channel.credit = 0 ∧ (t.station i).channel.loss = 0 ∧ (t.station i).channel.short = 0 ∧
          (t.station i).channel.sampleTimer = true ∧
          (t.station i).carbon = { (s.station i).carbon with
            window := [], openBucket := some 0, bucketTimer := true } ∧
          ((hs.startStation ≠ some i ∨ hs.step ≠ some .lampWait) → ChangesOnly [.station i, .arbiter] s t ∧
            (t.station i).motor = (s.station i).motor) ∧
          (∀ e, hs.engine = .starting → hs.step = some .lampWait → hs.queue.head? = some e → e.bound = some i →
            StartAllowed s i → e.asTaken →
            ChangesOnly [.house (s.station i).house, .station i, .arbiter] s t ∧
            (t.station i).motor = .runUp ∧ (t.station i).runUpTimer = (s.station i).started.runUpTimer ∧
            t.house (s.station i).house = { hs with
              step := some .runUp, lampWait := false, light := hs.light.acted e.ms }))) ∧
      ((a < t₀.imin ∨ v < 40 ∨ 180 ≤ v) →
        ((s.station i).lamp.retry < 2 → ChangesOnly [.station i, .arbiter] s t ∧
          (t.station i).motor = (s.station i).motor ∧
          (t.station i).lamp = { (s.station i).lamp with
            state := .queued, cls := (s.station i).lamp.granted, granted := none
            retry := (s.station i).lamp.retry + 1, establish := 0, pulseTimer := false } ∧
          t.arbiter = { s.arbiter with
            grant := none, supply := .recharge, recharge := true, queue := s.arbiter.queue ++ [i] }) ∧
        (2 ≤ (s.station i).lamp.retry →
          (t.station i).lamp = { (s.station i).lamp with
            state := .lockout, cls := none, granted := none
            retry := (s.station i).lamp.retry + 1, establish := 0, pulseTimer := false } ∧
          t.arbiter = { s.arbiter with grant := none, supply := .recharge, recharge := true } ∧
          t.line = s.line.warned (.lockout i) ∧
          (hs.startStation ≠ some i → hs.onScreen ≠ some i → ChangesOnly [.station i, .arbiter, .line] s t ∧
            (t.station i).motor = (s.station i).motor) ∧
          (hs.startStation = some i ∨ hs.onScreen = some i → Faulted s t (s.station i).house .lamp i)))

/-- R88 to R91: a feed sample's effective error is 0 within the deadband and else the error less the deadband; the credit
gains it times the gain, not below 0; in STEP mode a credit of T or more pays one step, in BURST mode as many as T goes
into it up to 4. With the carbon for every step above the stub, each step takes Sp from Rp, counts in the open bucket up
to 255 and is one pulse; what remains is clamped to T − 1 (R92, R126, R128). Nothing else changes.
A step that would leave less than the stub is withheld: the k steps before it stand, each with its Sp and its pulse, the
lamp enters STUB in the same event, and its credit, counts and window are gone; the house of the start-sequence or the
on-screen lamp then enters FAULT with cause LAMP, and any other station changes nothing else (R91, R93, R120, R126, R61).
The pulses are held as a count of what was ordered, the model's reading (log 12). -/
def Obligations.FeedSampleFeedsTheArc : Prop :=
  ∀ (s : State) (i : StationId) (volts amps : Conversions) (t₀ : Trim) (p : Params),
    (s.station i).trim = some t₀ → (s.station i).channel.params = some p →
    (s.station i).lamp.state = .burn → (s.station i).channel.sampleTimer = true →
    ∀ v a : Nat, v = (min volts.c1 255 + min volts.c2 255 + min volts.c3 255 + min volts.c4 255) / 4 →
    a = (min amps.c1 255 + min amps.c2 255 + min amps.c3 255 + min amps.c4 255) / 4 →
    t₀.imin ≤ a → 40 ≤ v → v < 180 →
    ∀ e : Int, e = (v : Int) - p.vset →
    ∀ eff : Int, eff = (if e.natAbs ≤ p.dead then 0 else if (p.dead : Int) < e then e - p.dead else e + p.dead) →
    ∀ c : Nat, c = (if ((s.station i).channel.credit : Int) + eff * p.gain < 0 then 0
      else ((s.station i).channel.credit : Int) + eff * p.gain).toNat →
    1 ≤ p.thr →
    ∀ n : Nat, n = (match p.mode with
      | .step => if p.thr ≤ c then 1 else 0
      | .burst => if 4 < c / p.thr then 4 else c / p.thr) →
    ∃ t, exec (.regulationSample i volts amps) s = .next t ∧
      (t₀.stub + n * t₀.sp ≤ (s.station i).carbon.rp ∨ n = 0 → ChangesOnly [.station i] s t ∧
        t.station i = { s.station i with
          channel := { (s.station i).channel with
            vc := some v, ic := some a, status := .live, loss := 0, short := 0, steps := n, fsPulses := n
            credit := if p.thr - 1 < c - n * p.thr then p.thr - 1 else c - n * p.thr }
          carbon := { (s.station i).carbon with
            rp := (s.station i).carbon.rp - n * t₀.sp
            openBucket := (s.station i).carbon.openBucket.map fun b => if b + n ≤ 255 then b + n else 255 } }) ∧
      ∀ k : Nat, k < n → (k = 0 ∨ t₀.stub + k * t₀.sp ≤ (s.station i).carbon.rp) →
        (s.station i).carbon.rp < t₀.stub + (k + 1) * t₀.sp → ∀ hs : House, hs = s.house (s.station i).house →
        (t.station i).lamp = { (s.station i).lamp with
          state := .stub, cls := none, granted := none, establish := 0, pulseTimer := false } ∧
        (t.station i).carbon = { (s.station i).carbon with
          rp := (s.station i).carbon.rp - k * t₀.sp, window := [], openBucket := none, bucketTimer := false } ∧
        (t.station i).channel = { (s.station i).channel with
          sampleTimer := false, vc := some v, ic := some a, status := .held, loss := 0, short := 0, credit := 0
          steps := k, fsPulses := k } ∧
        (hs.startStation ≠ some i → hs.onScreen ≠ some i → ChangesOnly [.station i] s t ∧
          (t.station i).motor = (s.station i).motor ∧ (t.station i).demandOpen = (s.station i).demandOpen) ∧
        (hs.startStation = some i ∨ hs.onScreen = some i → Faulted s t (s.station i).house .lamp i)

/-- A loss sample and a short sample count and feed nothing; a second loss in a row restrikes the lamp, with class URGENT
for the on-screen station and NORMAL for any other, or locks it out where the restrike is OFF, used up or lacks the
reserve; a third short locks it out, before any loss (R84 to R86, R116, R117). LOCKOUT of the start-sequence or the
on-screen lamp brings the house to FAULT with cause LAMP (R47, R61). Stated for a restrike that waits for the supply. That
such a sample is reported with 0 steps is the model's reading (log 20). -/
def Obligations.LossAndShortSamples : Prop :=
  ∀ (s : State) (i : StationId) (v a : Nat) (t₀ : Trim) (p : Params) (hs : House),
    (s.station i).trim = some t₀ → (s.station i).channel.params = some p → hs = s.house (s.station i).house →
    (s.station i).lamp.state = .burn → (s.station i).channel.sampleTimer = true →
    v ≤ 255 → a ≤ 255 → (a < t₀.imin ∨ 180 ≤ v ∨ v < 40) →
    ∀ l k : Nat, l = (if a < t₀.imin ∨ 180 ≤ v then (s.station i).channel.loss + 1 else 0) →
    k = (if v < 40 then (s.station i).channel.short + 1 else 0) →
    (s.arbiter.supply ≠ .free ∨ s.arbiter.recharge = true) →
    ∃ t, exec (.regulationSample i ⟨v, v, v, v⟩ ⟨a, a, a, a⟩) s = .next t ∧
      (t.station i).carbon.rp = (s.station i).carbon.rp ∧ (t.station i).channel.steps = 0 ∧
      (l < 2 → k < 3 → ChangesOnly [.station i] s t ∧
        t.station i = { s.station i with
          channel := { (s.station i).channel with
            vc := some v, ic := some a, status := .live, loss := l, short := k, steps := 0, fsPulses := 0 } }) ∧
      (k < 3 → 2 ≤ l → hs.settings.restrike = true →
        (s.station i).lamp.restrike < 2 → t₀.stub + 20 * t₀.sp ≤ (s.station i).carbon.rp →
        ChangesOnly [.station i, .arbiter] s t ∧ (t.station i).motor = (s.station i).motor ∧
          (t.station i).lamp = { (s.station i).lamp with
            state := .queued, granted := none, establish := 0, pulseTimer := false
            cls := some (if hs.onScreen = some i then .urgent else .normal)
            restrike := (s.station i).lamp.restrike + 1 } ∧
          t.arbiter = { s.arbiter with queue := s.arbiter.queue ++ [i] } ∧
          (t.station i).channel.credit = 0 ∧ (t.station i).channel.loss = 0 ∧
          (t.station i).carbon.openBucket = none) ∧
      ((3 ≤ k ∨ k < 3 ∧ 2 ≤ l ∧ (hs.settings.restrike = false ∨
          2 ≤ (s.station i).lamp.restrike ∨ (s.station i).carbon.rp < t₀.stub + 20 * t₀.sp)) →
        (t.station i).lamp = { (s.station i).lamp with
          state := .lockout, cls := none, granted := none, establish := 0, pulseTimer := false } ∧
        t.line = s.line.warned (.lockout i) ∧ t.arbiter = s.arbiter ∧
        (hs.startStation ≠ some i → hs.onScreen ≠ some i → ChangesOnly [.station i, .line] s t ∧
          (t.station i).motor = (s.station i).motor) ∧
        (hs.startStation = some i ∨ hs.onScreen = some i → Faulted s t (s.station i).house .lamp i))

/-- LF starts a jog of n steps, n taken from 1 to 200, at a COLD lamp of a present untripped station with none running
(R100). Each jog step with the carbon above the stub takes Sp from Rp, gives one pulse and leaves one less to give, and
the last ends the jog; a step that would leave less than the stub is withheld: it takes no carbon and gives no pulse, ends
the jog and takes the lamp to STUB (R101, R126). -/
def Obligations.JogLineAndSteps : Prop :=
  ∀ (s : State) (i : StationId) (n : Int) (t₀ : Trim), (s.station i).trim = some t₀ →
    (LineFree s → (s.station i).condition = .normal → (s.station i).channel.jog = none →
      (s.station i).trip = none → s.fire.booth = none → (s.station i).lamp.state = .cold →
      ∀ v, v = clampInt 1 200 n → ∃ t, exec (.lf i.number n) s = .next t ∧
        Answered s t (if v = n then .ok else .clamped ["COUNT".toList, decimalInt v]) ∧
        ChangesOnly [.station i, .line] s t ∧
        t.station i = { s.station i with channel := { (s.station i).channel with jog := some v.toNat } }) ∧
    (∀ k : Nat, (s.station i).channel.jog = some k → t₀.stub + t₀.sp ≤ (s.station i).carbon.rp →
      ∃ t, exec (.jogStep i) s = .next t ∧ ChangesOnly [.station i] s t ∧
        t.station i = { s.station i with
          carbon := { (s.station i).carbon with rp := (s.station i).carbon.rp - t₀.sp }
          channel := { (s.station i).channel with
            jog := if 2 ≤ k then some (k - 1) else none, fsPulses := 1 } }) ∧
    (∀ k : Nat, (s.station i).channel.jog = some k → (s.station i).carbon.rp < t₀.stub + t₀.sp →
      (s.station i).lamp.state = .cold → s.engaged i = false →
      ∃ t, exec (.jogStep i) s = .next t ∧ ChangesOnly [.station i] s t ∧
        (t.station i).lamp = { (s.station i).lamp with
          state := .stub, cls := none, granted := none, establish := 0, pulseTimer := false } ∧
        (t.station i).carbon = (s.station i).carbon ∧ (t.station i).channel.jog = none ∧
        (t.station i).channel.fsPulses = 0)

/-- A bucket close puts the open count at the newest end of the window, keeps the eight most recent and opens a bucket
with 0; off screen it changes nothing else (R129, R133). On screen, with the shortfall mark CLEAR, a prediction below
what is left of the reel and the margin latches SHORTFALL and sets the mark; with the mark GIVEN, or with enough carbon,
nothing more is done. The prediction in BURN with four closed buckets or more is the steps left over the rate of the
window's 30 s buckets, at most 65 535, which also stands for a window without a step; otherwise it is taken at the
trim class's nominal rate (R131 to R133). -/
def Obligations.BucketCloses : Prop :=
  ∀ (s : State) (i : StationId) (n : Nat), (s.station i).carbon.openBucket = some n →
    (s.station i).carbon.bucketTimer = true → (s.station i).carbon.window.length ≤ 8 →
    ∀ w, w = (if (s.station i).carbon.window.length = 8 then (s.station i).carbon.window.tail ++ [n]
      else (s.station i).carbon.window ++ [n]) →
    ((s.house (s.station i).house).onScreen ≠ some i →
      ∃ t, exec (.bucketClose i) s = .next t ∧ ChangesOnly [.station i] s t ∧
        t.station i = { s.station i with
          carbon := { (s.station i).carbon with window := w, openBucket := some 0 } }) ∧
    (∀ (e : Entry) (t₀ : Trim), (s.house (s.station i).house).onScreen = some i →
      (s.house (s.station i).house).playing = some e → (s.station i).trim = some t₀ →
      ∀ left, left = ((s.station i).carbon.rp - t₀.stub) / t₀.sp →
      ∀ burn, burn = (
        if (s.station i).lamp.state = .burn ∧ 4 ≤ w.length then
          if w.sum = 0 then 65535 else min (left * (30 * w.length) / w.sum) 65535
        else min (left * 60 / t₀.rate) 65535) →
      ∃ t, exec (.bucketClose i) s = .next t ∧
        (burn < (e.length - (s.station i).counter) / 24 + (s.house (s.station i).house).settings.margin →
          (s.station i).carbon.mark = .clear →
          ChangesOnly [.station i, .line] s t ∧ t.line = s.line.warned (.shortfall i) ∧
            t.station i = { s.station i with
              carbon := { (s.station i).carbon with window := w, openBucket := some 0, mark := .given } }) ∧
        ((e.length - (s.station i).counter) / 24 + (s.house (s.station i).house).settings.margin ≤ burn ∨
            (s.station i).carbon.mark = .given →
          ChangesOnly [.station i] s t ∧
            t.station i = { s.station i with
              carbon := { (s.station i).carbon with window := w, openBucket := some 0 } }))

/-- R99: LP DEFAULT returns all five parameters of a present NORMAL station's lamp to the defaults of its trim class in
one event and is answered OK; a credit above 255 is clamped to 255; RESETTING it is refused BY, absent ST, and for a station
outside 1 to 6 RG. LP with a word sets one parameter, clamped and answered OK C
when moved, and a credit above the new T − 1 is clamped to it (R97, R98). SP sets the order mode (R111). -/
def Obligations.ParameterAndOrderModeLines : Prop :=
  ∀ (s : State) (i : StationId), LineFree s →
    (∀ t₀ p, (s.station i).condition = .normal → (s.station i).trim = some t₀ →
      (s.station i).channel.params = some p →
      (∃ t, exec (.lp i.number .default) s = .next t ∧ Answered s t .ok ∧ ChangesOnly [.station i, .line] s t ∧
        t.station i = { s.station i with
          channel := { (s.station i).channel with
            params := some { vset := (match t₀ with | .h => 112 | .m => 100 | .s => 84), dead := 2, gain := 4, thr := 256
                             mode := .step }
            credit := if 255 < (s.station i).channel.credit then 255 else (s.station i).channel.credit } }) ∧
      (∀ n v : Int, v = clampInt 16 1024 n →
        ∃ t, exec (.lp i.number (.thr n)) s = .next t ∧ ChangesOnly [.station i, .line] s t ∧
          Answered s t (if v = n then .ok else .clamped ["THR".toList, decimalInt v]) ∧
          t.station i = { s.station i with
            channel := { (s.station i).channel with
              params := some { p with thr := v.toNat }
              credit := if v.toNat - 1 < (s.station i).channel.credit then v.toNat - 1
                else (s.station i).channel.credit } }) ∧
      (∀ n v : Int, v = clampInt 60 160 n → (s.station i).channel.credit + 1 ≤ p.thr →
        ∃ t, exec (.lp i.number (.vset n)) s = .next t ∧ ChangesOnly [.station i, .line] s t ∧
          Answered s t (if v = n then .ok else .clamped ["VSET".toList, decimalInt v]) ∧
          t.station i = { s.station i with
            channel := { (s.station i).channel with params := some { p with vset := v.toNat } } }) ∧
      (∀ n v : Int, v = clampInt 0 20 n → (s.station i).channel.credit + 1 ≤ p.thr →
        ∃ t, exec (.lp i.number (.dead n)) s = .next t ∧ ChangesOnly [.station i, .line] s t ∧
          Answered s t (if v = n then .ok else .clamped ["DEAD".toList, decimalInt v]) ∧
          t.station i = { s.station i with
            channel := { (s.station i).channel with params := some { p with dead := v.toNat } } }) ∧
      (∀ n v : Int, v = clampInt 1 15 n → (s.station i).channel.credit + 1 ≤ p.thr →
        ∃ t, exec (.lp i.number (.gain n)) s = .next t ∧ ChangesOnly [.station i, .line] s t ∧
          Answered s t (if v = n then .ok else .clamped ["GAIN".toList, decimalInt v]) ∧
          t.station i = { s.station i with
            channel := { (s.station i).channel with params := some { p with gain := v.toNat } } }) ∧
      (∀ m : FeedMode, (s.station i).channel.credit + 1 ≤ p.thr →
        ∃ t, exec (.lp i.number (.mode m)) s = .next t ∧ Answered s t .ok ∧ ChangesOnly [.station i, .line] s t ∧
          t.station i = { s.station i with
            channel := { (s.station i).channel with params := some { p with mode := m } } })) ∧
    ((s.station i).condition = .resetting → ∀ arg,
      ∃ t, exec (.lp i.number arg) s = .next t ∧ Answered s t (.no .by_) ∧ ChangesOnly [.line] s t) ∧
    ((s.station i).condition = .normal → (s.station i).present = false → ∀ arg,
      ∃ t, exec (.lp i.number arg) s = .next t ∧ Answered s t (.no .st) ∧ ChangesOnly [.line] s t) ∧
    (∀ n : Int, n < 1 ∨ 6 < n →
      ∃ t, exec (.lp n .default) s = .next t ∧ Answered s t (.no .rg) ∧ ChangesOnly [.line] s t) ∧
    (∀ m : OrderMode, ∃ t, exec (.sp (some m)) s = .next t ∧ Answered s t .ok ∧ ChangesOnly [.arbiter, .line] s t ∧
      t.arbiter = { s.arbiter with mode := m })

/-! ### House lights -/

/-- A fade update moves L by trunc((Tg − L) / N) and takes 1 from N, so that L stays between its old value and Tg and the
last update lands on Tg (R141). LV starts a fade to a clamped level over a clamped time, or at once (R140, R142). PU sets
every PANIC layer and moves no fade (R147). LR is refused FI under FIRE, changes nothing without PANIC, and else clears
PANIC and fades from full to the target over at least 50 updates (R149). -/
def Obligations.HouseLightsFadeAndRestore : Prop :=
  (∀ (s : State) (h : HouseId) (l : Light), l = (s.house h).light → 0 < l.remaining → l.timer = true →
    ∀ share : Int, share = ((l.target : Int) - l.level).tdiv l.remaining →
      ∃ t, exec (.fadeUpdate h) s = .next t ∧ ChangesOnly [.house h] s t ∧
      t.house h = { s.house h with light := (t.house h).light } ∧
      (t.house h).light = { l with
        level := (t.house h).light.level, remaining := l.remaining - 1, timer := decide (2 ≤ l.remaining) } ∧
      ((t.house h).light.level : Int) = l.level + share ∧
      (l.level ≤ l.target → l.level ≤ (t.house h).light.level ∧ (t.house h).light.level ≤ l.target) ∧
      (l.target ≤ l.level → l.target ≤ (t.house h).light.level ∧ (t.house h).light.level ≤ l.level) ∧
      (l.remaining = 1 → (t.house h).light.level = l.target)) ∧
  ∀ (s : State) (h : HouseId) (level time : Int), LineFree s →
    ∀ lv tm : Int, lv = clampInt 0 1000 level → tm = clampInt 0 60000 time →
    (∃ t, exec (.lv h.number (.fade level time)) s = .next t ∧ ChangesOnly [.house h, .line] s t ∧
      Answered s t (Reply.okMoved ((if lv = level then [] else ["LEVEL".toList, decimalInt lv]) ++
        if tm = time then [] else ["TIME".toList, decimalInt tm])) ∧
      t.house h = { s.house h with light := (s.house h).light.faded lv.toNat tm.toNat }) ∧
    (∃ t, exec (.lv h.number (.level level)) s = .next t ∧ ChangesOnly [.house h, .line] s t ∧
      Answered s t (if lv = level then .ok else .clamped ["LEVEL".toList, decimalInt lv]) ∧
      t.house h = { s.house h with light := { (s.house h).light with
        level := lv.toNat, target := lv.toNat, remaining := 0, timer := false } }) ∧
    (∃ t, exec .pu s = .next t ∧ Answered s t .ok ∧
      ChangesOnly [.house .h1, .house .h2, .house .h3, .line] s t ∧
      (∀ k, t.house k = { s.house k with light := { (s.house k).light with panic := .set } }) ∧
      ∀ k, (t.pins.houses.get k).dl = 1000) ∧
    ((s.house h).light.fire = .set →
      ∃ t, exec (.lr h.number) s = .next t ∧ Answered s t (.no .fi) ∧ ChangesOnly [.line] s t) ∧
    ((s.house h).light.fire = .clear → (s.house h).light.panic = .clear →
      ∃ t, exec (.lr h.number) s = .next t ∧ Answered s t .ok ∧ ChangesOnly [.line] s t) ∧
    ((s.house h).light.fire = .clear → (s.house h).light.panic = .set → (s.house h).light.remaining ≤ 600 →
      (s.house h).light.target ≤ 1000 →
      ∃ t, exec (.lr h.number) s = .next t ∧ Answered s t .ok ∧ ChangesOnly [.house h, .line] s t ∧
        t.house h = { s.house h with light := { (s.house h).light with
          level := 1000, panic := .clear, timer := true
          remaining := if (s.house h).light.remaining < 50 then 50 else (s.house h).light.remaining } })

/-! ### Fire protection -/

/-- A booth trip by FA, MT, FL or FT when none is in force: every present station is tripped, with cause BOOTH unless it
was tripped before; no motor runs and no lamp is queued or lit; every house but an UNUSED one in IDLE is SUSPENDED with
its show-running flag by its state before; every FIRE layer is SET and every port release energized (R157, R158, R66).
When one is in force its cause is kept and only the capture and ATTENTION change (R157, R162). -/
def Obligations.BoothTripStopsTheBooth : Prop :=
  ∀ (s : State) (c : Instr) (k : BoothCause), (boothCause c = some k ∨ c = .ft ∧ k = .console ∧ LineFree s) →
    (s.fire.booth = none → StationInv s → LampInv s →
      ∃ t, exec c s = .next t ∧ t.fire.booth = some k ∧
        (∀ i, (s.station i).present = true →
          (t.station i).trip = some ((s.station i).trip.getD .booth)) ∧
        (∀ i, (s.station i).present = false → (t.station i).trip = (s.station i).trip) ∧
        (∀ i, (t.station i).motor.running = false ∧ (t.station i).lamp.state.out = true ∧
          (t.station i).counter = (s.station i).counter ∧ (t.station i).carbon.rp = (s.station i).carbon.rp) ∧
        t.arbiter.queue = [] ∧ t.arbiter.grant = none ∧ t.arbiter.order = s.arbiter.order ∧
        (∀ h, (t.house h).light.fire = .set ∧ (t.house h).releasePulse = true ∧
          t.pins.houses.get h = { pr := true, dl := 1000 } ∧ (t.house h).port = (s.house h).port) ∧
        (∀ h, s.mode h ≠ .unused ∨ (s.house h).engine ≠ .idle → (t.house h).engine = .suspended ∧
          (t.house h).fault = (s.house h).fault ∧
          ((s.house h).engine ≠ .suspended →
            (t.house h).showRunning = decide ((s.house h).engine ∉ [.idle, .ready]))) ∧
        t.clock = s.clock ∧ t.line.attention = true) ∧
    (s.fire.booth.isSome = true → ∃ t, exec c s = .next t ∧ ChangesOnly [.fire, .line] s t ∧
      t.fire.booth = s.fire.booth ∧ t.line.attention = true)

/-- FQ answers OK NONE in EMPTY; in LOCKED it gives the fields, the flags and the count, clears both and makes the capture
READ; in READ it gives the fields again and changes nothing (R164).
FC is refused LK while the capture is LOCKED, then FI while FA, MT, FL, or GH or LT of a present station stands open;
else it ends every trip, turns each FIRE layer into PANIC, and takes each SUSPENDED house to FAULT with its record, to
HOLD when a show ran and entries remain, or to IDLE or READY by its head (R165, R166, R148, R67). -/
def Obligations.CaptureReadAndFireClear : Prop :=
  (∀ s : State, LineFree s →
    (s.fire.capture = .empty → ∃ t, exec .fq s = .next t ∧ Answered s t .okNone ∧ ChangesOnly [.line] s t) ∧
    (∀ f, s.fire.capture = .read f → ∃ t, exec .fq s = .next t ∧ ChangesOnly [.line] s t ∧
      Answered s t (.record (f.words s.fire.flags s.fire.further))) ∧
    (∀ f, s.fire.capture = .locked f → ∃ t, exec .fq s = .next t ∧ ChangesOnly [.fire, .line] s t ∧
      Answered s t (.record (f.words s.fire.flags s.fire.further)) ∧
      t.fire = { s.fire with
        capture := .read f, further := 0
        flags := { filmBreak := false, gate := false, lampHeat := false, alarm := false, manual := false
                   link := false, console := false } })) ∧
  ∀ s : State, LineFree s →
    (∀ f, s.fire.capture = .locked f →
      ∃ t, exec .fc s = .next t ∧ Answered s t (.no .lk) ∧ ChangesOnly [.line] s t) ∧
    ((∀ f, s.fire.capture ≠ .locked f) →
      (s.fire.fa = .opened ∨ s.fire.mt = .opened ∨ s.fire.fl = .opened ∨
        ∃ i, (s.station i).present = true ∧ ((s.station i).gh = .opened ∨ (s.station i).lt = .opened)) →
      ∃ t, exec .fc s = .next t ∧ Answered s t (.no .fi) ∧ ChangesOnly [.line] s t) ∧
    ((∀ f, s.fire.capture ≠ .locked f) → s.fire.fa = .closed → s.fire.mt = .closed → s.fire.fl = .closed →
      (∀ i, (s.station i).present = true → (s.station i).gh = .closed ∧ (s.station i).lt = .closed) →
      ∃ t, exec .fc s = .next t ∧ Answered s t .ok ∧
        t.clock = s.clock ∧ t.arbiter = s.arbiter ∧ t.straps = s.straps ∧ t.pending = s.pending ∧
        t.fire = { s.fire with booth := none } ∧ (∀ i, t.station i = { s.station i with trip := none }) ∧
        ∀ h,
          (t.house h).light = { (s.house h).light with
            fire := .clear
            panic := if (s.house h).light.fire = .set then .set else (s.house h).light.panic } ∧
          (t.house h).queue = (s.house h).queue ∧ (t.house h).fault = (s.house h).fault ∧
          (t.house h).port = (s.house h).port ∧
          ((s.house h).engine ≠ .suspended → (t.house h).engine = (s.house h).engine) ∧
          ((s.house h).engine = .suspended → (t.house h).showRunning = false ∧
            (t.house h).engine =
              (if (s.house h).fault.isSome then .fault
               else if (s.house h).showRunning = true ∧ (s.house h).queue ≠ [] then .hold
               else if (s.house h).headBound then .ready else .idle)))

/-- A GATE event sets the FIRE layer of the station's house, raises its lights to full and energizes its port release;
no other house changes (R156, R146, R161, R139).
The end of a release pulse releases PR, and latches PORT STUCK where the ports are still UP (R161). A trip input that
closes again changes its qualified state and no trip (R152). -/
def Obligations.GateReleasesPortsAndInputsClose : Prop :=
  (∀ (s : State) (i : StationId), (s.station i).present = true →
    ∃ t, exec (.ghOpen i) s = .next t ∧
      (t.house (s.station i).house).light.fire = .set ∧ (t.house (s.station i).house).releasePulse = true ∧
      (t.pins.houses.get (s.station i).house) = { pr := true, dl := 1000 } ∧
      (t.house (s.station i).house).light.panic = (s.house (s.station i).house).light.panic ∧
      (t.house (s.station i).house).port = (s.house (s.station i).house).port ∧
      ∀ h, h ≠ (s.station i).house → t.house h = s.house h) ∧
  ∀ (s : State) (h : HouseId), ((s.house h).releasePulse = true →
      ∃ t, exec (.releasePulseEnd h) s = .next t ∧ ChangesOnly [.house h, .line] s t ∧
        t.house h = { s.house h with releasePulse := false } ∧ (t.pins.houses.get h).pr = false ∧
        t.line = if (s.house h).port = .up then s.line.warned (.portStuck h) else s.line) ∧
    (∀ i : StationId,
      (∃ t, exec (.tripInputQualifiedClosed (.gh i)) s = .next t ∧ ChangesOnly [.station i] s t ∧
        t.station i = { s.station i with gh := .closed }) ∧
      (∃ t, exec (.tripInputQualifiedClosed (.lt i)) s = .next t ∧ ChangesOnly [.station i] s t ∧
        t.station i = { s.station i with lt := .closed }) ∧
      ∃ t, exec (.tripInputQualifiedClosed (.fb i)) s = .next t ∧ ChangesOnly [.station i] s t ∧
        t.station i = { s.station i with fb := .closed }) ∧
    (∃ t, exec (.tripInputQualifiedClosed (.booth .fa)) s = .next t ∧ ChangesOnly [.fire] s t ∧
      t.fire = { s.fire with fa := .closed }) ∧
    (∃ t, exec (.tripInputQualifiedClosed (.booth .mt)) s = .next t ∧ ChangesOnly [.fire] s t ∧
      t.fire = { s.fire with mt := .closed }) ∧
    ∃ t, exec (.tripInputQualifiedClosed (.booth .fl)) s = .next t ∧ ChangesOnly [.fire] s t ∧
      t.fire = { s.fire with fl := .closed }

/-! ### Invariants -/

/-- The state after reset meets every invariant. -/
def Obligations.ResetMeetsTheInvariants : Prop :=
  StationInv State.reset ∧ LampInv State.reset ∧ EntriesInv State.reset ∧ OrderInv State.reset ∧
    ArcInv State.reset ∧ LightInv State.reset ∧ LineInv State.reset ∧ BoothInv State.reset

/-- Every step keeps the invariant of the motors and counters: a tripped, absent or RESETTING station's contactor stays
released, and each motor timer runs exactly in its state (R5 to R9, R19, R20). -/
def Obligations.MotorsStayBarredAndTimed : Prop :=
  ∀ s t : State, StationInv s → step s = .next t → StationInv t

/-- Every step keeps the invariant of the lamps and the strike supply: one lamp at most holds the supply, the queue holds
exactly the QUEUED lamps, and no tripped, absent or RESETTING station's lamp is queued or lit (R105 to R124). -/
def Obligations.StrikeSupplyServesOneLamp : Prop :=
  ∀ s t : State, LampInv s → step s = .next t → LampInv t

/-- Every step keeps the running orders within 12 entries whose fields stay in their ranges (R24 to R27).
Every step keeps the house lights within per-mille and 600 updates (R139 to R141). -/
def Obligations.OrdersAndLightsStayInRange : Prop :=
  (∀ s t : State, EntriesInv s → step s = .next t → EntriesInv t) ∧
  ∀ s t : State, LightInv s → step s = .next t → LightInv t

/-- Every step keeps the invariant of bindings, statuses and engine states (R35, R36, R41). -/
def Obligations.BindingsStayConsistent : Prop :=
  ∀ s t : State, OrderInv s → step s = .next t → OrderInv t

/-- Every step keeps the invariant of the arc channels and the carbon: the credit of a burning lamp below its threshold,
counts and windows only in BURN, Rp within 5000 (R82 to R92, R125, R128 to R130). -/
def Obligations.ArcRecordsStayInRange : Prop :=
  ∀ s t : State, ArcInv s → step s = .next t → ArcInv t

/-- Every step keeps the invariant of the line unit (R169 to R172, R175). -/
def Obligations.LineUnitStaysConsistent : Prop :=
  ∀ s t : State, LineInv s → step s = .next t → LineInv t

/-- Every step keeps what R158 says of a booth trip in force: no contactor, strike solenoid or fire-shutter hold is
energized, no lamp is queued or lit, and every house is SUSPENDED, or UNUSED and IDLE. -/
def Obligations.BoothTripHoldsTheBooth : Prop :=
  ∀ s t : State, BoothInv s → step s = .next t → BoothInv t

end Statements
end

