-- ==== Sys2Proof/Laws/State.lean ====
section
/-!
SUPPORT. One lemma for each field of the state under each update, so that no later proof unfolds a record update, and the
laws of the containers of stations and houses.
-/

namespace Sys2Proof

/-! ### Containers -/

@[simp] theorem PerStation.get_set_same {α : Type} (p : PerStation α) (i : StationId) (x : α) :
    (p.set i x).get i = x := by cases i <;> rfl

theorem PerStation.get_set_other {α : Type} (p : PerStation α) {i j : StationId} (x : α) (h : j ≠ i) :
    (p.set i x).get j = p.get j := by cases i <;> cases j <;> first | rfl | exact absurd rfl h

theorem PerStation.get_set {α : Type} (p : PerStation α) (i j : StationId) (x : α) :
    (p.set i x).get j = if j = i then x else p.get j := by cases i <;> cases j <;> rfl

@[simp] theorem PerStation.get_build {α : Type} (f : StationId → α) (i : StationId) :
    (PerStation.build f).get i = f i := by cases i <;> rfl

theorem PerStation.ext_get {α : Type} {p q : PerStation α} (h : ∀ i, p.get i = q.get i) : p = q := by
  obtain ⟨a, b, c, d, e, f⟩ := p
  obtain ⟨a', b', c', d', e', f'⟩ := q
  simp only [PerStation.mk.injEq]
  exact ⟨h .s1, h .s2, h .s3, h .s4, h .s5, h .s6⟩

@[simp] theorem PerHouse.get_set_same {α : Type} (p : PerHouse α) (h : HouseId) (x : α) :
    (p.set h x).get h = x := by cases h <;> rfl

theorem PerHouse.get_set_other {α : Type} (p : PerHouse α) {h k : HouseId} (x : α) (hk : k ≠ h) :
    (p.set h x).get k = p.get k := by cases h <;> cases k <;> first | rfl | exact absurd rfl hk

theorem PerHouse.get_set {α : Type} (p : PerHouse α) (h k : HouseId) (x : α) :
    (p.set h x).get k = if k = h then x else p.get k := by cases h <;> cases k <;> rfl

@[simp] theorem PerHouse.get_build {α : Type} (f : HouseId → α) (h : HouseId) :
    (PerHouse.build f).get h = f h := by cases h <;> rfl

theorem PerHouse.ext_get {α : Type} {p q : PerHouse α} (h : ∀ k, p.get k = q.get k) : p = q := by
  obtain ⟨a, b, c⟩ := p
  obtain ⟨a', b', c'⟩ := q
  simp only [PerHouse.mk.injEq]
  exact ⟨h .h1, h .h2, h .h3⟩

theorem StationId.mem_all (i : StationId) : i ∈ StationId.all := by cases i <;> decide

theorem HouseId.mem_all (h : HouseId) : h ∈ HouseId.all := by cases h <;> decide

@[simp] theorem StationId.ofInt?_number (i : StationId) : StationId.ofInt? (i.number : Int) = some i := by
  cases i <;> decide

@[simp] theorem HouseId.ofInt?_number (h : HouseId) : HouseId.ofInt? (h.number : Int) = some h := by
  cases h <;> decide

theorem StationId.ofInt?_none {n : Int} (h : n < 1 ∨ 6 < n) : StationId.ofInt? n = none := by
  simp only [StationId.ofInt?, StationId.all, List.find?_eq_none, List.mem_cons, List.not_mem_nil, or_false,
    beq_iff_eq]
  rintro i (rfl | rfl | rfl | rfl | rfl | rfl) <;> simp only [StationId.number] <;> omega

theorem HouseId.ofInt?_none {n : Int} (h : n < 1 ∨ 3 < n) : HouseId.ofInt? n = none := by
  simp only [HouseId.ofInt?, HouseId.all, List.find?_eq_none, List.mem_cons, List.not_mem_nil, or_false,
    beq_iff_eq]
  rintro i (rfl | rfl | rfl) <;> simp only [HouseId.number] <;> omega

end Sys2Proof

namespace Sys2Proof.Machine

/-! ### One station, one house -/

@[simp] theorem State.modStation_straps (s : State) (i : StationId) (f : Station → Station) :
    (s.modStation i f).straps = s.straps := rfl
@[simp] theorem State.modStation_houses (s : State) (i : StationId) (f : Station → Station) :
    (s.modStation i f).houses = s.houses := rfl
@[simp] theorem State.modStation_clock (s : State) (i : StationId) (f : Station → Station) :
    (s.modStation i f).clock = s.clock := rfl
@[simp] theorem State.modStation_arbiter (s : State) (i : StationId) (f : Station → Station) :
    (s.modStation i f).arbiter = s.arbiter := rfl
@[simp] theorem State.modStation_fire (s : State) (i : StationId) (f : Station → Station) :
    (s.modStation i f).fire = s.fire := rfl
@[simp] theorem State.modStation_line (s : State) (i : StationId) (f : Station → Station) :
    (s.modStation i f).line = s.line := rfl
@[simp] theorem State.modStation_pins (s : State) (i : StationId) (f : Station → Station) :
    (s.modStation i f).pins = s.pins := rfl
@[simp] theorem State.modStation_draws (s : State) (i : StationId) (f : Station → Station) :
    (s.modStation i f).draws = s.draws := rfl
@[simp] theorem State.modStation_pending (s : State) (i : StationId) (f : Station → Station) :
    (s.modStation i f).pending = s.pending := rfl

@[simp] theorem State.modStation_house (s : State) (i : StationId) (f : Station → Station) (h : HouseId) :
    (s.modStation i f).house h = s.house h := rfl

@[simp] theorem State.modLamp_straps (s : State) (i : StationId) (f : Lamp → Lamp) :
    (s.modLamp i f).straps = s.straps := rfl
@[simp] theorem State.modLamp_houses (s : State) (i : StationId) (f : Lamp → Lamp) :
    (s.modLamp i f).houses = s.houses := rfl
@[simp] theorem State.modLamp_clock (s : State) (i : StationId) (f : Lamp → Lamp) :
    (s.modLamp i f).clock = s.clock := rfl
@[simp] theorem State.modLamp_arbiter (s : State) (i : StationId) (f : Lamp → Lamp) :
    (s.modLamp i f).arbiter = s.arbiter := rfl
@[simp] theorem State.modLamp_fire (s : State) (i : StationId) (f : Lamp → Lamp) :
    (s.modLamp i f).fire = s.fire := rfl
@[simp] theorem State.modLamp_line (s : State) (i : StationId) (f : Lamp → Lamp) :
    (s.modLamp i f).line = s.line := rfl
@[simp] theorem State.modLamp_pins (s : State) (i : StationId) (f : Lamp → Lamp) :
    (s.modLamp i f).pins = s.pins := rfl
@[simp] theorem State.modLamp_draws (s : State) (i : StationId) (f : Lamp → Lamp) :
    (s.modLamp i f).draws = s.draws := rfl
@[simp] theorem State.modLamp_pending (s : State) (i : StationId) (f : Lamp → Lamp) :
    (s.modLamp i f).pending = s.pending := rfl

@[simp] theorem State.modLamp_house (s : State) (i : StationId) (f : Lamp → Lamp) (h : HouseId) :
    (s.modLamp i f).house h = s.house h := rfl

@[simp] theorem State.modChannel_straps (s : State) (i : StationId) (f : Channel → Channel) :
    (s.modChannel i f).straps = s.straps := rfl
@[simp] theorem State.modChannel_houses (s : State) (i : StationId) (f : Channel → Channel) :
    (s.modChannel i f).houses = s.houses := rfl
@[simp] theorem State.modChannel_clock (s : State) (i : StationId) (f : Channel → Channel) :
    (s.modChannel i f).clock = s.clock := rfl
@[simp] theorem State.modChannel_arbiter (s : State) (i : StationId) (f : Channel → Channel) :
    (s.modChannel i f).arbiter = s.arbiter := rfl
@[simp] theorem State.modChannel_fire (s : State) (i : StationId) (f : Channel → Channel) :
    (s.modChannel i f).fire = s.fire := rfl
@[simp] theorem State.modChannel_line (s : State) (i : StationId) (f : Channel → Channel) :
    (s.modChannel i f).line = s.line := rfl
@[simp] theorem State.modChannel_pins (s : State) (i : StationId) (f : Channel → Channel) :
    (s.modChannel i f).pins = s.pins := rfl
@[simp] theorem State.modChannel_draws (s : State) (i : StationId) (f : Channel → Channel) :
    (s.modChannel i f).draws = s.draws := rfl
@[simp] theorem State.modChannel_pending (s : State) (i : StationId) (f : Channel → Channel) :
    (s.modChannel i f).pending = s.pending := rfl

@[simp] theorem State.modChannel_house (s : State) (i : StationId) (f : Channel → Channel) (h : HouseId) :
    (s.modChannel i f).house h = s.house h := rfl

@[simp] theorem State.modCarbon_straps (s : State) (i : StationId) (f : Carbon → Carbon) :
    (s.modCarbon i f).straps = s.straps := rfl
@[simp] theorem State.modCarbon_houses (s : State) (i : StationId) (f : Carbon → Carbon) :
    (s.modCarbon i f).houses = s.houses := rfl
@[simp] theorem State.modCarbon_clock (s : State) (i : StationId) (f : Carbon → Carbon) :
    (s.modCarbon i f).clock = s.clock := rfl
@[simp] theorem State.modCarbon_arbiter (s : State) (i : StationId) (f : Carbon → Carbon) :
    (s.modCarbon i f).arbiter = s.arbiter := rfl
@[simp] theorem State.modCarbon_fire (s : State) (i : StationId) (f : Carbon → Carbon) :
    (s.modCarbon i f).fire = s.fire := rfl
@[simp] theorem State.modCarbon_line (s : State) (i : StationId) (f : Carbon → Carbon) :
    (s.modCarbon i f).line = s.line := rfl
@[simp] theorem State.modCarbon_pins (s : State) (i : StationId) (f : Carbon → Carbon) :
    (s.modCarbon i f).pins = s.pins := rfl
@[simp] theorem State.modCarbon_draws (s : State) (i : StationId) (f : Carbon → Carbon) :
    (s.modCarbon i f).draws = s.draws := rfl
@[simp] theorem State.modCarbon_pending (s : State) (i : StationId) (f : Carbon → Carbon) :
    (s.modCarbon i f).pending = s.pending := rfl

@[simp] theorem State.modCarbon_house (s : State) (i : StationId) (f : Carbon → Carbon) (h : HouseId) :
    (s.modCarbon i f).house h = s.house h := rfl

@[simp] theorem State.modHouse_straps (s : State) (h : HouseId) (f : House → House) :
    (s.modHouse h f).straps = s.straps := rfl
@[simp] theorem State.modHouse_stations (s : State) (h : HouseId) (f : House → House) :
    (s.modHouse h f).stations = s.stations := rfl
@[simp] theorem State.modHouse_clock (s : State) (h : HouseId) (f : House → House) :
    (s.modHouse h f).clock = s.clock := rfl
@[simp] theorem State.modHouse_arbiter (s : State) (h : HouseId) (f : House → House) :
    (s.modHouse h f).arbiter = s.arbiter := rfl
@[simp] theorem State.modHouse_fire (s : State) (h : HouseId) (f : House → House) :
    (s.modHouse h f).fire = s.fire := rfl
@[simp] theorem State.modHouse_line (s : State) (h : HouseId) (f : House → House) :
    (s.modHouse h f).line = s.line := rfl
@[simp] theorem State.modHouse_pins (s : State) (h : HouseId) (f : House → House) :
    (s.modHouse h f).pins = s.pins := rfl
@[simp] theorem State.modHouse_draws (s : State) (h : HouseId) (f : House → House) :
    (s.modHouse h f).draws = s.draws := rfl
@[simp] theorem State.modHouse_pending (s : State) (h : HouseId) (f : House → House) :
    (s.modHouse h f).pending = s.pending := rfl

@[simp] theorem State.modHouse_station (s : State) (h : HouseId) (f : House → House) (i : StationId) :
    (s.modHouse h f).station i = s.station i := rfl

@[simp] theorem State.modLight_straps (s : State) (h : HouseId) (f : Light → Light) :
    (s.modLight h f).straps = s.straps := rfl
@[simp] theorem State.modLight_stations (s : State) (h : HouseId) (f : Light → Light) :
    (s.modLight h f).stations = s.stations := rfl
@[simp] theorem State.modLight_clock (s : State) (h : HouseId) (f : Light → Light) :
    (s.modLight h f).clock = s.clock := rfl
@[simp] theorem State.modLight_arbiter (s : State) (h : HouseId) (f : Light → Light) :
    (s.modLight h f).arbiter = s.arbiter := rfl
@[simp] theorem State.modLight_fire (s : State) (h : HouseId) (f : Light → Light) :
    (s.modLight h f).fire = s.fire := rfl
@[simp] theorem State.modLight_line (s : State) (h : HouseId) (f : Light → Light) :
    (s.modLight h f).line = s.line := rfl
@[simp] theorem State.modLight_pins (s : State) (h : HouseId) (f : Light → Light) :
    (s.modLight h f).pins = s.pins := rfl
@[simp] theorem State.modLight_draws (s : State) (h : HouseId) (f : Light → Light) :
    (s.modLight h f).draws = s.draws := rfl
@[simp] theorem State.modLight_pending (s : State) (h : HouseId) (f : Light → Light) :
    (s.modLight h f).pending = s.pending := rfl

@[simp] theorem State.modLight_station (s : State) (h : HouseId) (f : Light → Light) (i : StationId) :
    (s.modLight h f).station i = s.station i := rfl

@[simp] theorem State.modQueue_straps (s : State) (h : HouseId) (f : List Entry → List Entry) :
    (s.modQueue h f).straps = s.straps := rfl
@[simp] theorem State.modQueue_stations (s : State) (h : HouseId) (f : List Entry → List Entry) :
    (s.modQueue h f).stations = s.stations := rfl
@[simp] theorem State.modQueue_clock (s : State) (h : HouseId) (f : List Entry → List Entry) :
    (s.modQueue h f).clock = s.clock := rfl
@[simp] theorem State.modQueue_arbiter (s : State) (h : HouseId) (f : List Entry → List Entry) :
    (s.modQueue h f).arbiter = s.arbiter := rfl
@[simp] theorem State.modQueue_fire (s : State) (h : HouseId) (f : List Entry → List Entry) :
    (s.modQueue h f).fire = s.fire := rfl
@[simp] theorem State.modQueue_line (s : State) (h : HouseId) (f : List Entry → List Entry) :
    (s.modQueue h f).line = s.line := rfl
@[simp] theorem State.modQueue_pins (s : State) (h : HouseId) (f : List Entry → List Entry) :
    (s.modQueue h f).pins = s.pins := rfl
@[simp] theorem State.modQueue_draws (s : State) (h : HouseId) (f : List Entry → List Entry) :
    (s.modQueue h f).draws = s.draws := rfl
@[simp] theorem State.modQueue_pending (s : State) (h : HouseId) (f : List Entry → List Entry) :
    (s.modQueue h f).pending = s.pending := rfl

@[simp] theorem State.modQueue_station (s : State) (h : HouseId) (f : List Entry → List Entry) (i : StationId) :
    (s.modQueue h f).station i = s.station i := rfl

theorem State.station_modStation (s : State) (i j : StationId) (f : Station → Station) :
    (s.modStation i f).station j = if j = i then f (s.station i) else s.station j := by
  simp only [State.station, State.modStation, PerStation.get_set]

@[simp] theorem State.station_modStation_same (s : State) (i : StationId) (f : Station → Station) :
    (s.modStation i f).station i = f (s.station i) := by simp [State.station_modStation]

theorem State.station_modStation_other (s : State) {i j : StationId} (f : Station → Station) (h : j ≠ i) :
    (s.modStation i f).station j = s.station j := by simp [State.station_modStation, h]

theorem State.house_modHouse (s : State) (h k : HouseId) (f : House → House) :
    (s.modHouse h f).house k = if k = h then f (s.house h) else s.house k := by
  simp only [State.house, State.modHouse, PerHouse.get_set]

@[simp] theorem State.house_modHouse_same (s : State) (h : HouseId) (f : House → House) :
    (s.modHouse h f).house h = f (s.house h) := by simp [State.house_modHouse]

theorem State.house_modHouse_other (s : State) {h k : HouseId} (f : House → House) (hk : k ≠ h) :
    (s.modHouse h f).house k = s.house k := by simp [State.house_modHouse, hk]

/-! ### ATTENTION, warnings and the end of a command -/

@[simp] theorem State.assertAttention_straps (s : State) :
    (s.assertAttention).straps = s.straps := rfl
@[simp] theorem State.assertAttention_stations (s : State) :
    (s.assertAttention).stations = s.stations := rfl
@[simp] theorem State.assertAttention_houses (s : State) :
    (s.assertAttention).houses = s.houses := rfl
@[simp] theorem State.assertAttention_clock (s : State) :
    (s.assertAttention).clock = s.clock := rfl
@[simp] theorem State.assertAttention_arbiter (s : State) :
    (s.assertAttention).arbiter = s.arbiter := rfl
@[simp] theorem State.assertAttention_fire (s : State) :
    (s.assertAttention).fire = s.fire := rfl
@[simp] theorem State.assertAttention_pins (s : State) :
    (s.assertAttention).pins = s.pins := rfl
@[simp] theorem State.assertAttention_draws (s : State) :
    (s.assertAttention).draws = s.draws := rfl
@[simp] theorem State.assertAttention_pending (s : State) :
    (s.assertAttention).pending = s.pending := rfl

@[simp] theorem State.latch_straps (s : State) (w : Warning) :
    (s.latch w).straps = s.straps := rfl
@[simp] theorem State.latch_stations (s : State) (w : Warning) :
    (s.latch w).stations = s.stations := rfl
@[simp] theorem State.latch_houses (s : State) (w : Warning) :
    (s.latch w).houses = s.houses := rfl
@[simp] theorem State.latch_clock (s : State) (w : Warning) :
    (s.latch w).clock = s.clock := rfl
@[simp] theorem State.latch_arbiter (s : State) (w : Warning) :
    (s.latch w).arbiter = s.arbiter := rfl
@[simp] theorem State.latch_fire (s : State) (w : Warning) :
    (s.latch w).fire = s.fire := rfl
@[simp] theorem State.latch_pins (s : State) (w : Warning) :
    (s.latch w).pins = s.pins := rfl
@[simp] theorem State.latch_draws (s : State) (w : Warning) :
    (s.latch w).draws = s.draws := rfl
@[simp] theorem State.latch_pending (s : State) (w : Warning) :
    (s.latch w).pending = s.pending := rfl

@[simp] theorem State.startReply_straps (s : State) (lead : Text) (r : Reply) :
    (s.startReply lead r).straps = s.straps := rfl
@[simp] theorem State.startReply_stations (s : State) (lead : Text) (r : Reply) :
    (s.startReply lead r).stations = s.stations := rfl
@[simp] theorem State.startReply_houses (s : State) (lead : Text) (r : Reply) :
    (s.startReply lead r).houses = s.houses := rfl
@[simp] theorem State.startReply_clock (s : State) (lead : Text) (r : Reply) :
    (s.startReply lead r).clock = s.clock := rfl
@[simp] theorem State.startReply_arbiter (s : State) (lead : Text) (r : Reply) :
    (s.startReply lead r).arbiter = s.arbiter := rfl
@[simp] theorem State.startReply_fire (s : State) (lead : Text) (r : Reply) :
    (s.startReply lead r).fire = s.fire := rfl
@[simp] theorem State.startReply_pins (s : State) (lead : Text) (r : Reply) :
    (s.startReply lead r).pins = s.pins := rfl
@[simp] theorem State.startReply_draws (s : State) (lead : Text) (r : Reply) :
    (s.startReply lead r).draws = s.draws := rfl
@[simp] theorem State.startReply_pending (s : State) (lead : Text) (r : Reply) :
    (s.startReply lead r).pending = s.pending := rfl

@[simp] theorem State.settle_straps (s : State) :
    (s.settle).straps = s.straps := rfl
@[simp] theorem State.settle_stations (s : State) :
    (s.settle).stations = s.stations := rfl
@[simp] theorem State.settle_houses (s : State) :
    (s.settle).houses = s.houses := rfl
@[simp] theorem State.settle_clock (s : State) :
    (s.settle).clock = s.clock := rfl
@[simp] theorem State.settle_arbiter (s : State) :
    (s.settle).arbiter = s.arbiter := rfl
@[simp] theorem State.settle_fire (s : State) :
    (s.settle).fire = s.fire := rfl
@[simp] theorem State.settle_line (s : State) :
    (s.settle).line = s.line := rfl
@[simp] theorem State.settle_draws (s : State) :
    (s.settle).draws = s.draws := rfl
@[simp] theorem State.settle_pending (s : State) :
    (s.settle).pending = s.pending := rfl

@[simp] theorem State.assertAttention_station (s : State) (i : StationId) :
    (s.assertAttention).station i = s.station i := rfl
@[simp] theorem State.assertAttention_house (s : State) (h : HouseId) :
    (s.assertAttention).house h = s.house h := rfl

@[simp] theorem State.latch_station (s : State) (w : Warning) (i : StationId) :
    (s.latch w).station i = s.station i := rfl
@[simp] theorem State.latch_house (s : State) (w : Warning) (h : HouseId) :
    (s.latch w).house h = s.house h := rfl

@[simp] theorem State.startReply_station (s : State) (lead : Text) (r : Reply) (i : StationId) :
    (s.startReply lead r).station i = s.station i := rfl
@[simp] theorem State.startReply_house (s : State) (lead : Text) (r : Reply) (h : HouseId) :
    (s.startReply lead r).house h = s.house h := rfl

@[simp] theorem State.settle_station (s : State) (i : StationId) :
    (s.settle).station i = s.station i := rfl
@[simp] theorem State.settle_house (s : State) (h : HouseId) :
    (s.settle).house h = s.house h := rfl

@[simp] theorem State.latch_line (s : State) (w : Warning) : (s.latch w).line = s.line.warned w := rfl

@[simp] theorem State.settle_pins (s : State) : s.settle.pins = s.outputs := rfl

/-! ### The straps at a booth reset, and a house's entry to SUSPENDED -/

@[simp] theorem State.readTrimStraps_stations (s : State) : s.readTrimStraps.stations = s.stations := rfl
@[simp] theorem State.readTrimStraps_houses (s : State) : s.readTrimStraps.houses = s.houses := rfl
@[simp] theorem State.readTrimStraps_clock (s : State) : s.readTrimStraps.clock = s.clock := rfl
@[simp] theorem State.readTrimStraps_arbiter (s : State) : s.readTrimStraps.arbiter = s.arbiter := rfl
@[simp] theorem State.readTrimStraps_fire (s : State) : s.readTrimStraps.fire = s.fire := rfl
@[simp] theorem State.readTrimStraps_line (s : State) : s.readTrimStraps.line = s.line := rfl
@[simp] theorem State.readTrimStraps_pins (s : State) : s.readTrimStraps.pins = s.pins := rfl
@[simp] theorem State.readTrimStraps_pending (s : State) : s.readTrimStraps.pending = s.pending := rfl
@[simp] theorem State.readTrimStraps_draws (s : State) : s.readTrimStraps.draws = s.draws + 1 := rfl
@[simp] theorem State.readTrimStraps_straps (s : State) :
    s.readTrimStraps.straps = { s.straps with trim := Config.trimStraps s.draws } := rfl

@[simp] theorem House.toSuspended_engine (hs : House) : hs.toSuspended.engine = .suspended := rfl
@[simp] theorem House.toSuspended_showRunning (hs : House) : hs.toSuspended.showRunning = hs.engine.showAtTrip := rfl
@[simp] theorem House.toSuspended_step (hs : House) : hs.toSuspended.step = none := rfl
@[simp] theorem House.toSuspended_lampWait (hs : House) : hs.toSuspended.lampWait = false := rfl
@[simp] theorem House.toSuspended_regime (hs : House) : hs.toSuspended.regime = none := rfl
@[simp] theorem House.toSuspended_reel (hs : House) : hs.toSuspended.reel = Reel.clear := rfl
@[simp] theorem House.toSuspended_queue (hs : House) : hs.toSuspended.queue = stopPlaying hs.queue := rfl
@[simp] theorem House.toSuspended_skew (hs : House) : hs.toSuspended.skew = hs.skew := rfl
@[simp] theorem House.toSuspended_hold (hs : House) : hs.toSuspended.hold = hs.hold := rfl
@[simp] theorem House.toSuspended_fault (hs : House) : hs.toSuspended.fault = hs.fault := rfl
@[simp] theorem House.toSuspended_settings (hs : House) : hs.toSuspended.settings = hs.settings := rfl
@[simp] theorem House.toSuspended_light (hs : House) : hs.toSuspended.light = hs.light := rfl
@[simp] theorem House.toSuspended_alarm (hs : House) : hs.toSuspended.alarm = hs.alarm := rfl
@[simp] theorem House.toSuspended_port (hs : House) : hs.toSuspended.port = hs.port := rfl
@[simp] theorem House.toSuspended_releasePulse (hs : House) : hs.toSuspended.releasePulse = hs.releasePulse := rfl

/-! ### Loops over stations and houses -/

/-- What every step of a loop over stations keeps, the loop keeps. -/
theorem State.forStations_keeps (P : State → Prop) (f : StationId → State → State) (hf : ∀ i t, P t → P (f i t))
    (l : List StationId) (s : State) (h : P s) : P (s.forStations l f) := by
  induction l generalizing s with
  | nil => exact h
  | cons i l ih => exact ih _ (hf i s h)

/-- What every step of a loop over houses keeps, the loop keeps. -/
theorem State.forHouses_keeps (P : State → Prop) (f : HouseId → State → State) (hf : ∀ h t, P t → P (f h t))
    (l : List HouseId) (s : State) (hs : P s) : P (s.forHouses l f) := by
  induction l generalizing s with
  | nil => exact hs
  | cons i l ih => exact ih _ (hf i s hs)

end Sys2Proof.Machine
end

