-- ==== Sys2Proof/Laws/Kept.lean ====
section
/-!
SUPPORT. No operation of the stations, lamps, running orders, house engines or fire monitor touches the waiting commands,
the straps or the clock: one lemma for each operation.
-/

namespace Sys2Proof.Machine

/-- The waiting commands, the straps and the clock are as they were. -/
def Kept (s t : State) : Prop := t.pending = s.pending ∧ t.straps = s.straps ∧ t.clock = s.clock

theorem Kept.refl (s : State) : Kept s s := ⟨rfl, rfl, rfl⟩

theorem Kept.trans {s t u : State} (h : Kept s t) (k : Kept t u) : Kept s u :=
  ⟨k.1.trans h.1, k.2.1.trans h.2.1, k.2.2.trans h.2.2⟩

/-- A further operation after a kept state. -/
theorem Kept.then {s t : State} (h : Kept s t) {f : State → State} (hf : ∀ u, Kept u (f u)) : Kept s (f t) :=
  h.trans (hf t)

theorem Kept.forStations (s : State) (l : List StationId) (f : StationId → State → State)
    (hf : ∀ i t, Kept t (f i t)) : Kept s (s.forStations l f) :=
  State.forStations_keeps (Kept s) f (fun i t h => h.trans (hf i t)) l s (Kept.refl s)

theorem Kept.forHouses (s : State) (l : List HouseId) (f : HouseId → State → State)
    (hf : ∀ h t, Kept t (f h t)) : Kept s (s.forHouses l f) :=
  State.forHouses_keeps (Kept s) f (fun h t k => k.trans (hf h t)) l s (Kept.refl s)

theorem Kept.ite {s t u : State} {p : Prop} [Decidable p] (h : Kept s t) (k : Kept s u) :
    Kept s (if p then t else u) := by split <;> assumption

/-! ### Records, warnings, fades -/

theorem State.modStation_kept (s : State) (i : StationId) (f : Station → Station) : Kept s (s.modStation i f) :=
  ⟨rfl, rfl, rfl⟩

theorem State.modHouse_kept (s : State) (h : HouseId) (f : House → House) : Kept s (s.modHouse h f) :=
  ⟨rfl, rfl, rfl⟩

theorem State.latch_kept (s : State) (w : Warning) : Kept s (s.latch w) := ⟨rfl, rfl, rfl⟩

theorem State.assertAttention_kept (s : State) : Kept s s.assertAttention := ⟨rfl, rfl, rfl⟩

theorem State.freeOrder_kept {α : Type} (s : State) (l : List α) : Kept s (s.freeOrder l).2 := by
  unfold State.freeOrder; split <;> exact ⟨rfl, rfl, rfl⟩

theorem State.action_kept (s : State) (h : HouseId) (a : Option LightAction) : Kept s (s.action h a) := by
  cases a <;> exact ⟨rfl, rfl, rfl⟩

theorem State.darkenHouse_kept (s : State) (h : HouseId) : Kept s (s.darkenHouse h) :=
  Kept.forStations s _ _ fun _ _ => ⟨rfl, rfl, rfl⟩

theorem State.removeEntry_kept (s : State) (i : StationId) : Kept s (s.removeEntry i) := ⟨rfl, rfl, rfl⟩

theorem State.darken_kept (s : State) (i : StationId) : Kept s (s.darken i) := ⟨rfl, rfl, rfl⟩

theorem State.openShutter_kept (s : State) (i : StationId) : Kept s (s.openShutter i) :=
  Kept.ite (Kept.refl s) ⟨rfl, rfl, rfl⟩

/-! ### Lamps -/

theorem State.setLamp_kept (s : State) (i : StationId) (new : LampState) (cls : Option StrikeClass) :
    Kept s (s.setLamp i new cls) := by
  unfold State.setLamp; dsimp only; split <;> exact ⟨rfl, rfl, rfl⟩

theorem State.grantTo_kept (s : State) (k : StationId) : Kept s (s.grantTo k) := s.setLamp_kept k .striking none

theorem State.testGrant_kept (s : State) : Kept s s.testGrant := by
  unfold State.testGrant
  split
  · split
    · exact s.grantTo_kept _
    · exact Kept.refl s
  · exact Kept.refl s

theorem State.takeStrike_kept (s : State) (i : StationId) : Kept s (s.takeStrike i) :=
  ((s.modStation_kept i _).trans (State.setLamp_kept _ i .queued (some .normal))).trans (State.testGrant_kept _)

theorem State.requestStrike_kept (s : State) (i : StationId) : Kept s (s.requestStrike i).1 := by
  unfold State.requestStrike
  split
  all_goals first
    | exact Kept.refl s
    | (split
       · exact Kept.refl s
       · exact s.takeStrike_kept i)

theorem State.extinguish_kept (s : State) (i : StationId) : Kept s (s.extinguish i) := by
  unfold State.extinguish
  split <;> exact s.setLamp_kept i .cold none

/-! ### FAULT, SUSPENDED and trips -/

theorem State.latchFault_kept (s : State) (h : HouseId) (r : FaultRecord) : Kept s (s.latchFault h r) :=
  Kept.ite (Kept.refl s) ⟨rfl, rfl, rfl⟩

theorem State.enterFault_kept (s : State) (h : HouseId) (cause : FaultCause) (i : Option StationId) :
    Kept s (s.enterFault h cause i) := by
  unfold State.enterFault
  dsimp only
  generalize (StationId.all.filter fun j => (s.station j).house = h && s.engaged j) = l
  have k1 := s.darkenHouse_kept h
  have k2 := Kept.forStations (s.darkenHouse h) l (fun j t => t.stopMotor j) fun _ _ => ⟨rfl, rfl, rfl⟩
  exact (((k1.trans k2).trans (State.modHouse_kept _ h _)).trans (State.latchFault_kept _ h _)).trans
    (State.modHouse_kept _ h _)

theorem State.suspend_kept (s : State) (h : HouseId) : Kept s (s.suspend h) :=
  Kept.ite (Kept.refl s) ((s.darkenHouse_kept h).trans ⟨rfl, rfl, rfl⟩)

theorem State.interlockEvent_kept (s : State) (i : StationId) : Kept s (s.interlockEvent i) :=
  Kept.ite ((s.latch_kept _).trans (State.enterFault_kept _ _ _ _)) (s.latch_kept _)

theorem State.enforceLd_kept (s : State) (i : StationId) : Kept s (s.enforceLd i) :=
  (s.extinguish_kept i).trans (State.interlockEvent_kept _ i)

theorem State.enforceMd_kept (s : State) (i : StationId) : Kept s (s.enforceMd i) :=
  Kept.trans ⟨rfl, rfl, rfl⟩ (State.interlockEvent_kept _ i)

theorem State.captureTrip_kept (s : State) (cause : CaptureCause) (i : Option StationId) :
    Kept s (s.captureTrip cause i) := ⟨rfl, rfl, rfl⟩

theorem State.tripStation_kept (s : State) (i : StationId) (cause : StationCause) : Kept s (s.tripStation i cause) :=
  (s.modStation_kept i _).trans (State.extinguish_kept _ i)

theorem State.dropRunOut_kept (s : State) (i : StationId) : Kept s (s.dropRunOut i) := by
  unfold State.dropRunOut
  split
  · split <;> exact s.removeEntry_kept i
  · exact Kept.refl s

theorem State.tripHouse_kept (s : State) (i : StationId) (engaged : Bool) : Kept s (s.tripHouse i engaged) :=
  Kept.ite (s.enterFault_kept _ _ _) ((s.dropRunOut_kept i).trans ⟨rfl, rfl, rfl⟩)

theorem State.stationTrip_kept (s : State) (i : StationId) (cause : StationCause) (capture : CaptureCause) :
    Kept s (s.stationTrip i cause capture) := by
  have h : Kept s (if (s.station i).trip.isSome then s.captureTrip capture (some i)
      else ((s.captureTrip capture (some i)).tripStation i cause).tripHouse i (s.engaged i)) :=
    Kept.ite (s.captureTrip_kept _ _)
      (((s.captureTrip_kept _ _).trans (State.tripStation_kept _ i cause)).trans (State.tripHouse_kept _ i _))
  unfold State.stationTrip
  dsimp only
  exact Kept.ite (Kept.ite (h.trans ⟨rfl, rfl, rfl⟩) h) (Kept.refl s)

theorem State.tripBooth_kept (s : State) (i : StationId) : Kept s (s.tripBooth i) :=
  Kept.ite (s.tripStation_kept i .booth) (Kept.refl s)

theorem State.tripBoothHouse_kept (s : State) (h : HouseId) : Kept s (s.tripBoothHouse h) :=
  Kept.trans (Kept.ite (Kept.refl s) (s.suspend_kept h)) ⟨rfl, rfl, rfl⟩

theorem State.boothTrip_kept (s : State) (cause : BoothCause) : Kept s (s.boothTrip cause) := by
  unfold State.boothTrip
  dsimp only
  have k : ∀ t : State, Kept t (t.boothTripActions cause) := fun t =>
    (Kept.trans (t := ({ t with fire := { t.fire with booth := some cause } } : State)) ⟨rfl, rfl, rfl⟩
      (Kept.forStations _ StationId.all (fun i t => (t.tripBooth i).dropRunOut i)
        fun i t => (t.tripBooth_kept i).trans (State.dropRunOut_kept _ i))).trans
      (Kept.forHouses _ HouseId.all (fun h t => t.tripBoothHouse h) fun h t => t.tripBoothHouse_kept h)
  exact Kept.ite (s.captureTrip_kept _ _) ((s.captureTrip_kept _ _).trans (k _))

theorem State.fireClear_kept (s : State) : Kept s s.fireClear := by
  exact (Kept.trans (t := ({ s with fire := { s.fire with booth := none } } : State)) ⟨rfl, rfl, rfl⟩
    (Kept.forStations _ StationId.all (fun i t => t.modStation i fun st => { st with trip := none })
      fun i t => t.modStation_kept i _)).trans
    (Kept.forHouses _ HouseId.all
      (fun h t => t.modHouse h fun hs => { hs.unsuspend with light := hs.light.fireToPanic })
      fun h t => t.modHouse_kept h _)

/-! ### The house engine -/

theorem State.startMotorThen_kept (s : State) (i : StationId) (act : State → State) (ha : ∀ t, Kept t (act t)) :
    Kept s (s.startMotorThen i act) :=
  Kept.ite (((s.modStation_kept i _).trans (ha _)).trans (State.stationTrip_kept _ i _ _))
    ((s.modStation_kept i _).trans (ha _))

theorem State.incomingCheck_kept (s : State) (h : HouseId) (i : StationId) (length : Nat) :
    Kept s (s.incomingCheck h i length) := by
  unfold State.incomingCheck
  dsimp only
  split
  · exact Kept.ite (s.latch_kept _) (Kept.refl s)
  · exact Kept.refl s

theorem State.strikeCue_kept (s : State) (h : HouseId) : Kept s (s.strikeCue h) := by
  have k : ∀ (t : State) (j : StationId),
      Kept t (if (t.station j).lamp.state = .cold then (t.requestStrike j).1 else t) :=
    fun t j => Kept.ite (t.requestStrike_kept j) (Kept.refl t)
  unfold State.strikeCue
  dsimp only
  split
  · split
    · exact ((s.modHouse_kept h _).trans (State.incomingCheck_kept _ h _ _)).trans (k _ _)
    · exact (s.modHouse_kept h _).trans (State.latch_kept _ _)
  · exact s.modHouse_kept h _

theorem State.motorCue_kept (s : State) (h : HouseId) : Kept s (s.motorCue h) := by
  unfold State.motorCue
  dsimp only
  split
  · split
    · split
      · exact (s.modHouse_kept h _).trans (State.startMotorThen_kept _ _ _ fun t => t.action_kept h _)
      · exact ⟨rfl, rfl, rfl⟩
    · exact ⟨rfl, rfl, rfl⟩
  · exact ⟨rfl, rfl, rfl⟩

theorem State.missReason_kept (s : State) (h : HouseId) : Kept s (s.missReason h).2 := by
  unfold State.missReason
  dsimp only
  split
  · exact Kept.refl s
  · split
    · exact Kept.refl s
    · split
      · exact Kept.refl s
      · split <;> exact ⟨rfl, rfl, rfl⟩

theorem State.stopIncoming_kept (s : State) (h : HouseId) : Kept s (s.stopIncoming h) := by
  unfold State.stopIncoming; split <;> exact ⟨rfl, rfl, rfl⟩

theorem State.runDown_kept (s : State) (h : HouseId) : Kept s (s.runDown h) :=
  ((s.missReason_kept h).trans (State.stopIncoming_kept _ h)).trans ⟨rfl, rfl, rfl⟩

theorem State.takeScreen_kept (s : State) (i : StationId) : Kept s (s.takeScreen i) :=
  Kept.trans ⟨rfl, rfl, rfl⟩ (State.openShutter_kept _ i)

theorem State.changeInstant_kept (s : State) (h : HouseId) (out inc : StationId) (e : Entry) :
    Kept s (s.changeInstant h out inc e) := by
  unfold State.changeInstant
  dsimp only
  have k : Kept s (((((s.takeScreen inc).darken out).extinguish out).modQueue h fun q =>
      setStatus (setStatus q out .runOut) inc .playing).action h e.pi) :=
    ((((s.takeScreen_kept inc).trans (State.darken_kept _ out)).trans (State.extinguish_kept _ out)).trans
      (State.modHouse_kept _ h _)).trans (State.action_kept _ h _)
  exact Kept.ite ((k.trans (State.modHouse_kept _ h _)).trans (State.latch_kept _ _))
    (k.trans (State.modHouse_kept _ h _))

theorem State.makeChange_kept (start : State → State) (hs : ∀ t, Kept t (start t)) (s : State) (h : HouseId) :
    Kept s (State.makeChange start s h) := by
  unfold State.makeChange
  split
  · exact (s.changeInstant_kept h _ _ _).trans (hs _)
  · exact Kept.refl s

theorem State.takeCues_kept (start : State → State) (hs : ∀ t, Kept t (start t)) (s : State) (h : HouseId)
    (level : Nat) : Kept s (State.takeCues start s h level) := by
  have k1 : ∀ t : State, ∀ b : Bool, Kept t (if b then t.strikeCue h else t) :=
    fun t b => Kept.ite (t.strikeCue_kept h) (Kept.refl t)
  have k2 : ∀ t : State, ∀ b : Bool, Kept t (if b then t.motorCue h else t) :=
    fun t b => Kept.ite (t.motorCue_kept h) (Kept.refl t)
  have k3 : ∀ t : State, ∀ b : Bool, Kept t (if b then State.changeCue start t h else t) :=
    fun t b => Kept.ite (Kept.ite (State.makeChange_kept start hs t h) (t.runDown_kept h)) (Kept.refl t)
  unfold State.takeCues
  dsimp only
  exact ((k1 _ _).trans (k2 _ _)).trans (k3 _ _)

theorem State.closeDown_kept (s : State) (i : StationId) : Kept s (s.closeDown i) :=
  Kept.trans ⟨rfl, rfl, rfl⟩ (State.extinguish_kept _ i)

theorem State.endMissed_kept (s : State) (h : HouseId) (i : StationId) (e : Entry) : Kept s (s.endMissed h i e) := by
  unfold State.endMissed
  dsimp only
  refine Kept.trans ((s.closeDown_kept i).trans (State.removeEntry_kept _ i)) ?_
  split <;> exact ⟨rfl, rfl, rfl⟩

theorem State.endReel_kept (s : State) (h : HouseId) (i : StationId) (e : Entry) : Kept s (s.endReel h i e) :=
  (((s.closeDown_kept i).trans (State.removeEntry_kept _ i)).trans (State.action_kept _ h _)).trans ⟨rfl, rfl, rfl⟩

theorem State.onScreenTail_kept (s : State) (h : HouseId) (i : StationId) (e : Entry) :
    Kept s (s.onScreenTail h i e) := by
  have k : Kept s (s.missAtTail h) := by
    unfold State.missAtTail
    dsimp only
    exact ((s.modHouse_kept h _).trans (State.stopIncoming_kept _ h)).trans (State.latch_kept _ _)
  exact Kept.ite (s.endMissed_kept h i e) (Kept.ite (k.trans (State.endMissed_kept _ h i e)) (s.endReel_kept h i e))

theorem State.reelTail_kept (s : State) (i : StationId) : Kept s (s.reelTail i) := by
  unfold State.reelTail
  dsimp only
  split
  · split
    · exact ⟨rfl, rfl, rfl⟩
    · exact Kept.ite (s.onScreenTail_kept _ i _) (Kept.refl s)
    · exact Kept.refl s
    · exact Kept.refl s
  · exact Kept.refl s

theorem State.beginReel_kept (n : Nat) (h : HouseId) (s : State) : Kept s (State.beginReel n h s) := by
  induction n generalizing s with
  | zero => exact Kept.refl s
  | succ n ih =>
    unfold State.beginReel
    dsimp only
    have k := State.takeCues_kept (State.beginReel n h) ih s h (s.footage h)
    split
    · exact Kept.ite (k.trans (State.reelTail_kept _ _)) k
    · exact k

theorem State.testReel_kept (s : State) (h : HouseId) : Kept s (s.testReel h) := State.beginReel_kept _ h s

theorem State.testFootage_kept (s : State) (h : HouseId) : Kept s (s.testFootage h) :=
  State.takeCues_kept _ (fun t => t.testReel_kept h) s h _

theorem State.picture_kept (s : State) (h : HouseId) (i : StationId) : Kept s (s.picture h i) :=
  (((s.takeScreen_kept i).trans (State.action_kept _ h _)).trans (State.modHouse_kept _ h _)).trans
    (State.testReel_kept _ h)

theorem State.leaderTest_kept (s : State) (h : HouseId) (i : StationId) : Kept s (s.leaderTest h i) := by
  unfold State.leaderTest
  split
  · exact Kept.ite (s.picture_kept h i) (Kept.refl s)
  · exact Kept.refl s

theorem State.leaderStep_kept (s : State) (h : HouseId) (i : StationId) : Kept s (s.leaderStep h i) :=
  (s.modHouse_kept h _).trans (State.leaderTest_kept _ h i)

theorem State.runUpStep_kept (s : State) (h : HouseId) (i : StationId) : Kept s (s.runUpStep h i) := by
  unfold State.runUpStep
  dsimp only
  split
  · exact ((s.modHouse_kept h _).trans (State.action_kept _ h _)).trans (State.enterFault_kept _ _ _ _)
  · have k := (s.modHouse_kept h fun hs => { hs with step := some .runUp, lampWait := false }).trans
      (State.startMotorThen_kept _ i (fun v => v.action h ((s.house h).queue.head?.bind (·.ms)))
        fun t => t.action_kept h _)
    exact Kept.ite (k.trans (State.leaderStep_kept _ h i)) k

theorem State.lampWaitStep_kept (s : State) (h : HouseId) (i : StationId) : Kept s (s.lampWaitStep h i) := by
  unfold State.lampWaitStep
  split
  · exact s.runUpStep_kept h i
  · exact ⟨rfl, rfl, rfl⟩
  · exact ⟨rfl, rfl, rfl⟩
  · exact ⟨rfl, rfl, rfl⟩
  · have k := s.requestStrike_kept i
    split
    · rename_i t e; rw [e] at k; exact k.trans ⟨rfl, rfl, rfl⟩
    · rename_i t c e; rw [e] at k; exact k.trans (State.enterFault_kept _ _ _ _)
  · exact s.enterFault_kept _ _ _
  · exact s.enterFault_kept _ _ _

theorem State.startSequence_kept (s : State) (h : HouseId) (i : StationId) : Kept s (s.startSequence h i) :=
  (s.modHouse_kept h _).trans (State.lampWaitStep_kept _ h i)

theorem State.eventStart_kept (s : State) (h : HouseId) : Kept s (s.eventStart h) := by
  unfold State.eventStart
  split
  · split
    · exact s.startSequence_kept h _
    · exact s.enterFault_kept _ _ _
    · exact Kept.refl s
  · exact Kept.refl s

theorem State.engineLamp_kept (s : State) (i : StationId) : Kept s (s.engineLamp i) := by
  unfold State.engineLamp
  dsimp only
  split <;> first
    | exact Kept.refl s
    | exact Kept.ite (s.runUpStep_kept _ i) (Kept.refl s)
    | exact Kept.ite (s.enterFault_kept _ _ _) (Kept.refl s)

theorem State.engineAtSpeed_kept (s : State) (i : StationId) : Kept s (s.engineAtSpeed i) :=
  Kept.ite (s.leaderStep_kept _ i) (Kept.refl s)

theorem State.engineSlow_kept (s : State) (i : StationId) : Kept s (s.engineSlow i) :=
  Kept.ite (s.enterFault_kept _ _ _) (Kept.refl s)

end Sys2Proof.Machine
end

