-- ==== Sys2Proof/Laws/Operations.lean ====
section
/-!
SUPPORT. What each shared operation does, said once, for later proofs to cite in place of its definition: the motor, douser
and shutter operations, changes of lamp state, the arbiter, the fades, the capture, entry to FAULT and SUSPENDED, and what
becomes of a console line.
-/

namespace Sys2Proof.Machine

/-! ### Motors, dousers and shutters -/

theorem Station.stopMotor_eq (st : Station) : st.stopMotor = st.stopped := by
  unfold Station.stopMotor Station.stopped
  cases st.motor <;> rfl

theorem State.station_stopMotor (s : State) (i j : StationId) :
    (s.stopMotor i).station j = if j = i then (s.station i).stopped else s.station j := by
  simp [State.stopMotor, State.station_modStation, Station.stopMotor_eq]

theorem State.darken_eq (s : State) (i : StationId) :
    s.darken i = s.modStation i fun st => { st with demandOpen := false, csOpen := false } := by
  cases i <;> rfl

theorem State.openShutter_eq (s : State) (i : StationId) :
    s.openShutter i = if s.tripped i then s else s.modStation i fun st => { st with csOpen := true } := rfl

/-- Darkening a list of stations closes the demand and the shutter of each and changes nothing else. -/
theorem State.darkenAll (l : List StationId) (s : State) :
    (s.forStations l fun i t => t.darken i).houses = s.houses ∧
    (s.forStations l fun i t => t.darken i).arbiter = s.arbiter ∧
    (s.forStations l fun i t => t.darken i).clock = s.clock ∧
    (s.forStations l fun i t => t.darken i).fire = s.fire ∧
    (s.forStations l fun i t => t.darken i).line = s.line ∧
    (s.forStations l fun i t => t.darken i).straps = s.straps ∧
    (s.forStations l fun i t => t.darken i).draws = s.draws ∧
    (s.forStations l fun i t => t.darken i).pending = s.pending ∧
    ∀ j, (s.forStations l fun i t => t.darken i).station j =
      if j ∈ l then { s.station j with demandOpen := false, csOpen := false } else s.station j := by
  induction l generalizing s with
  | nil => exact ⟨rfl, rfl, rfl, rfl, rfl, rfl, rfl, rfl, fun _ => by simp [State.forStations]⟩
  | cons i l ih =>
    have e : (s.forStations (i :: l) fun i t => t.darken i) =
        (s.darken i).forStations l fun i t => t.darken i := rfl
    rw [e]
    obtain ⟨h1, h2, h3, h4, h5, h6, h7, h8, h9⟩ := ih (s.darken i)
    refine ⟨h1, h2, h3, h4, h5, h6, h7, h8, fun j => ?_⟩
    rw [h9 j, State.darken_eq, State.station_modStation]
    by_cases hj : j = i
    · subst hj; by_cases hl : j ∈ l <;> simp [hl]
    · by_cases hl : j ∈ l <;> simp [hj, hl]

theorem State.mem_stationsOf (s : State) (h : HouseId) (j : StationId) :
    j ∈ s.stationsOf h ↔ (s.station j).house = h := by
  simp [State.stationsOf, StationId.mem_all]

/-- The demands and shutters of one house's stations are closed (R60, R63, R66), and nothing else changes. -/
theorem State.station_darkenHouse (s : State) (h : HouseId) (j : StationId) :
    (s.darkenHouse h).station j =
      if (s.station j).house = h then { s.station j with demandOpen := false, csOpen := false } else s.station j := by
  have := (s.darkenAll (s.stationsOf h)).2.2.2.2.2.2.2.2 j
  simpa only [State.darkenHouse, State.mem_stationsOf] using this

/-! ### Fades -/

/-- A fade start is the fade that claims speak of, for values in range (R140). -/
theorem Light.fadeStart_eq (l : Light) {level time : Nat} (hl : level ≤ 1000) (ht : time ≤ 60000) :
    l.fadeStart level time = l.faded level time := by
  unfold Light.fadeStart Light.faded ceilDiv
  rw [Nat.min_eq_left hl, Nat.min_eq_left ht]
  by_cases h : time = 0
  · subst h; simp
  · have : (time + 100 - 1) / 100 ≠ 0 := by omega
    simp only [h, this, if_false]
    rfl

/-- A fade start leaves the layers, and keeps the channel within per-mille and 600 updates (R139, R140). -/
theorem Light.fadeStart_bounds (l : Light) (level time : Nat) (hl : l.level ≤ 1000) :
    (l.fadeStart level time).level ≤ 1000 ∧ (l.fadeStart level time).target ≤ 1000 ∧
      (l.fadeStart level time).remaining ≤ 600 ∧
      (l.fadeStart level time).timer = decide (0 < (l.fadeStart level time).remaining) ∧
      (l.fadeStart level time).fire = l.fire ∧ (l.fadeStart level time).panic = l.panic := by
  unfold Light.fadeStart ceilDiv
  by_cases h : (min time 60000 + 100 - 1) / 100 = 0
  · rw [if_pos h]
    exact ⟨by simp, by simp, by simp, by simp, rfl, rfl⟩
  · rw [if_neg h]
    refine ⟨hl, Nat.min_le_right _ _, ?_, ?_, rfl, rfl⟩
    · show (min time 60000 + 100 - 1) / 100 ≤ 600
      omega
    simpa using Nat.pos_of_ne_zero h

/-! ### Lamps and the arbiter -/

/-- The station whose lamp changes state, and no other (R105). -/
theorem State.station_setLamp (s : State) (i j : StationId) (new : LampState) (cls : Option StrikeClass) :
    (s.setLamp i new cls).station j =
      if j = i then
        { s.station i with
            lamp := (s.station i).lamp.enter new cls
            channel := (s.station i).channel.enter (s.station i).lamp.state new
            carbon := (s.station i).carbon.enter (s.station i).lamp.state new }
      else s.station j := by
  unfold State.setLamp
  dsimp only
  split <;> simp only [State.latch, State.station, State.modStation, PerStation.get_set]

/-- Nothing beyond the station, the arbiter and, at an entry to LOCKOUT, the line unit changes (R105). -/
theorem State.setLamp_frame (s : State) (i : StationId) (new : LampState) (cls : Option StrikeClass) :
    (s.setLamp i new cls).houses = s.houses ∧ (s.setLamp i new cls).clock = s.clock ∧
      (s.setLamp i new cls).fire = s.fire ∧ (s.setLamp i new cls).straps = s.straps ∧
      (s.setLamp i new cls).draws = s.draws ∧ (s.setLamp i new cls).pending = s.pending ∧
      (s.setLamp i new cls).arbiter = s.arbiter.lampMoved i (s.station i).lamp.state new ∧
      (s.setLamp i new cls).line =
        (if new = .lockout ∧ (s.station i).lamp.state ≠ .lockout then s.line.warned (.lockout i) else s.line) := by
  unfold State.setLamp
  by_cases h : new = .lockout ∧ (s.station i).lamp.state ≠ .lockout
  · obtain ⟨rfl, h⟩ := h
    simp [h, State.modStation, State.latch, LineUnit.warned]
  · have h' : ¬(new = .lockout && (s.station i).lamp.state != .lockout) = true := by simpa using h
    simp only [h', if_false, h]
    exact ⟨rfl, rfl, rfl, rfl, rfl, rfl, rfl, rfl⟩

/-- The strike queue, the grant and the supply when a lamp goes COLD (R108, R114, R118). -/
theorem Arbiter.lampMoved_cold (a : Arbiter) (i : StationId) (was : LampState) :
    a.lampMoved i was .cold = a.without i was := by
  cases was <;> rfl

/-- An extinguish (R118): the station's lamp, channel and carbon as `Station.extinguished` gives them, the arbiter as
`Arbiter.without` gives it, and nothing else. -/
theorem State.station_extinguish (s : State) (i j : StationId) :
    (s.extinguish i).station j = if j = i then (s.station i).extinguished else s.station j := by
  unfold State.extinguish
  by_cases hj : j = i
  · subst hj
    cases hs : (s.station j).lamp.state <;>
      simp [hs, State.station_setLamp, Station.extinguished, LampState.out, Lamp.enter, Channel.enter,
        Carbon.enter, LampState.sampled]
  · cases hs : (s.station i).lamp.state <;> simp [State.station_setLamp, hj]

theorem State.extinguish_frame (s : State) (i : StationId) :
    (s.extinguish i).arbiter = s.arbiter.without i (s.station i).lamp.state ∧ (s.extinguish i).houses = s.houses ∧
      (s.extinguish i).clock = s.clock ∧ (s.extinguish i).fire = s.fire ∧ (s.extinguish i).line = s.line ∧
      (s.extinguish i).straps = s.straps ∧ (s.extinguish i).draws = s.draws ∧
      (s.extinguish i).pending = s.pending := by
  unfold State.extinguish
  cases hs : (s.station i).lamp.state <;> first | exact ⟨rfl, rfl, rfl, rfl, rfl, rfl, rfl, rfl⟩ | skip
  all_goals
    obtain ⟨h1, h2, h3, h4, h5, h6, h7, h8⟩ := s.setLamp_frame i .cold none
    rw [hs, Arbiter.lampMoved_cold] at h7
    exact ⟨h7, h1, h2, h3, by simpa using h8, h4, h5, h6⟩

theorem chooseLamp_mem {mode : OrderMode} {order queue : List StationId} {urgent : StationId → Bool} {k : StationId}
    (h : chooseLamp mode order queue urgent = some k) : k ∈ queue := by
  unfold chooseLamp at h
  dsimp only at h
  split at h
  · rename_i k' hk
    have := List.find?_some hk
    simp only [Bool.and_eq_true, List.contains_iff_mem] at this
    cases h; exact this.1
  · simpa using List.find?_some h

/-- A test for a grant leaves the state as it is, or grants a lamp of the queue while the supply is FREE (R109). -/
theorem State.testGrant_cases (s : State) :
    s.testGrant = s ∨ ∃ k ∈ s.arbiter.queue, s.arbiter.supply = .free ∧ s.arbiter.recharge = false ∧
      chooseLamp s.arbiter.mode s.arbiter.order s.arbiter.queue s.urgent = some k ∧ s.testGrant = s.grantTo k := by
  unfold State.testGrant
  split
  · rename_i h
    simp only [Bool.and_eq_true, decide_eq_true_eq, Bool.not_eq_true'] at h
    split
    · rename_i k hk
      exact .inr ⟨k, chooseLamp_mem hk, h.1, h.2, hk, rfl⟩
    · exact .inl rfl
  · exact .inl rfl

theorem rotateAfter_eq (k : StationId) : rotateAfter k = StationId.all.rotateLeft k.number := by
  cases k <;> decide

/-! ### The capture -/

theorem Fire.captureTrip_eq (f : Fire) (fields : CaptureFields) : f.captureTrip fields = f.afterTrip fields := by
  unfold Fire.captureTrip Fire.afterTrip
  cases f.capture with
  | empty => rfl
  | read _ => rfl
  | locked _ =>
    have h : min (f.further + 1) 255 = if f.further < 255 then f.further + 1 else 255 := by split <;> omega
    cases fields with
    | mk cause _ _ _ _ _ _ => cases cause <;> simp [TripFlags.set, h]

/-! ### Entry to FAULT -/

/-- What entry to FAULT makes of its house (R63). -/
theorem State.house_enterFault (s : State) (h k : HouseId) (cause : FaultCause) (i : Option StationId) :
    (s.enterFault h cause i).house k =
      if k = h then
        { s.house h with
            engine := .fault, step := none, lampWait := false, regime := none, reel := Reel.clear
            light := (s.house h).light.fadeStart (s.house h).settings.level (s.house h).settings.fade
            fault := some ((s.house h).fault.getD (s.faultRecord h cause i))
            queue := stopPlaying (s.house h).queue }
      else s.house k := by
  have hd : (s.darkenHouse h).houses = s.houses := (s.darkenAll (s.stationsOf h)).1
  have hl : ∀ (l : List StationId) (t : State), (t.forStations l fun j t => t.stopMotor j).houses = t.houses :=
    fun l t => State.forStations_keeps (fun u => u.houses = t.houses) (fun j t => t.stopMotor j) (fun _ u hu => hu) l t rfl
  unfold State.enterFault
  dsimp only
  generalize (StationId.all.filter fun j => (s.station j).house = h && s.engaged j) = l
  have h0 : ((s.darkenHouse h).forStations l fun j t => t.stopMotor j).houses = s.houses := (hl l _).trans hd
  generalize ((s.darkenHouse h).forStations l fun j t => t.stopMotor j) = u at h0
  have hu : ∀ k, u.house k = s.house k := fun k => by simp [State.house, h0]
  rw [State.house_modHouse]
  unfold State.latchFault State.holdFade State.fade State.modLight
  by_cases hk : k = h
  · subst hk
    cases hf : (s.house k).fault <;> simp [hf, hu]
  · simp only [hk, if_false]
    split <;> simp [State.house_modHouse_other _ _ hk, hu]

/-! ### Console transmit -/

theorem evenParity_even (data : List Bool) :
    (data.count true + if evenParity data then 1 else 0) % 2 = 0 := by
  unfold evenParity
  by_cases h : data.count true % 2 = 1 <;> simp [h] <;> omega

/-- A transmitted character (R168): one start bit, the character's seven or eight low bits, a parity bit that makes the
ones even in 7-BIT EVEN and none in 8-BIT NONE, and two stop bits at 110 baud and one otherwise. -/
theorem LineUnit.frame_spec (l : LineUnit) (c : Char) :
    (l.frame c).startBits = 1 ∧ (l.frame c).data = (List.range l.format.dataBits).map c.toNat.testBit ∧
      (l.format = .none8 → (l.frame c).parity = none) ∧
      (l.format = .even7 → (l.frame c).parity = some (evenParity (l.frame c).data)) ∧
      (l.frame c).stopBits = (if l.speed = .baud110 then 2 else 1) := by
  refine ⟨rfl, rfl, ?_, ?_, ?_⟩
  · intro h; simp [LineUnit.frame, h]
  · intro h; simp [LineUnit.frame, h]
  · cases h : l.speed <;> simp [LineUnit.frame, Speed.stopBits, h]

@[simp] theorem State.outputs_transmit (s : State) : s.outputs.transmit = s.line.tx.map s.line.frame := rfl

/-! ### Console lines -/

@[simp] theorem done_eq (s : State) : done s = .next s.settle := rfl

/-- A console row while the line unit is free: the owning block answers and the reply is started (R169, R172). -/
theorem consoleRow_free (i : Instr) (a : Answer) (s : State) (h : LineFree s) :
    consoleRow i a s = .next ((a s).1.startReply s.line.echoCr (a s).2).settle := by
  unfold consoleRow
  simp [h.1, h.2]

/-- A console row while a line waits: one more refusal is owed, up to 255 (R170). -/
theorem consoleRow_waiting (i : Instr) (a : Answer) (s : State) (h : s.line.waiting.isSome = true) :
    consoleRow i a s =
      .next ({ s with line := { s.line with owed := min (s.line.owed + 1) 255 } } : State).settle := by
  unfold consoleRow
  simp [h]

/-- A console row while a reply is sent and no line waits: it becomes the waiting line (R169). -/
theorem consoleRow_sending (i : Instr) (a : Answer) (s : State) (hw : s.line.waiting = none)
    (h : s.line.transmit = .sending) :
    consoleRow i a s = .next ({ s with line := { s.line with
      waiting := some { text := encodeLine i, marks := Marks.clear } } } : State).settle := by
  unfold consoleRow
  simp [hw, h]

/-- A line whose checks all pass acts; one whose checks fail is refused by the first that does (R174). -/
theorem checked_eq (l : List (Bool × ErrorCode)) (act : Answer) (s : State) :
    checked l act s = match firstRefusal l with
      | some c => (s, .no c)
      | none => act s := rfl

@[simp] theorem onStation_number (i : StationId) (a : StationId → Answer) (s : State) :
    onStation i.number a s = a i s := by simp [onStation]

@[simp] theorem onHouse_number (h : HouseId) (a : HouseId → Answer) (s : State) :
    onHouse h.number a s = a h s := by simp [onHouse]

/-! ### Choices the manual leaves open -/

theorem pickOrder_perm {α : Type} (n c : Nat) (l : List α) : (pickOrder n c l).Perm l := by
  induction n generalizing c l with
  | zero => exact List.Perm.refl l
  | succ n ih =>
    unfold pickOrder
    split
    · rename_i x rest h
      refine (List.Perm.cons x (ih _ _)).trans ?_
      have hlt : c % l.length < l.length := by
        rcases Nat.lt_or_ge (c % l.length) l.length with hh | hh
        · exact hh
        · rw [List.drop_eq_nil_of_le hh] at h; cases h
      have hx : l[c % l.length] = x := by
        rw [List.drop_eq_getElem_cons hlt] at h
        exact (List.cons.inj h).1
      rw [← hx]
      exact List.getElem_cons_eraseIdx_perm hlt
    · exact List.Perm.refl l

/-- Whatever order is chosen, the same things come, each once, and only the count of choices moves (log 9). -/
theorem State.freeOrder_spec {α : Type} (s : State) (l : List α) :
    (s.freeOrder l).1.Perm l ∧ ((s.freeOrder l).2 = s ∨ (s.freeOrder l).2 = { s with draws := s.draws + 1 }) := by
  unfold State.freeOrder
  split
  · exact ⟨List.Perm.refl l, .inl rfl⟩
  · exact ⟨pickOrder_perm _ _ _, .inr rfl⟩

end Sys2Proof.Machine
end

