-- ==== Sys2Proof/Laws/PerInstr.lean ====
section
/-!
SUPPORT. The family of statements made per command: `LineForm`, by which a command is a console line exactly when it has
words to be spelled with, and an event carries nothing that could be ill formed.
-/

namespace Sys2Proof.Laws

/-- A command has words exactly when it is a console line, and an event is always well formed. -/
def LineForm.Statement (i : Instr) : Prop :=
  (i.words = [] ↔ i.isConsole = false) ∧ (i.isConsole = false → i.wellFormed = true)

theorem LineForm.ofEvent {i : Instr} (w : i.words = []) (c : i.isConsole = false) (f : i.wellFormed = true) :
    LineForm.Statement i := ⟨iff_of_true w c, fun _ => f⟩

theorem LineForm.ofLine {i : Instr} {x : Text} {xs : List Text} (w : i.words = x :: xs) (c : i.isConsole = true) :
    LineForm.Statement i :=
  ⟨iff_of_false (fun h => by rw [w] at h; cases h) (fun h => by rw [c] at h; cases h), fun h => by rw [c] at h; cases h⟩

theorem LineForm.powerOn (straps : Straps) :
    LineForm.Statement (.powerOn straps) := LineForm.ofEvent rfl rfl rfl

theorem LineForm.tachPulse (s : StationId) (dir : Direction) (interval : Nat) :
    LineForm.Statement (.tachPulse s dir interval) := LineForm.ofEvent rfl rfl rfl

theorem LineForm.runUpLimit (s : StationId) :
    LineForm.Statement (.runUpLimit s) := LineForm.ofEvent rfl rfl rfl

theorem LineForm.stall (s : StationId) :
    LineForm.Statement (.stall s) := LineForm.ofEvent rfl rfl rfl

theorem LineForm.stopTimer (s : StationId) :
    LineForm.Statement (.stopTimer s) := LineForm.ofEvent rfl rfl rfl

theorem LineForm.resetHoldEnd (s : StationId) (straps : TrimStraps) :
    LineForm.Statement (.resetHoldEnd s straps) := LineForm.ofEvent rfl rfl rfl

theorem LineForm.ldQualified (s : StationId) (c : Contact) :
    LineForm.Statement (.ldQualified s c) := LineForm.ofEvent rfl rfl rfl

theorem LineForm.mdQualified (s : StationId) (c : Contact) :
    LineForm.Statement (.mdQualified s c) := LineForm.ofEvent rfl rfl rfl

theorem LineForm.cuClosing (s : StationId) :
    LineForm.Statement (.cuClosing s) := LineForm.ofEvent rfl rfl rfl

theorem LineForm.cbClosing (h : HouseId) :
    LineForm.Statement (.cbClosing h) := LineForm.ofEvent rfl rfl rfl

theorem LineForm.pdChange (h : HouseId) (c : Contact) :
    LineForm.Statement (.pdChange h c) := LineForm.ofEvent rfl rfl rfl

theorem LineForm.ghOpen (s : StationId) :
    LineForm.Statement (.ghOpen s) := LineForm.ofEvent rfl rfl rfl

theorem LineForm.ltOpen (s : StationId) :
    LineForm.Statement (.ltOpen s) := LineForm.ofEvent rfl rfl rfl

theorem LineForm.fbOpen (s : StationId) :
    LineForm.Statement (.fbOpen s) := LineForm.ofEvent rfl rfl rfl

theorem LineForm.boothTripInput (b : BoothInput) :
    LineForm.Statement (.boothTripInput b) := LineForm.ofEvent rfl rfl rfl

theorem LineForm.releasePulseEnd (h : HouseId) :
    LineForm.Statement (.releasePulseEnd h) := LineForm.ofEvent rfl rfl rfl

theorem LineForm.mainsCycle :
    LineForm.Statement (.mainsCycle) := LineForm.ofEvent rfl rfl rfl

theorem LineForm.clockSecond :
    LineForm.Statement (.clockSecond) := LineForm.ofEvent rfl rfl rfl

theorem LineForm.lampWaitTimeout (h : HouseId) :
    LineForm.Statement (.lampWaitTimeout h) := LineForm.ofEvent rfl rfl rfl

theorem LineForm.strikePulseEnd (s : StationId) :
    LineForm.Statement (.strikePulseEnd s) := LineForm.ofEvent rfl rfl rfl

theorem LineForm.rechargeEnd :
    LineForm.Statement (.rechargeEnd) := LineForm.ofEvent rfl rfl rfl

theorem LineForm.regulationSample (s : StationId) (volts amps : Conversions) :
    LineForm.Statement (.regulationSample s volts amps) := LineForm.ofEvent rfl rfl rfl

theorem LineForm.jogStep (s : StationId) :
    LineForm.Statement (.jogStep s) := LineForm.ofEvent rfl rfl rfl

theorem LineForm.bucketClose (s : StationId) :
    LineForm.Statement (.bucketClose s) := LineForm.ofEvent rfl rfl rfl

theorem LineForm.fadeUpdate (h : HouseId) :
    LineForm.Statement (.fadeUpdate h) := LineForm.ofEvent rfl rfl rfl

theorem LineForm.characterReceived (frame : BitVec 8) (stop : Bool) :
    LineForm.Statement (.characterReceived frame stop) := LineForm.ofEvent rfl rfl rfl

theorem LineForm.characterTimeout :
    LineForm.Statement (.characterTimeout) := LineForm.ofEvent rfl rfl rfl

theorem LineForm.replyEnd :
    LineForm.Statement (.replyEnd) := LineForm.ofEvent rfl rfl rfl

theorem LineForm.sq (s : Int) :
    LineForm.Statement (.sq s) := LineForm.ofLine rfl rfl

theorem LineForm.mo (s : Int) (on : Bool) :
    LineForm.Statement (.mo s on) := LineForm.ofLine rfl rfl

theorem LineForm.doDouser (s : Int) (toOpen : Bool) :
    LineForm.Statement (.doDouser s toOpen) := LineForm.ofLine rfl rfl

theorem LineForm.im (s : Int) (door : Door) (mode : DoorMode) :
    LineForm.Statement (.im s door mode) := LineForm.ofLine rfl rfl

theorem LineForm.sr (s : Int) :
    LineForm.Statement (.sr s) := LineForm.ofLine rfl rfl

theorem LineForm.sa (s h : Int) :
    LineForm.Statement (.sa s h) := LineForm.ofLine rfl rfl

theorem LineForm.pa (h : Int) (e : EntryArgs) :
    LineForm.Statement (.pa h e) := LineForm.ofLine rfl rfl

theorem LineForm.pi (h n : Int) (e : EntryArgs) :
    LineForm.Statement (.pi h n e) := LineForm.ofLine rfl rfl

theorem LineForm.pd (h n : Int) :
    LineForm.Statement (.pd h n) := LineForm.ofLine rfl rfl

theorem LineForm.pc (h : Int) :
    LineForm.Statement (.pc h) := LineForm.ofLine rfl rfl

theorem LineForm.pq (h n : Int) :
    LineForm.Statement (.pq h n) := LineForm.ofLine rfl rfl

theorem LineForm.th (s n : Int) :
    LineForm.Statement (.th s n) := LineForm.ofLine rfl rfl

theorem LineForm.ut (s : Int) :
    LineForm.Statement (.ut s) := LineForm.ofLine rfl rfl

theorem LineForm.go (h : Int) :
    LineForm.Statement (.go h) := LineForm.ofLine rfl rfl

theorem LineForm.en (h : Int) :
    LineForm.Statement (.en h) := LineForm.ofLine rfl rfl

theorem LineForm.co (h : Int) :
    LineForm.Statement (.co h) := LineForm.ofLine rfl rfl

theorem LineForm.hq (h : Int) :
    LineForm.Statement (.hq h) := LineForm.ofLine rfl rfl

theorem LineForm.hf (h : Int) :
    LineForm.Statement (.hf h) := LineForm.ofLine rfl rfl

theorem LineForm.ha (h : Int) :
    LineForm.Statement (.ha h) := LineForm.ofLine rfl rfl

theorem LineForm.hs (h : Int) (arg : Option SettingArg) :
    LineForm.Statement (.hs h arg) := by
  cases arg <;> exact LineForm.ofLine rfl rfl

theorem LineForm.ck (hh mm : Int) (ss : Option Int) :
    LineForm.Statement (.ck hh mm ss) := by
  cases ss <;> exact LineForm.ofLine rfl rfl

theorem LineForm.cq :
    LineForm.Statement (.cq) := LineForm.ofLine rfl rfl

theorem LineForm.atAlarm (h : Int) (arg : AlarmArg) :
    LineForm.Statement (.atAlarm h arg) := by
  cases arg <;> exact LineForm.ofLine rfl rfl

theorem LineForm.ls (s : Int) :
    LineForm.Statement (.ls s) := LineForm.ofLine rfl rfl

theorem LineForm.lx (s : Int) :
    LineForm.Statement (.lx s) := LineForm.ofLine rfl rfl

theorem LineForm.lc (s length : Int) :
    LineForm.Statement (.lc s length) := LineForm.ofLine rfl rfl

theorem LineForm.lf (s n : Int) :
    LineForm.Statement (.lf s n) := LineForm.ofLine rfl rfl

theorem LineForm.lp (s : Int) (arg : ParamArg) :
    LineForm.Statement (.lp s arg) := LineForm.ofLine rfl rfl

theorem LineForm.lq (s : Int) :
    LineForm.Statement (.lq s) := LineForm.ofLine rfl rfl

theorem LineForm.sp (mode : Option OrderMode) :
    LineForm.Statement (.sp mode) := by
  cases mode <;> exact LineForm.ofLine rfl rfl

theorem LineForm.lv (h : Int) (arg : LightArg) :
    LineForm.Statement (.lv h arg) := by
  cases arg <;> exact LineForm.ofLine rfl rfl

theorem LineForm.lr (h : Int) :
    LineForm.Statement (.lr h) := LineForm.ofLine rfl rfl

theorem LineForm.pu :
    LineForm.Statement (.pu) := LineForm.ofLine rfl rfl

theorem LineForm.fq :
    LineForm.Statement (.fq) := LineForm.ofLine rfl rfl

theorem LineForm.fc :
    LineForm.Statement (.fc) := LineForm.ofLine rfl rfl

theorem LineForm.ft :
    LineForm.Statement (.ft) := LineForm.ofLine rfl rfl

theorem LineForm.ss :
    LineForm.Statement (.ss) := LineForm.ofLine rfl rfl

theorem LineForm.ak :
    LineForm.Statement (.ak) := LineForm.ofLine rfl rfl

theorem LineForm.rs :
    LineForm.Statement (.rs) := LineForm.ofLine rfl rfl

theorem LineForm.tripInputQualifiedClosed (input : TripInput) :
    LineForm.Statement (.tripInputQualifiedClosed input) := LineForm.ofEvent rfl rfl rfl

end Sys2Proof.Laws
end

