-- ==== Sys2Proof/Tests/Slice0.lean ====
section
/-!
SUPPORT. The model's own tests: the static checks refuse what a source cannot send, console lines written out as the
manual spells them, single steps of the manual's worked cases, and for each statement with hypotheses a state and operands
that meet them. The numbers expected come from spec/, the rule or the worked case named beside each test.
-/

namespace Sys2Proof.Tests

open Sys2Proof Sys2Proof.Machine

/-! ### Static checks (R25, R173, R181) -/

def plainEntry (label : Text) (fields : List EntryField) : EntryArgs := ⟨label, 28800, fields⟩

theorem test_wf_station_of_seven_digits : (Instr.sq 1000000).wellFormed = false := by decide
theorem test_wf_second_number_of_seven_digits : (Instr.lc 1 (-1000000)).wellFormed = false := by decide
theorem test_wf_label_empty : (Instr.pa 1 (plainEntry [] [])).wellFormed = false := by decide
theorem test_wf_label_of_seven : (Instr.pa 1 (plainEntry "ABCDEFG".toList [])).wellFormed = false := by decide
theorem test_wf_label_lower_case : (Instr.pi 1 2 (plainEntry ['a'] [])).wellFormed = false := by decide
theorem test_wf_field_given_twice : (Instr.pa 1 (plainEntry ['A'] [.stop true, .stop false])).wellFormed = false := by
  decide
theorem test_wf_field_number : (Instr.pa 1 (plainEntry ['A'] [.ms 5 1000000])).wellFormed = false := by decide
theorem test_wf_entry_length : (Instr.pa 1 ⟨['A'], 1000000, []⟩).wellFormed = false := by decide
theorem test_wf_setting : (Instr.hs 1 (some (.lead 1000000))).wellFormed = false := by decide
theorem test_wf_alarm : (Instr.atAlarm 1 (.arm 0 1000000)).wellFormed = false := by decide
theorem test_wf_parameter : (Instr.lp 1 (.thr 1000000)).wellFormed = false := by decide
theorem test_wf_light : (Instr.lv 1 (.fade 1 1000000)).wellFormed = false := by decide
theorem test_wf_clock : (Instr.ck 1 2 (some 1000000)).wellFormed = false := by decide
theorem test_wf_events : (Instr.tachPulse .s1 .forward 9999999).wellFormed = true := by decide

/-! ### Console lines (R173, R181) -/

theorem test_no_word_spells_a_command : decodeTableWord 8 0 = none := by decide
theorem test_line_go : parseLine "GO 1".toList = some (.go 1) := by decide
theorem test_line_spaces : parseLine "  MO  3 ON ".toList = some (.mo 3 true) := by decide
theorem test_line_im : parseLine "IM 5 MD ADVISORY".toList = some (.im 5 .md .advisory) := by decide
theorem test_line_entry : parseLine "PA 3 C2 30000 CHANGE 30050 EN 1000 5000".toList =
    some (.pa 3 ⟨"C2".toList, 30000, [.change 30050, .en 1000 5000]⟩) := by decide
theorem test_line_insert : parseLine "PI 1 2 A2B 12000".toList = some (.pi 1 2 ⟨"A2B".toList, 12000, []⟩) := by decide
theorem test_line_setting : parseLine "HS 2 RESTRIKE OFF".toList = some (.hs 2 (some (.restrike false))) := by decide
theorem test_line_clock : parseLine "CK 19 20".toList = some (.ck 19 20 none) := by decide
theorem test_line_alarm_off : parseLine "AT 1 OFF".toList = some (.atAlarm 1 .off) := by decide
theorem test_line_parameter : parseLine "LP 2 THR 5000".toList = some (.lp 2 (.thr 5000)) := by decide
theorem test_line_light : parseLine "LV 1 500 4000".toList = some (.lv 1 (.fade 500 4000)) := by decide
theorem test_line_minus : parseLine "LC 2 -5".toList = some (.lc 2 (-5)) := by decide
theorem test_line_lower_case_refused : parseLine "go 1".toList = none := by decide
theorem test_line_seven_digits_refused : parseLine "SQ 1000000".toList = none := by decide
theorem test_line_further_word_refused : parseLine "FQ 1".toList = none := by decide
theorem test_line_field_twice_refused : parseLine "PA 3 123 400 STOP ON STOP OFF".toList = none := by decide
theorem test_line_spelled_back : encodeLine (.lp 2 (.mode .burst)) = "LP 2 MODE BURST".toList := by decide

/-! ### States and replies -/

/-- The state that a command answers with. -/
def run (c : Instr) (s : State) : State :=
  match exec c s with
  | .next t => t
  | .fault _ | .refused _ => s

/-- What console transmit sends for a command, without the CR and LF at its end. -/
def reply (c : Instr) (s : State) : Text := (run c s).line.tx.dropLast.dropLast

/-- The machine after reset, with the echo off. -/
def quiet : State := { State.reset with line := { State.reset.line with echo := false } }

def Station.burning (rp credit : Nat) (st : Station) : Station :=
  { st with
      lamp := { st.lamp with state := .burn }
      channel := { st.channel with sampleTimer := true, status := .live, credit := credit }
      carbon := { st.carbon with rp := rp, openBucket := some 0, bucketTimer := true } }

def Station.coldLamp (rp : Nat) (st : Station) : Station :=
  { st with lamp := { st.lamp with state := .cold }, carbon := { st.carbon with rp := rp } }

def Station.atSpeed (counter : Nat) (st : Station) : Station :=
  { st with motor := .atSpeed, stallTimer := true, counter := counter, counterMode := .forward }

def Station.runningUp (counter : Nat) (st : Station) : Station :=
  { st with motor := .runUp, runUpTimer := true, counter := counter, counterMode := .forward }

def Station.classM (st : Station) : Station :=
  { st with trim := some .m
            channel := { st.channel with params := some { vset := 100, dead := 2, gain := 4, thr := 256, mode := .step } } }

def Station.classS (st : Station) : Station :=
  { st with trim := some .s
            channel := { st.channel with params := some { vset := 84, dead := 2, gain := 4, thr := 256, mode := .step } } }

/-- Reel A1 of the worked case of chapter 2: length 28 800, change frame 28 780, motor cue 28 588. -/
def reelA1 (status : EntryStatus) (bound : Option StationId) : Entry :=
  { label := "A1".toList, length := 28800, first := 192, change := 28780, motor := 28588, cue := .footage, stop := false
    ms := none, pi := none, en := none, status := status, bound := bound }

/-- Reel A2: length 30 000. -/
def reelA2 (status : EntryStatus) (bound : Option StationId) : Entry :=
  { label := "A2".toList, length := 30000, first := 192, change := 29980, motor := 29788, cue := .footage, stop := false
    ms := none, pi := none, en := none, status := status, bound := bound }

/-- House 1 with its ports up and the two reels threaded at S1 and S2: READY. -/
def ready : State :=
  (quiet.modHouse .h1 fun h =>
    { h with port := .up, engine := .ready, queue := [reelA1 .threaded (some .s1), reelA2 .threaded (some .s2)] })

/-- A show in house 1: A1 on the screen from S1 at a counter, A2 threaded at S2, whose lamp is cold. -/
def showing (engine : EngineState) (reel : Reel) (counter : Nat) : State :=
  (((ready.modHouse .h1 fun h =>
    { h with engine := engine, regime := some .changeover, reel := reel
             queue := [reelA1 .playing (some .s1), reelA2 .threaded (some .s2)] }).modStation .s1 fun st =>
      { (Station.burning 2950 0 st) with
          motor := .atSpeed, stallTimer := true, counter := counter, counterMode := .forward
          demandOpen := true, csOpen := true }).modStation .s2 fun st =>
      { (Station.coldLamp 2950 st) with counterMode := .forward })

def cuesTaken (strike motor : CueFlag) : Reel :=
  { strike := strike, motor := motor, change := .pending, marks := 0, missed := none }

/-! ### Power-on and the projector stations (chapter 1) -/

theorem test_power_on_reads_straps :
    ((run (.powerOn { Straps.reset with trim := Straps.reset.trim.set .s4 ⟨.closed, .opened⟩ }) ready).station .s4).trim
      = some .m := by decide
theorem test_power_on_empties_the_order : ((run (.powerOn Straps.reset) ready).house .h1).queue = [] := by decide

/-- R6: the twelfth interval of 46 ms makes the motor AT-SPEED; one of 47 ms sets the count to 0. -/
theorem test_twelfth_interval :
    ((run (.tachPulse .s1 .forward 46) (quiet.modStation .s1 fun st =>
      { st with motor := .runUp, runUpTimer := true, intervalOpen := true, runUpCount := 11 })).pins.stations.get .s1).fh
      = true := by decide
theorem test_long_interval :
    ((run (.tachPulse .s1 .forward 47) (quiet.modStation .s1 fun st =>
      { st with motor := .runUp, runUpTimer := true, intervalOpen := true, runUpCount := 11 })).station .s1).runUpCount
      = 0 := by decide

theorem test_run_up_limit_warns_slow :
    (run (.runUpLimit .s5) (quiet.modStation .s5 (Station.runningUp 0))).line.warnings = [.slow .s5] := by decide
theorem test_stall_trips :
    ((run (.stall .s2) (quiet.modStation .s2 (Station.atSpeed 7))).station .s2).trip = some .filmBreak := by decide
theorem test_stop_timer :
    ((run (.stopTimer .s2) (quiet.modStation .s2 fun st =>
      { st with motor := .stopping, stopTimer := true })).station .s2).motor = .stopped := by decide

/-- R1, R96: class M gives Vset 100. -/
theorem test_reset_hold_end :
    ((run (.resetHoldEnd .s3 ⟨.closed, .opened⟩) (quiet.modStation .s3 fun st =>
      { st with condition := .resetting })).station .s3).channel.params.map Params.vset = some 100 := by decide

/-- R151, R159: a station made present under a booth trip suspends its house and changes no light channel. -/
theorem test_reset_hold_end_moves_no_light :
    let s := (quiet.modStation .s3 fun st =>
      { st with condition := .resetting, trim := none, channel := Channel.initial none })
    let t := run (.resetHoldEnd .s3 ⟨.closed, .opened⟩) { s with fire := { s.fire with booth := some .alarm } }
    (t.house .h2).engine = .suspended ∧ (t.house .h2).light = (quiet.house .h2).light := by decide

theorem test_lamp_door_puts_the_lamp_out :
    ((run (.ldQualified .s6 .opened) (quiet.modStation .s6 (Station.burning 900 9))).station .s6).lamp.state = .cold := by
  decide
theorem test_machine_door_advisory_runs_on :
    ((run (.mdQualified .s6 .opened) (quiet.modStation .s6 fun st =>
      { (Station.atSpeed 5 st) with md := { contact := .closed, mode := .advisory } })).station .s6).motor = .atSpeed := by
  decide

theorem test_sq_of_reset :
    reply (.sq 1) quiet =
      ("OK S1 H H1 STOPPED 0 HOLD NONE DEM CLOSED DS CLOSED CS CLOSED FH OFF LD CLOSED ENFORCE ".toList ++
        "MD CLOSED ENFORCE TRIP NONE".toList) := by decide +kernel
theorem test_mo_on_starts_the_motor : (run (.mo 2 true) quiet).pins.stations.s2.mc = true := by decide
theorem test_mo_of_no_station : reply (.mo 7 true) quiet = "NO RG".toList := by decide
theorem test_do_open_needs_ports_up :
    reply (.doDouser 1 true) (quiet.modStation .s1 (Station.burning 900 0)) = "NO FI".toList := by decide
theorem test_do_close : ((run (.doDouser 1 false) (quiet.modStation .s1 fun st =>
    { st with demandOpen := true })).station .s1).demandOpen = false := by decide
theorem test_im_sets_a_mode : ((run (.im 5 .md .advisory) quiet).station .s5).md.mode = .advisory := by decide

/-- The worked case of chapter 1: SR 4 is taken, D1 returns to WAITING and the house to IDLE. -/
theorem test_sr :
    (run (.sr 4) (quiet.modHouse .h2 fun h =>
      { h with engine := .ready, queue := [reelA1 .threaded (some .s4)] })).house .h2
      = { (quiet.house .h2) with queue := [reelA1 .waiting none] } := by decide
theorem test_sa_third_station_refused : reply (.sa 1 2) quiet = "NO FL".toList := by decide

/-! ### The running order (chapter 2) -/

/-- The worked case of the entry fields: change frame 30 050 is taken as 29 999, the motor cue follows it. -/
theorem test_pa_change_clamped :
    reply (.pa 3 ⟨"C2".toList, 30000, [.change 30050]⟩) quiet = "OK C CHANGE 29999".toList ∧
      ((run (.pa 3 ⟨"C2".toList, 30000, [.change 30050]⟩) quiet).house .h3).queue.map (fun e => (e.change, e.motor))
        = [(29999, 29807)] := by decide
theorem test_pa_motor_clamped :
    reply (.pa 3 ⟨"C3".toList, 160, [.motor 200]⟩) quiet = "OK C MOTOR 116".toList ∧
      reply (.pa 3 ⟨"C4".toList, 159, []⟩) quiet = "NO RG".toList := by decide

/-- The worked case of the order: PI 1 2 is refused while the entry at 2 is bound. -/
theorem test_pi_before_bound_refused : reply (.pi 1 2 ⟨"A2B".toList, 12000, []⟩) ready = "NO ST".toList := by decide
theorem test_pi_at_the_tail :
    ((run (.pi 1 3 ⟨"A2B".toList, 12000, []⟩) ready).house .h1).queue.map (·.label)
      = ["A1".toList, "A2".toList, "A2B".toList] := by decide
theorem test_pd_of_bound_refused : reply (.pd 1 2) ready = "NO ST".toList := by decide
theorem test_pc_empties : ((run (.pc 1) ready).house .h1).engine = .idle := by decide
theorem test_pq_of_none : reply (.pq 1 3) ready = "NO EM".toList := by decide

/-- The worked case of the order: TH 2 2 while position 1 is not bound, and TH 1 1. -/
theorem test_th_behind_unbound_refused :
    reply (.th 2 2) (quiet.modHouse .h1 fun h => { h with queue := [reelA1 .waiting none, reelA2 .waiting none] })
      = "NO ST".toList := by decide
theorem test_th_makes_ready :
    ((run (.th 1 1) (quiet.modHouse .h1 fun h => { h with queue := [reelA1 .waiting none] })).house .h1).engine
      = .ready := by decide
theorem test_ut : ((run (.ut 1) ready).house .h1).engine = .idle := by decide

/-! ### Changeover sequencing (chapter 3) -/

theorem test_go_waits_for_the_lamp :
    ((run (.go 1) (ready.modStation .s1 (Station.coldLamp 2950))).house .h1).step = some .lampWait ∧
      ((run (.go 1) (ready.modStation .s1 (Station.coldLamp 2950))).station .s1).lamp.state = .striking := by decide
theorem test_button_starts_the_motor :
    ((run (.cbClosing .h1) (ready.modStation .s1 (Station.burning 2950 0))).station .s1).motor = .runUp := by decide

/-- The picture comes at frame 192 (R48), and the worked case of chapter 2: the strike cue at 26 428. -/
theorem test_picture :
    let s := (ready.modHouse .h1 fun h => { h with engine := .starting, step := some .leader }).modStation .s1 fun st =>
      Station.atSpeed 191 (Station.burning 2950 0 st)
    ((run (.tachPulse .s1 .forward 42) s).house .h1).engine = .playing ∧
      ((run (.tachPulse .s1 .forward 42) s).station .s1).csOpen = true := by decide
theorem test_strike_cue :
    ((run (.tachPulse .s1 .forward 42) (showing .playing Reel.clear 26427)).house .h1).engine = .preparing ∧
      ((run (.tachPulse .s1 .forward 42) (showing .playing Reel.clear 26426)).house .h1).engine = .playing := by decide

/-- A first mark at 28 570 is inside the window, which opens at 28 348 (R51). -/
theorem test_mark_in_the_window :
    ((run (.cuClosing .s1) (showing .preparing (cuesTaken .taken .pending) 28570)).house .h1).reel.marks = 1 ∧
      ((run (.cuClosing .s1) (showing .preparing (cuesTaken .taken .pending) 28347)).house .h1).reel.marks = 0 := by
  decide
theorem test_co_makes_the_change :
    let s := (showing .motorCued (cuesTaken .taken .taken) 28779).modStation .s2 fun st =>
      Station.atSpeed 191 (Station.burning 2950 0 st)
    ((run (.co 1) s).house .h1).skew = some (-1) ∧ ((run (.co 1) s).station .s2).csOpen = true ∧
      ((run (.co 1) s).station .s1).lamp.state = .cold := by decide
theorem test_co_refused : reply (.co 1) ready = "NO ST".toList := by decide
theorem test_en_ends_the_show :
    let s := run (.en 1) (showing .playing Reel.clear 1000)
    (s.house .h1).engine = .ready ∧ (s.house .h1).light.remaining = 30 ∧ (s.station .s1).motor = .stopping := by decide
theorem test_ports_down_fault :
    ((run (.pdChange .h1 .closed) (showing .playing Reel.clear 1000)).house .h1).fault.map (·.cause) = some .port := by
  decide
theorem test_lamp_wait_timeout :
    let s := (ready.modHouse .h1 fun h =>
      { h with engine := .starting, step := some .lampWait, lampWait := true })
    ((run (.lampWaitTimeout .h1) s).house .h1).fault.map (·.cause) = some .lamp := by decide
theorem test_hq :
    reply (.hq 1) (showing .playing Reel.clear 1000) =
      ("OK H1 CHANGEOVER PLAYING STEP NONE REGIME CHANGEOVER ON S1 IN S2 CUES PENDING PENDING PENDING ".toList ++
        "MARKS 0 MISSED NONE SKEW NONE HOLD NONE FAULT NONE RUN NONE".toList) := by decide +kernel

/-- The worked case of chapter 3: HA is refused LK until HF has been read. -/
def faulted : State :=
  ready.modHouse .h1 fun h =>
    { h with engine := .fault
             fault := some { cause := .lamp, station := some .s1, label := some "A1".toList, time := 3661
                             counter := some 27004, read := false } }

theorem test_hf : reply (.hf 1) faulted = "OK LAMP S1 A1 01:01:01 27004".toList := by decide
theorem test_ha_unread_refused : reply (.ha 1) faulted = "NO LK".toList := by decide
theorem test_ha_after_hf : ((run (.ha 1) { run (.hf 1) faulted with line := quiet.line }).house .h1).hold = .fault := by
  decide
theorem test_hs : reply (.hs 1 (some (.lead 5))) quiet = "OK C LEAD 10".toList := by decide
theorem test_hs_query : reply (.hs 1 none) quiet = "OK H1 LEAD 90 MARGIN 60 LEVEL 300 FADE 3000 RESTRIKE ON".toList := by
  decide

/-! ### The show clock (chapter 4) -/

theorem test_fiftieth_cycle :
    (run .mainsCycle { quiet with clock := { quiet.clock with cycles := 49, time := 86399 } }).clock
      = { quiet.clock with cycles := 0, time := 0 } := by decide
theorem test_missed_start :
    (run .clockSecond { (quiet.modHouse .h2 fun h =>
        { h with alarm := some { start := 71100, pre := 70800, state := .passed } }) with
      clock := { quiet.clock with time := 71099, isSet := true } }).line.warnings = [.missedStart .h2] := by decide
theorem test_ck : (run (.ck 19 20 (some 0)) quiet).clock = { quiet.clock with time := 69600, isSet := true } := by decide
theorem test_at_not_set_refused : reply (.atAlarm 1 (.arm 19 30)) quiet = "NO ST".toList := by decide

/-- The worked case of chapter 4: 19:30 with lead 90 gives 19:28:30 ARMED; at 19:43:00 a lead of 300 for 19:45 gives
19:40:00 PASSED. -/
theorem test_at_arms :
    ((run (.atAlarm 1 (.arm 19 30)) { quiet with clock := { quiet.clock with time := 69605, isSet := true } }).house
      .h1).alarm = some { start := 70200, pre := 70110, state := .armed } := by decide
theorem test_lead_rearms :
    ((run (.hs 2 (some (.lead 300))) { (quiet.modHouse .h2 fun h =>
        { h with alarm := some { start := 71100, pre := 71010, state := .armed } }) with
      clock := { quiet.clock with time := 70980, isSet := true } }).house .h2).alarm
      = some { start := 71100, pre := 70800, state := .passed } := by decide
theorem test_cq : reply .cq quiet =
    "OK 00:00:00 NOT-SET H1 OFF H2 OFF H3 OFF".toList := by decide

/-! ### Arc measurement and carbon feed (chapter 5) -/

/-- The worked case of the channel: 123, 124, 126, 124 give 124, and 108, 111, 110, 112 give 110; an effective error of 10
at gain 4 pays 40, so a credit of 240 becomes one step and 24. -/
theorem test_feed_sample :
    ((run (.regulationSample .s1 ⟨123, 124, 126, 124⟩ ⟨108, 111, 110, 112⟩)
      (quiet.modStation .s1 (Station.burning 2950 240))).station .s1).channel
      = { (Station.burning 2950 240 (quiet.station .s1)).channel with
          vc := some 124, ic := some 110, steps := 1, fsPulses := 1, credit := 24 } := by decide +kernel

/-- The worked case at the stub: class S, T 64, K 8, BURST, Rp 302: an effective error of 34 asks for four steps; the second
leaves 300, and the third is withheld. -/
theorem test_feed_to_the_stub :
    let s := (quiet.modStation .s5 fun st =>
      { (Station.burning 302 0 (Station.classS st)) with
          channel := { (Station.burning 302 0 st).channel with
            params := some { vset := 84, dead := 2, gain := 8, thr := 64, mode := .burst } } })
    let t := run (.regulationSample .s5 ⟨120, 120, 120, 120⟩ ⟨50, 50, 50, 50⟩) s
    (t.station .s5).channel.steps = 2 ∧ (t.station .s5).lamp.state = .stub ∧ (t.station .s5).carbon.rp = 300 := by decide
theorem test_jog_step :
    ((run (.jogStep .s1) (quiet.modStation .s1 fun st =>
      { (Station.coldLamp 2950 st) with channel := { st.channel with jog := some 1 } })).station .s1).channel.jog
      = none := by decide
/-- A jog step that is withheld gives no pulse (R101, R126): class H, the stub at 380 and the step at 2. -/
theorem test_jog_step_withheld :
    let t := run (.jogStep .s1) (quiet.modStation .s1 fun st =>
      { (Station.coldLamp 381 st) with channel := { st.channel with jog := some 5, fsPulses := 1 } })
    (t.station .s1).channel.fsPulses = 0 ∧ (t.station .s1).lamp.state = .stub := by decide
theorem test_lf_clamped : reply (.lf 1 300) (quiet.modStation .s1 (Station.coldLamp 2950)) = "OK C COUNT 200".toList := by
  decide
theorem test_lp_clamped : reply (.lp 2 (.thr 5000)) quiet = "OK C THR 1024".toList := by decide
theorem test_lp_default :
    ((run (.lp 5 .default) (quiet.modStation .s5 fun st =>
      { (Station.classS st) with channel := { st.channel with
          params := some { vset := 150, dead := 0, gain := 9, thr := 900, mode := .burst } } })).station .s5).channel.params
      = some { vset := 84, dead := 2, gain := 4, thr := 256, mode := .step } := by decide

/-! ### Striking and the strike supply (chapter 6) -/

theorem test_ls_is_granted_at_once :
    let s := run (.ls 2) (quiet.modStation .s2 (Station.coldLamp 2950))
    s.pins.stations.s2.sk = true ∧ s.arbiter.order = [.s3, .s4, .s5, .s6, .s1, .s2] := by decide
theorem test_ls_below_the_reserve :
    reply (.ls 2) (quiet.modStation .s2 (Station.coldLamp 419)) = "NO ST".toList ∧
      reply (.ls 2) (quiet.modStation .s2 (Station.coldLamp 420)) = "OK".toList := by decide
theorem test_strike_pulse_end :
    ((run (.strikePulseEnd .s2) (run (.ls 2) (quiet.modStation .s2 (Station.coldLamp 2950)))).station .s2).lamp.state
      = .establish := by decide

/-- The worked case of ROTATE: S1 is granted before S3 and S5 from the order 1 to 6. -/
theorem test_recharge_end_grants_by_rotation :
    let queued (st : Station) : Station :=
      { st with lamp := { st.lamp with state := .queued, cls := some .normal }, carbon := { st.carbon with rp := 2950 } }
    let s := run .rechargeEnd { ((quiet.modStation .s3 queued).modStation .s5 queued).modStation .s1 queued with
      arbiter := { quiet.arbiter with queue := [.s3, .s5, .s1], supply := .recharge, recharge := true } }
    s.arbiter.grant = some .s1 ∧ s.arbiter.queue = [.s3, .s5] ∧ s.arbiter.order = [.s2, .s3, .s4, .s5, .s6, .s1] := by
  decide
theorem test_lx_acknowledges_lockout :
    ((run (.lx 4) (quiet.modStation .s4 fun st => { st with lamp := { st.lamp with state := .lockout } })).station
      .s4).lamp.state = .cold := by decide
theorem test_lc_at_the_stub :
    ((run (.lc 2 380) quiet).station .s2).lamp.state = .stub ∧
      ((run (.lc 2 381) quiet).station .s2).lamp.state = .cold := by decide
theorem test_lc_clamped : reply (.lc 2 6000) quiet = "OK C LENGTH 5000".toList := by decide
theorem test_lq_of_reset :
    reply (.lq 2) quiet =
      ("OK S2 STUB CLASS NONE RETRY 0 RESTRIKE 0 EST NONE ARB NONE V NONE I NONE HELD LOSS 0 SHORT 0 C 0 STEPS 0 ".toList ++
        "VSET 112 DEAD 2 GAIN 4 THR 256 MODE STEP JOG NONE RP 0 STUB 380 SP 2 LEFT 0 PRED 0 NOMINAL ".toList ++
        "BK NONE OPEN NONE MARK CLEAR".toList) := by decide +kernel
theorem test_sp_query : reply (.sp none) quiet = "OK ROTATE ORDER 1 2 3 4 5 6 SUPPLY FREE QUEUE NONE".toList := by decide
theorem test_sp_fixed : (run (.sp (some .fixed)) quiet).arbiter.mode = .fixed := by decide

/-! ### Carbon reckoning (chapter 7) -/

theorem test_bucket_close :
    ((run (.bucketClose .s4) (quiet.modStation .s4 fun st =>
      { (Station.burning 2174 0 st) with carbon :=
          { rp := 2174, window := [13, 12, 13, 12, 14, 13, 12, 13], openBucket := some 12, bucketTimer := true
            mark := .clear } })).station .s4).carbon.window = [12, 13, 12, 14, 13, 12, 13, 12] := by decide

/-! ### House lights (chapter 8) -/

/-- The worked cases: 1000 to 500 in 4000 ms has 40 updates and comes to 988 at the first; 300 to 1000 in 250 ms has three
and comes to 533. -/
theorem test_fade :
    let s := run (.lv 1 (.fade 500 4000)) quiet
    (s.house .h1).light.remaining = 40 ∧ ((run (.fadeUpdate .h1) s).house .h1).light.level = 988 := by decide
theorem test_short_fade :
    let s := run (.lv 3 (.fade 1000 250)) (quiet.modHouse .h3 fun h =>
      { h with light := { h.light with level := 300, target := 300 } })
    (s.house .h3).light.remaining = 3 ∧ ((run (.fadeUpdate .h3) s).house .h3).light.level = 533 := by decide
theorem test_lr_restores :
    ((run (.lr 1) (quiet.modHouse .h1 fun h =>
      { h with light := { h.light with level := 300, target := 300, panic := .set } })).house .h1).light
      = { level := 1000, target := 300, remaining := 50, timer := true, fire := .clear, panic := .clear } := by decide
theorem test_lr_under_fire :
    reply (.lr 1) (quiet.modHouse .h1 fun h => { h with light := { h.light with fire := .set } }) = "NO FI".toList := by
  decide
theorem test_pu : (run .pu (quiet.modHouse .h3 fun h =>
    { h with light := { h.light with level := 0, target := 0 } })).pins.houses.h3.dl = 1000 := by decide

/-! ### Fire protection (chapter 9) -/

theorem test_gate_trip :
    let s := run (.ghOpen .s3) { quiet with clock := { quiet.clock with time := 72845 } }
    s.pins.houses.h2.pr = true ∧
      reply .fq { s with line := quiet.line } = "OK GATE S3 H2 20:14:05 0 STUB NO FLAGS NONE COUNT 0".toList := by decide
theorem test_lamp_heat_trip :
    ((run (.ltOpen .s3) (quiet.modStation .s3 (Station.burning 2000 0))).station .s3).lamp.state = .cold := by decide

/-- An opening of FB is a break only while the motor is RUNUP or AT-SPEED (R153). -/
theorem test_film_break_at_rest_is_no_trip :
    ((run (.fbOpen .s1) quiet).station .s1).trip = none ∧
      ((run (.fbOpen .s1) (quiet.modStation .s1 (Station.runningUp 3))).station .s1).trip = some .filmBreak := by decide
theorem test_booth_trip :
    let s := run (.boothTripInput .mt) (showing .playing Reel.clear 1000)
    (s.house .h1).engine = .suspended ∧ (s.house .h1).showRunning = true ∧ (s.house .h3).showRunning = false ∧
      s.pins.stations.s1.mc = false ∧ (s.station .s6).trip = some .booth := by decide
theorem test_release_pulse_end :
    (run (.releasePulseEnd .h2) (quiet.modHouse .h2 fun h =>
      { h with port := .up, releasePulse := true })).line.warnings = [.portStuck .h2] := by decide
theorem test_fc_locked_refused : reply .fc { run .ft quiet with line := quiet.line } = "NO LK".toList := by decide
theorem test_fc_clears :
    let s := { run .fq { run .ft quiet with line := quiet.line } with line := quiet.line }
    reply .fc s = "OK".toList ∧ ((run .fc s).house .h1).engine = .idle ∧ ((run .fc s).house .h1).light.panic = .set := by
  decide +kernel
theorem test_trip_input_closes :
    ((run (.tripInputQualifiedClosed (.gh .s3)) (run (.ghOpen .s3) quiet)).station .s3).trip = some .gate := by decide

/-! ### The console line (chapter 10) -/

/-- In 7-BIT EVEN an A (41H, two ones) has the parity bit 0, and a C (43H, three ones) the parity bit 1. -/
theorem test_even_parity :
    (run (.characterReceived 0x41 true) quiet).line.buffer = ['A'] ∧
      (run (.characterReceived 0xC3 true) quiet).line.buffer = ['C'] ∧
      (run (.characterReceived 0x43 true) quiet).line.marks.error = true := by decide
theorem test_carriage_return :
    (run (.characterReceived 0x8D true) { quiet with line := { quiet.line with buffer := "AK".toList } }).line.tx
      = "OK\r\n".toList := by decide
theorem test_character_timeout :
    reply .characterTimeout { quiet with line := { quiet.line with buffer := ['A'], timer := .running } }
      = "NO TO".toList := by decide

/-- The worked case of the overtaken line: at the end of a reply HQ 1 is taken, and at the end of its reply SQ 3, lost, is
answered NO BY. -/
theorem test_reply_end :
    let s := run .replyEnd { quiet with line := { quiet.line with
      transmit := .sending, owed := 1, waiting := some { text := "AK".toList, marks := Marks.clear } } }
    s.line.tx = "OK\r\n".toList ∧ s.line.owed = 1 ∧
      (run .replyEnd s).line.tx = "NO BY\r\n".toList ∧ (run .replyEnd (run .replyEnd s)).line.transmit = .idle := by
  decide

/-- The reply of the worked case of ATTENTION. -/
theorem test_ss :
    let s := { (quiet.modHouse .h1 fun h => { h with engine := .runDown }) with
      line := { quiet.line with warnings := [.notThreaded .h1, .interlock .s5, .missed .h1 .notThreaded] } }
    reply .ss s =
      ("OK FIRE EMPTY BOOTH NONE H1 RUN-DOWN NONE H2 IDLE NONE H3 IDLE NONE W NOT-THREADED H1 INTERLOCK S5 ".toList ++
        "MISSED H1 NOT-THREADED".toList) ∧ (run .ss s).line.warnings = [] := by decide +kernel
/-- R168: at 110 baud in 7-BIT EVEN an O, 4FH with five ones, goes out with the parity bit 1 and two stop bits. -/
theorem test_transmitted_frame :
    (run .ak quiet).pins.transmit.head? = some
      { startBits := 1, data := [true, true, true, true, false, false, true], parity := some true, stopBits := 2 } := by decide
theorem test_transmitted_frame_fast :
    ((run .pu { quiet with line := { quiet.line with speed := .baud300, format := .none8 } }).pins.transmit.head?).map
      (fun f => (f.data.length, f.parity, f.stopBits)) = some (8, none, 1) := by decide
theorem test_ak : (run .ak { quiet with line := { quiet.line with attention := true } }).line.attention = false := by decide
theorem test_rs_refused : reply .rs (quiet.modStation .s2 (Station.atSpeed 0)) = "NO ST".toList := by decide
theorem test_rs : ((run .rs ready).house .h1).queue = [] := by decide

/-! ### The machine -/

theorem test_step_runs_the_front :
    (match step (quiet.withFetchWord 8 0) with | .next s => s == quiet | _ => false) = true := by decide
theorem test_step_takes_in_order :
    (match step { quiet with pending := [.pu, .ak] } with | .next s => s.pending | _ => []) = [.ak] := by decide

/-! ### Witnesses: states and operands that meet the hypotheses of each statement -/

theorem quiet_free : LineFree quiet := ⟨rfl, rfl⟩
theorem ready_free : LineFree ready := ⟨rfl, rfl⟩

/-- A show in house 1, early in reel A1. -/
def onScreen : State := showing .playing Reel.clear 1000

theorem onScreen_free : LineFree onScreen := ⟨rfl, rfl⟩
theorem onScreen_stations : StationInv onScreen := by intro i; cases i <;> (unfold Station.barred; decide)
theorem onScreen_lamps : LampInv onScreen := by
  refine ⟨fun i => ?_, by decide, by decide, by decide, by decide, by decide, fun h => by cases h⟩
  cases i <;> (unfold Station.barred; decide)
theorem onScreen_order : OrderInv onScreen := by
  refine ⟨fun h => ?_, fun i => ?_⟩
  · cases h <;> (unfold State.bindable; decide)
  · cases i <;> decide

def absentS1 : State := quiet.modStation .s1 fun st => { st with trim := none, channel := Channel.initial none }

theorem witness_EveryCommandGoesOnAndOutputsFollow :
    ((run .ak quiet).station .s1).present = true ∧ ((run .ak absentS1).station .s1).present = false := by decide

theorem witness_PowerOnTakesPowerOnValues :
    Straps.reset.trim.get .s1 = { idA := .closed, idB := .closed } ∧
      (Straps.reset.trim.set .s1 ⟨.opened, .opened⟩).get .s1 = { idA := .opened, idB := .opened } := by decide

theorem witness_ConsoleLineReadsBack :
    (Instr.lp 6 (.thr (-999999))).isConsole = true ∧ (Instr.lp 6 (.thr (-999999))).wellFormed = true := by decide

theorem witness_RefusedLineLeavesEveryRecord :
    LineFree quiet ∧ ∃ t, exec (.go 1) quiet = .next t ∧ t.line.tx = quiet.line.echoCr ++ (Reply.no .st).text :=
  ⟨quiet_free, _, rfl, by decide⟩

def withLine (f : LineUnit → LineUnit) : State := { quiet with line := f quiet.line }

/-- A state whose line unit waits with a line, one that sends, and marked or unreadable lines at their CR. -/
theorem witness_BusyOrMarkedLinesAreNotRun :
    (withLine fun l => { l with waiting := some ⟨[], Marks.clear⟩, owed := 255 }).line.waiting.isSome = true ∧
      (withLine fun l => { l with transmit := .sending }).line.waiting = none ∧
      quiet.line.format.read 0x8D true = some '\r' ∧
      (withLine fun l => { l with marks := ⟨true, true, true⟩ }).line.marks.lost = true ∧
      (withLine fun l => { l with marks := ⟨true, true, false⟩ }).line.marks.error = true ∧
      (withLine fun l => { l with marks := ⟨true, false, false⟩ }).line.marks.overlong = true ∧
      parseLine (withLine fun l => { l with buffer := ['X'] }).line.buffer = none := by decide

theorem witness_NumbersOutOfRangeAreRefusedRg :
    (Instr.sq 0).wellFormed = true ∧ stationNumber (.sq 0) = some 0 ∧ stationNumber (.sq 7) = some 7 ∧
      houseNumber (.go 0) = some 0 ∧ houseNumber (.sa 1 4) = some 4 ∧ LineFree quiet :=
  ⟨by decide, by decide, by decide, by decide, by decide, quiet_free⟩

theorem witness_CharacterJoinsTheLine :
    quiet.line.format.read 0x43 true = none ∧ quiet.line.format.read 0x0A true = some '\n' ∧
      quiet.line.format.read 0x41 true = some 'A' ∧ CharFormat.none8.read 0xFF true = some (Char.ofNat 255) ∧
      CharFormat.none8.read 0x41 false = none ∧
      (run .ak quiet).line.tx[0]? = some 'O' ∧ ((run .ak quiet).pins.transmit[0]?).isSome = true ∧
      (run .ak quiet).line.format = .even7 ∧
      (run .ak { quiet with line := { quiet.line with format := .none8 } }).line.format = .none8 := by decide

theorem witness_CrTakesTheLineAsItsCommand :
    Instr.sendable .ak = true ∧ quiet.line.format.read 0x8D true = some '\r' ∧
      (withLine fun l => { l with buffer := "AK".toList }).line.buffer = encodeLine .ak ∧
      (withLine fun l => { l with buffer := "AK".toList }).line.marks = ⟨false, false, false⟩ ∧
      LineFree (withLine fun l => { l with buffer := "AK".toList }) :=
  ⟨by decide, by decide, by decide, by decide, rfl, rfl⟩

theorem witness_TimeoutAndReplyEnd :
    (withLine fun l => { l with timer := .running }).line.timer = .running ∧ quiet.line.timer ≠ .running ∧
      (withLine fun l => { l with transmit := .sending }).line.owed = 0 ∧
      0 < (withLine fun l => { l with transmit := .sending, owed := 1 }).line.owed ∧ quiet.line.transmit = .idle ∧
      (withLine fun l =>
        { l with transmit := .sending, echo := true, waiting := some ⟨"AK".toList, Marks.clear⟩ }).line.waiting
        = some ⟨"AK".toList, { overlong := false, error := false, lost := false }⟩ ∧
      parseLine "AK".toList = some .ak ∧ parseLine "X".toList = none ∧
      (withLine fun l => { l with transmit := .sending, waiting := some ⟨[], ⟨true, true, true⟩⟩ }).line.waiting
        = some ⟨[], ⟨true, true, true⟩⟩ ∧
      (withLine fun l => { l with transmit := .sending, waiting := some ⟨[], ⟨true, true, false⟩⟩ }).line.waiting
        = some ⟨[], ⟨true, true, false⟩⟩ ∧
      (withLine fun l => { l with transmit := .sending, waiting := some ⟨[], ⟨true, false, false⟩⟩ }).line.waiting
        = some ⟨[], ⟨true, false, false⟩⟩ := by decide

theorem witness_BoothResetTakesItsValues :
    LineFree quiet ∧ ((quiet.modStation .s1 fun st => { st with condition := .resetting }).station .s1).condition = .resetting ∧
      ((quiet.modStation .s6 fun st => { st with motor := .stopping }).station .s6).motor ≠ .stopped ∧
      ∀ i, (quiet.station i).condition = .normal ∧ (quiet.station i).motor = .stopped ∧
        (quiet.station i).lamp.state.out = true :=
  ⟨quiet_free, by decide, by decide, fun i => by cases i <;> decide⟩

theorem witness_StatusReportsOnceAndAkDeasserts : LineFree quiet := quiet_free

def fullOrder : State := quiet.modHouse .h1 fun h => { h with queue := List.replicate 12 (reelA1 .waiting none) }

theorem witness_QueriesChangeNothing :
    LineFree fullOrder ∧ (fullOrder.house .h1).queue[0]? = some (reelA1 .waiting none) ∧
      (fullOrder.house .h1).queue[11]? = some (reelA1 .waiting none) ∧ (11 : Nat) < 12 :=
  ⟨⟨rfl, rfl⟩, by decide⟩

/-! ### Witnesses of the projector stations -/

theorem witness_TachPulseMovesTheCounter :
    quiet.boundEntry .s1 = none ∧ onScreen.boundEntry .s1 = some (reelA1 .playing (some .s1)) ∧
      ((onScreen.modStation .s1 fun st => { st with counter := 99999 }).boundEntry .s1).isSome = true := by decide

theorem witness_MotorPulsesAndTimers :
    (quiet.modStation .s1 (Station.runningUp 0)).boundEntry .s1 = none ∧
      ((quiet.modStation .s1 fun st => { st with motor := .stopping, stopTimer := true }).station .s1).stopTimer = true ∧
      ((quiet.modStation .s1 (Station.runningUp 0)).station .s1).runUpTimer = true ∧
      (quiet.house .h1).startStation ≠ some .s1 ∧
      ((ready.modHouse .h1 fun h => { h with engine := .starting, step := some .runUp }).house .h1).startStation
        = some .s1 := by decide

theorem witness_TripActsOnTheStation :
    quiet.tripEvent (.ghOpen .s1) = some (.s1, .gate, .gate) ∧
      quiet.tripEvent (.ltOpen .s6) = some (.s6, .lampHeat, .lampHeat) ∧
      (quiet.modStation .s1 (Station.atSpeed 0)).tripEvent (.stall .s1) = some (.s1, .filmBreak, .filmBreak) ∧
      (quiet.modStation .s1 (Station.runningUp 0)).tripEvent (.fbOpen .s1) = some (.s1, .filmBreak, .filmBreak) ∧
      (quiet.station .s6).trip = none ∧ quiet.engaged .s6 = false ∧ quiet.boundEntry .s6 = none := by decide

theorem witness_EngagedStationFaultsTheHouse :
    onScreen.tripEvent (.ghOpen .s1) = some (.s1, .gate, .gate) ∧ (onScreen.station .s1).trip = none ∧
      onScreen.engaged .s1 = true ∧ onScreen.engaged .s2 = true ∧ (onScreen.station .s2).present = true ∧
      (onScreen.station .s2).ld.mode = .enforce ∧ (onScreen.station .s2).md.mode = .enforce := by decide

/-- A burning lamp at S1 of an IDLE house with its ports up. -/
def litByHand : State :=
  (quiet.modHouse .h1 fun h => { h with port := .up }).modStation .s1 (Station.burning 2950 0)

def readyLit : State := ready.modStation .s1 (Station.burning 2950 0)

/-- The film-break switch of a station standing open. -/
def broken (i : StationId) (s : State) : State := s.modStation i fun st => { st with fb := .opened }

theorem witness_CaptureTakesTheFirstTrip :
    onScreen.tripEvent (.stall .s1) = some (.s1, .filmBreak, .filmBreak) ∧
      boothCause (.boothTripInput .fl) = some .link ∧ LineFree (broken .s1 litByHand) ∧
      StartAllowed (broken .s1 litByHand) .s1 ∧ ((broken .s1 litByHand).station .s1).fb = .opened ∧
      ((broken .s1 litByHand).station .s1).motor.running = false ∧ ByHand (broken .s1 litByHand) .s1 ∧
      StartAllowed (broken .s1 readyLit) .s1 ∧
      ((broken .s1 readyLit).house .h1).engine ∈ [.ready, .interval, .hold] ∧
      ((broken .s1 readyLit).house .h1).port = .up ∧ ((broken .s1 readyLit).station .s1).house = .h1 ∧
      ((broken .s1 readyLit).station .s1).lamp.state = .burn ∧
      ((broken .s1 readyLit).house .h1).queue.head? = some (reelA1 .threaded (some .s1)) := by
  unfold LineFree StartAllowed ByHand; decide

def resetting : State := quiet.modStation .s1 fun st => { st with condition := .resetting }

theorem witness_ResetHoldEnds :
    (resetting.station .s1).condition = .resetting ∧ (resetting.station .s1).present = true ∧
      ((absentS1.modStation .s1 fun st => { st with condition := .resetting }).station .s1).present = false ∧
      ({ idA := .closed, idB := .opened } : TrimStraps) ≠ { idA := .opened, idB := .opened } ∧
      ({ absentS1 with fire := { absentS1.fire with booth := some .alarm } }).fire.booth.isSome = true ∧
      (absentS1.house .h1).engine = .idle := by decide

theorem witness_DoorChangesActByTheirMode :
    ((quiet.modStation .s1 fun st => { st with ld := ⟨.closed, .advisory⟩, md := ⟨.closed, .advisory⟩ }).station .s1).md.mode
        = .advisory ∧
      (quiet.station .s1).ld.mode = .enforce ∧ (quiet.station .s1).md.mode = .enforce ∧
      (quiet.station .s1).present = true ∧ quiet.engaged .s1 = false ∧ (absentS1.station .s1).present = false := by decide

theorem witness_InterlockModeLine :
    LineFree quiet ∧ (resetting.station .s1).condition = .resetting ∧ (quiet.station .s1).condition = .normal ∧
      (quiet.station .s1).ld.contact = .closed ∧
      ((quiet.modStation .s1 fun st => { st with ld := ⟨.opened, .advisory⟩ }).station .s1).ld
        = { contact := .opened, mode := .advisory } ∧ quiet.engaged .s1 = false :=
  ⟨quiet_free, by decide, by decide, by decide, by decide, by decide⟩

theorem witness_ManualMotorAndDouserLines :
    LineFree litByHand ∧ ByHand litByHand .s1 ∧ (litByHand.station .s1).trip = none ∧ litByHand.fire.booth = none ∧
      (litByHand.house .h1).port = .up ∧ (litByHand.station .s1).lamp.state = .burn ∧
      (litByHand.station .s1).fb = .closed ∧ (litByHand.station .s1).md.contact = .closed ∧
      (quiet.house .h1).port = .down ∧ (quiet.station .s1).lamp.state ≠ .burn :=
  ⟨⟨rfl, rfl⟩, ⟨rfl, by decide, by decide⟩, by decide⟩

theorem witness_ResetAndAssignLines :
    LineFree ready ∧ (ready.station .s1).condition = .normal ∧ ready.engaged .s1 = false ∧
      (ready.station .s1).lamp.state.out = true ∧ (ready.boundEntry .s1).map (·.status) = some .threaded ∧
      (quiet.house .h1).engine = .idle ∧ quiet.boundEntry .s1 = none ∧
      (StationId.all.filter fun j => j ≠ .s1 ∧ ((quiet.modStation .s4 fun st => { st with house := .h1 }).station j).house = .h2).length
        ≤ 1 :=
  ⟨ready_free, by decide, by decide, by decide, by decide, by decide, by decide, by decide⟩

/-! ### Witnesses of the running order -/

/-- The shortest and the longest reel, with the first picture at the ends of its range. -/
theorem witness_EntryJoinsTheRunningOrder :
    LineFree quiet ∧ (EntryArgs.mk "C3".toList 160 [.first 0]).wellFormed = true ∧
      (EntryArgs.mk "C3".toList 99999 [.first 999]).wellFormed = true ∧
      givenFirst [.first 999] = some 999 ∧ (quiet.house .h1).queue.length < 12 ∧
      12 ≤ (fullOrder.house .h1).queue.length ∧
      2 ≤ (ready.house .h1).queue.length ∧ (∀ x ∈ (ready.house .h1).queue.drop 2, x.bound = none) ∧
      (ready.house .h1).engine ∉ [.playing, .preparing, .motorCued] :=
  ⟨quiet_free, by decide, by decide, by decide, by decide, by decide, by decide, by decide, by decide⟩

theorem witness_EntriesLeaveTheRunningOrder :
    LineFree ready ∧ ((quiet.modHouse .h1 fun h => { h with queue := [reelA1 .waiting none] }).house .h1).queue[0]?
        = some (reelA1 .waiting none) ∧
      (ready.house .h1).queue[1]? = some (reelA2 .threaded (some .s2)) ∧ (ready.house .h1).queue.length ≤ 2 ∧
      (ready.house .h1).engine ∈ [.idle, .ready, .hold, .interval] ∧
      (onScreen.house .h1).engine ∉ [.idle, .ready, .hold, .interval] :=
  ⟨ready_free, by decide, by decide, by decide, by decide, by decide⟩

/-- A1 threaded at S1, A2 waiting. -/
def halfThreaded : State :=
  ready.modHouse .h1 fun h => { h with queue := [reelA1 .threaded (some .s1), reelA2 .waiting none] }

theorem witness_ThreadingLines :
    LineFree halfThreaded ∧ (halfThreaded.station .s2).condition = .normal ∧ (halfThreaded.station .s2).motor = .stopped ∧
      (halfThreaded.station .s2).present = true ∧ halfThreaded.boundEntry .s2 = none ∧
      (halfThreaded.house .h1).queue[1]? = some (reelA2 .waiting none) ∧ halfThreaded.mode .h1 = .changeover ∧
      ((halfThreaded.house .h1).queue.head?.bind fun x => x.bound) = some .s1 ∧
      halfThreaded.boundEntry .s1 = some (reelA1 .threaded (some .s1)) ∧
      (halfThreaded.house .h1).startStation ≠ some .s1 :=
  ⟨⟨rfl, rfl⟩, by decide⟩

/-! ### Witnesses of the house engine -/

theorem witness_ShowStartsFromItsHead :
    LineFree ready ∧ (ready.house .h1).engine ∈ [.ready, .interval, .hold] ∧
      (ready.house .h1).queue.head? = some (reelA1 .threaded (some .s1)) ∧ (ready.station .s1).house = .h1 ∧
      (ready.house .h1).port = .up ∧ (ready.station .s1).trip = none ∧ ready.fire.booth = none ∧
      ((ready.modStation .s1 fun st => { st with lamp := { st.lamp with state := .queued } }).station .s1).lamp.state
        ∈ [.queued, .striking, .establish] ∧
      StrikeAllowed (ready.modStation .s1 (Station.coldLamp 420)) .s1 .h ∧
      (∀ t₀, ¬ StrikeAllowed (ready.modStation .s1 (Station.coldLamp 419)) .s1 t₀) ∧
      (ready.station .s1).lamp.state ∈ [.stub, .lockout] ∧
      ((ready.modHouse .h1 fun h => { h with port := .down }).house .h1).port = .down ∧
      ((ready.modHouse .h1 fun h => { h with engine := .starting }).house .h1).engine = .starting ∧
      ((ready.modHouse .h1 fun h => { h with engine := .suspended }).house .h1).engine = .suspended ∧
      (onScreen.house .h1).engine ∈ [.idle, .playing, .preparing, .motorCued, .runDown, .fault] ∧
      ((quiet.modHouse .h1 fun h => { h with engine := .hold }).house .h1).queue.head? = none := by
  refine ⟨ready_free, by decide, by decide, by decide, by decide, by decide, by decide, by decide, ?_, fun t₀ => ?_, by decide⟩
  · unfold StrikeAllowed; decide
  · cases t₀ <;> (unfold StrikeAllowed; decide)

theorem reels_asTaken :
    (reelA1 .threaded (some .s1)).asTaken ∧ (reelA1 .runOut (some .s1)).asTaken ∧ (reelA1 .playing (some .s1)).asTaken ∧
      (reelA2 .threaded (some .s2)).asTaken := by
  unfold Entry.asTaken; decide

/-- The start sequence of A1 at S1 in one of its steps, at a counter. -/
def starting (step : StartStep) (f : Station → Station) : State :=
  ((readyLit.modHouse .h1 fun h => { h with engine := .starting, step := some step }).modStation .s1 f).modStation .s2
    fun st => { st with counterMode := .forward }
def rollingUp : State := starting .runUp fun st => { (Station.runningUp 190 st) with runUpCount := 11, intervalOpen := true }
def inLeader (counter : Nat) : State := starting .leader (Station.atSpeed counter)

theorem starting_order : OrderInv rollingUp ∧ OrderInv (inLeader 190) ∧ OrderInv (inLeader 191) := by
  refine ⟨⟨fun h => ?_, fun i => ?_⟩, ⟨fun h => ?_, fun i => ?_⟩, fun h => ?_, fun i => ?_⟩
  all_goals first
    | (cases h <;> (unfold State.bindable; decide))
    | (cases i <;> decide)

/-- The first picture of A1 stands at 192. -/
theorem witness_StartWithBurningLampRunsUp :
    LineFree readyLit ∧ (reelA1 .threaded (some .s1)).asTaken ∧ StartAllowed readyLit .s1 ∧
      ((readyLit.house .h1).engine ∈ [.ready, .interval, .hold] ∧
        (readyLit.house .h1).queue.head? = some (reelA1 .threaded (some .s1)) ∧ (readyLit.house .h1).port = .up ∧
        (readyLit.station .s1).fb = .closed ∧ (readyLit.station .s1).lamp.state = .burn ∧
        (readyLit.station .s1).motor = .stopped) ∧
      OrderInv rollingUp ∧ OrderInv (inLeader 190) ∧ OrderInv (inLeader 191) ∧
      (reelA1 .threaded (some .s1)).ahead ((inLeader 191).house .h1).settings.lead 192 ∧
      (rollingUp.house .h1).engine = .starting ∧ (rollingUp.house .h1).step = some .runUp ∧
      (rollingUp.station .s1).motor = .runUp ∧ (rollingUp.station .s1).runUpCount = 11 ∧
      (rollingUp.station .s1).counter + 1 < 192 ∧ ((inLeader 190).house .h1).step = some .leader ∧
      ((inLeader 190).station .s1).motor = .atSpeed ∧ ((inLeader 190).station .s1).counter + 1 < 192 ∧
      192 ≤ ((inLeader 191).station .s1).counter + 1 ∧ ((inLeader 191).station .s1).trip = none :=
  ⟨⟨rfl, rfl⟩, reels_asTaken.1, ⟨by decide, by decide, by decide, by decide, by decide⟩, by decide, starting_order.1,
    starting_order.2.1, starting_order.2.2, ⟨by decide, by decide, by decide⟩, by decide⟩

theorem witness_EndOfShowLine :
    LineFree onScreen ∧ OrderInv onScreen ∧
      (onScreen.house .h1).engine ∈ [.starting, .playing, .preparing, .motorCued, .runDown] ∧
      (onScreen.house .h1).settings.level ≤ 1000 ∧ (onScreen.house .h1).settings.fade ≤ 60000 ∧
      (ready.house .h1).engine ∈ [.idle, .ready, .interval, .hold, .fault, .suspended] :=
  ⟨onScreen_free, onScreen_order, by decide⟩

/-- MOTOR-CUED at the frame before the change frame, the incoming projector ready. -/
def cued : State :=
  (showing .motorCued (cuesTaken .taken .taken) 28779).modStation .s2 fun st =>
    Station.atSpeed 191 (Station.burning 2950 0 st)

theorem cued_order : OrderInv cued := by
  refine ⟨fun h => ?_, fun i => ?_⟩
  · cases h <;> (unfold State.bindable; decide)
  · cases i <;> decide

theorem witness_ManualChangeover :
    LineFree cued ∧ OrderInv cued ∧ (reelA2 .threaded (some .s2)).asTaken ∧
      (reelA2 .threaded (some .s2)).ahead (cued.house .h1).settings.lead (cued.station .s2).counter ∧
      (cued.house .h1).engine = .motorCued ∧ (cued.house .h1).regime = some .changeover ∧
      (cued.house .h1).queue[0]? = some (reelA1 .playing (some .s1)) ∧
      (cued.house .h1).queue[1]? = some (reelA2 .threaded (some .s2)) ∧ (cued.house .h1).reel.missed = none ∧
      (cued.station .s2).lamp.state = .burn ∧ (cued.station .s2).motor = .atSpeed ∧ (cued.house .h1).port = .up ∧
      (cued.station .s2).trip = none ∧ cued.fire.booth = none ∧ (ready.house .h1).engine ≠ .motorCued ∧
      ((cued.modHouse .h1 fun h => { h with port := .down }).house .h1).port = .down ∧
      (cued.house .h1).next = some (reelA2 .threaded (some .s2)) ∧
      ((cued.modStation .s2 fun st => { st with lamp := { st.lamp with state := .establish } }).station .s2).lamp.state
        ≠ .burn ∧
      ((cued.modStation .s2 fun st => { st with motor := .runUp }).station .s2).motor ≠ .atSpeed ∧
      ((cued.modHouse .h1 fun h =>
        { h with queue := [reelA1 .playing (some .s1), reelA2 .waiting none] }).house .h1).next
          = some (reelA2 .waiting none) :=
  ⟨⟨rfl, rfl⟩, cued_order, reels_asTaken.2.2.2, ⟨by decide, by decide, by decide⟩, by decide⟩

/-- The cue window of A1 opens at 28 348 and closes at 28 800. -/
theorem witness_CueMarksAreCounted :
    ((showing .preparing (cuesTaken .taken .pending) 28348).house .h1).playing = some (reelA1 .playing (some .s1)) ∧
      (reelA1 .playing (some .s1)).motor ≤ ((showing .preparing (cuesTaken .taken .pending) 28348).station .s1).counter + 240 ∧
      ((showing .preparing (cuesTaken .taken .pending) 28347).station .s1).counter + 240 < (reelA1 .playing (some .s1)).motor ∧
      ((showing .motorCued (cuesTaken .taken .taken) 28800).station .s1).counter ≤ (reelA1 .playing (some .s1)).length ∧
      (reelA1 .playing (some .s1)).length < ((showing .motorCued (cuesTaken .taken .taken) 28801).station .s1).counter ∧
      (onScreen.house .h1).engine ∈ [.playing, .preparing, .motorCued] ∧ (onScreen.house .h1).reel.marks < 2 := by decide

/-- A1 on screen with cue source SENSOR, within its window; the next reel bound or unbound, and after one mark. -/
def onMarks (engine : EngineState) (reel : Reel) (next : Entry) : State :=
  (showing engine reel 28588).modHouse .h1 fun h =>
    { h with queue := [{ reelA1 .playing (some .s1) with cue := .sensor }, next] }
def secondMark : State := onMarks .motorCued { cuesTaken .taken .taken with marks := 1 } (reelA2 .threaded (some .s2))

/-- The motor cue by a mark at a station whose film-break switch stands open, and at one that refuses the start. -/
theorem witness_CueMarksAreCounted_start :
    let bound := onMarks .preparing (cuesTaken .taken .pending) (reelA2 .threaded (some .s2))
    StartAllowed (broken .s2 bound) .s2 ∧ ((broken .s2 bound).station .s2).fb = .opened ∧
      ((broken .s2 bound).station .s2).motor.running = false ∧ ((broken .s2 bound).station .s2).house = .h1 ∧
      ¬ StartAllowed (bound.modStation .s2 fun st => { st with md := ⟨.opened, .enforce⟩ }) .s2 := by
  unfold StartAllowed; decide

theorem witness_CueMarksAreCounted_sensor :
    let bound := onMarks .preparing (cuesTaken .taken .pending) (reelA2 .threaded (some .s2))
    let ready2 := secondMark.modStation .s2 fun st => Station.atSpeed 191 (Station.burning 2950 0 st)
    (bound.house .h1).playing = some { reelA1 .playing (some .s1) with cue := .sensor } ∧
      (bound.house .h1).next = some (reelA2 .threaded (some .s2)) ∧ (bound.house .h1).regime = some .changeover ∧
      (bound.station .s1).counter = 28588 ∧ (bound.house .h1).reel.motor = .pending ∧ StartAllowed bound .s2 ∧
      (bound.station .s2).fb = .closed ∧ (reelA2 .threaded (some .s2)).asTaken ∧
      ((onMarks .preparing (cuesTaken .taken .pending) (reelA2 .waiting none)).house .h1).next
        = some (reelA2 .waiting none) ∧
      ((onMarks .playing Reel.clear (reelA2 .waiting none)).house .h1).reel.strike = .pending ∧
      ((bound.modStation .s2 (Station.burning 2950 0)).station .s2).prediction.isSome = true ∧
      ((onMarks .motorCued (cuesTaken .taken .taken) (reelA2 .waiting none)).house .h1).reel.marks = 0 ∧
      (secondMark.house .h1).reel.marks = 1 ∧ (secondMark.house .h1).reel.change = .pending ∧
      (secondMark.house .h1).reel.missed = none ∧ (secondMark.station .s2).lamp.state ≠ .burn ∧
      ((secondMark.modStation .s2 (Station.burning 2950 0)).station .s2).lamp.state = .burn ∧
      ((secondMark.modStation .s2 (Station.burning 2950 0)).station .s2).motor ≠ .atSpeed ∧
      ((secondMark.modHouse .h1 fun h =>
        { h with reel := { h.reel with missed := some .notThreaded } }).house .h1).reel.missed = some .notThreaded ∧
      ((onMarks .motorCued { cuesTaken .taken .taken with marks := 1 } (reelA2 .waiting none)).house .h1).next
        = some (reelA2 .waiting none) ∧
      (ready2.station .s2).lamp.state = .burn ∧ (ready2.station .s2).motor = .atSpeed ∧
      (ready2.house .h1).port = .up :=
  ⟨by decide, by decide, by decide, by decide, by decide, ⟨by decide, by decide, by decide, by decide, by decide⟩, by decide,
    reels_asTaken.2.2.2, by decide⟩

/-- The strike cue at 26 428, the motor cue at 28 588 and the change cue at 28 780, each with the next reel bound, and the
first two with it unbound. -/
def atStrike : State := showing .playing Reel.clear 26427
def atMotor : State := showing .preparing (cuesTaken .taken .pending) 28587
def atChange : State := showing .motorCued (cuesTaken .taken .taken) 28779
def nextUnbound (s : State) : State :=
  (s.modHouse .h1 fun h => { h with queue := [reelA1 .playing (some .s1), reelA2 .waiting none] }).modStation .s2 fun st =>
    { st with counterMode := .hold }

theorem cues_order : OrderInv atStrike ∧ OrderInv atMotor ∧ OrderInv atChange ∧ OrderInv (nextUnbound atMotor) := by
  refine ⟨⟨fun h => ?_, fun i => ?_⟩, ⟨fun h => ?_, fun i => ?_⟩, ⟨fun h => ?_, fun i => ?_⟩, fun h => ?_, fun i => ?_⟩
  all_goals first
    | (cases h <;> (unfold State.bindable; decide))
    | (cases i <;> decide)

theorem atStrike_lamps : LampInv atStrike := by
  refine ⟨fun i => ?_, by decide, by decide, by decide, by decide, by decide, fun h => by cases h⟩
  cases i <;> (unfold Station.barred; decide)

/-- The branches of the three cues: a strike below the reserve, a start barred by the magazine door, one that finds the
film-break switch open, and a change cue with the incoming motor not at speed, with a missed mark, and ready. -/
theorem witness_FootageCuesAreTaken_branches :
    LampInv atStrike ∧
      (∀ t₀, ¬ StrikeAllowed (atStrike.modStation .s2 (Station.coldLamp 419)) .s2 t₀) ∧
      StartAllowed atMotor .s2 ∧ ((broken .s2 atMotor).station .s2).fb = .opened ∧
      StartAllowed (broken .s2 atMotor) .s2 ∧ ((broken .s2 atMotor).station .s2).motor.running = false ∧
      ¬ StartAllowed (atMotor.modStation .s2 fun st => { st with md := ⟨.opened, .enforce⟩ }) .s2 ∧
      ((atChange.modStation .s2 (Station.burning 2950 0)).station .s2).lamp.state = .burn ∧
      ((atChange.modStation .s2 (Station.burning 2950 0)).station .s2).motor ≠ .atSpeed ∧
      ((atChange.modHouse .h1 fun h => { h with reel := { h.reel with missed := some .notThreaded } }).house .h1).reel.missed
        = some .notThreaded ∧
      (cued.station .s2).lamp.state = .burn ∧ (cued.station .s2).motor = .atSpeed ∧ (cued.house .h1).port = .up ∧
      (cued.house .h1).reel.missed = none ∧ (cued.station .s1).counter + 1 = 28780 := by
  refine ⟨atStrike_lamps, fun t₀ => ?_, ?_⟩
  · cases t₀ <;> (unfold StrikeAllowed; decide)
  · unfold StartAllowed; decide

theorem witness_FootageCuesAreTaken :
    OrderInv atStrike ∧ StrikeAllowed atStrike .s2 .h ∧ (reelA2 .threaded (some .s2)).asTaken ∧
      ((atStrike.house .h1).queue[0]? = some (reelA1 .playing (some .s1)) ∧
        (atStrike.house .h1).queue[1]? = some (reelA2 .threaded (some .s2)) ∧
        (atStrike.house .h1).regime = some .changeover ∧ (atStrike.station .s1).motor = .atSpeed ∧
        (atStrike.station .s1).counter + 1 + 24 * 90 = 28588 ∧ (atStrike.house .h1).reel.strike = .pending ∧
        (atStrike.station .s2).lamp.state = .cold ∧ ((atStrike.station .s2).prediction).isSome = true) ∧
      ((atMotor.house .h1).engine = .preparing ∧ (atMotor.house .h1).reel.strike = .taken ∧
        (atMotor.house .h1).reel.motor = .pending ∧ (atMotor.station .s1).counter + 1 = 28588 ∧
        (atMotor.station .s2).trip = none ∧ (atMotor.station .s2).motor = .stopped ∧
        (atMotor.station .s2).fb = .closed ∧ (atMotor.station .s2).md.contact = .closed ∧
        (((nextUnbound atMotor).house .h1).queue[1]?).map (·.bound) = some none) ∧
      (atChange.house .h1).engine = .motorCued ∧ (atChange.station .s1).counter + 1 = 28780 ∧
        (atChange.house .h1).reel.change = .pending ∧ (atChange.house .h1).reel.missed = none ∧
        (atChange.station .s2).lamp.state ≠ .burn :=
  ⟨cues_order.1, ⟨by decide, by decide, by decide, by decide, by decide, by decide⟩, reels_asTaken.2.2.2, by decide, by decide,
    by decide⟩

/-- The last picture of a reel: A1 alone on screen, in PLAYING and in RUN-DOWN, and running out in front of A2. -/
def lastReel (engine : EngineState) : State :=
  ((showing engine Reel.clear 28799).modHouse .h1 fun h => { h with queue := [reelA1 .playing (some .s1)] }).modStation .s2
    fun st => { st with counterMode := .hold }
def runningOut : State :=
  (cued.modHouse .h1 fun h =>
    { h with engine := .playing, reel := Reel.clear
             queue := [reelA1 .runOut (some .s1), reelA2 .playing (some .s2)] }).modStation .s1 fun st =>
      { st with counter := 28799 }

theorem tails_order : OrderInv (lastReel .playing) ∧ OrderInv (lastReel .runDown) ∧ OrderInv runningOut := by
  refine ⟨⟨fun h => ?_, fun i => ?_⟩, ⟨fun h => ?_, fun i => ?_⟩, fun h => ?_, fun i => ?_⟩
  all_goals first
    | (cases h <;> (unfold State.bindable; decide))
    | (cases i <;> decide)

/-- A1 with the stop flag, A1 as a SENSOR reel whose second mark did not come, and A1 alone at its tail in STARTING. -/
def stopTail : State :=
  (showing .playing Reel.clear 28799).modHouse .h1 fun h =>
    { h with queue := [{ reelA1 .playing (some .s1) with stop := true }, reelA2 .threaded (some .s2)] }
def sensorTail : State :=
  (showing .motorCued (cuesTaken .taken .taken) 28799).modHouse .h1 fun h =>
    { h with queue := [{ reelA1 .playing (some .s1) with cue := .sensor }, reelA2 .threaded (some .s2)] }
def startingTail : State :=
  ((inLeader 28799).modHouse .h1 fun h => { h with queue := [reelA1 .threaded (some .s1)] })
    |>.modStation .s2 fun st => { st with counterMode := .hold }

theorem more_tails_order : OrderInv stopTail ∧ OrderInv sensorTail ∧ OrderInv startingTail := by
  refine ⟨⟨fun h => ?_, fun i => ?_⟩, ⟨fun h => ?_, fun i => ?_⟩, fun h => ?_, fun i => ?_⟩
  all_goals first
    | (cases h <;> (unfold State.bindable; decide))
    | (cases i <;> decide)

theorem witness_TailsEndReels_more :
    OrderInv stopTail ∧ OrderInv sensorTail ∧ OrderInv startingTail ∧
      (stopTail.house .h1).queue.length = 2 ∧ (stopTail.house .h1).engine ∈ [.playing, .preparing, .motorCued] ∧
      ((stopTail.modHouse .h1 fun h => { h with regime := some .single }).house .h1).regime = some .single ∧
      (sensorTail.house .h1).queue[0]? = some { reelA1 .playing (some .s1) with cue := .sensor } ∧
      (sensorTail.house .h1).queue[1]? = some (reelA2 .threaded (some .s2)) ∧
      (sensorTail.house .h1).engine ∈ [.preparing, .motorCued] ∧ (sensorTail.house .h1).regime = some .changeover ∧
      (sensorTail.house .h1).reel.strike = .taken ∧ (sensorTail.house .h1).reel.missed.getD .sensor = .sensor ∧
      (sensorTail.station .s1).counter + 1 = 28800 ∧ (startingTail.house .h1).engine = .starting ∧
      (startingTail.house .h1).queue.eraseIdx 0 = [] ∧ (startingTail.station .s1).motor = .atSpeed ∧
      (startingTail.station .s1).counter + 1 = 28800 :=
  ⟨more_tails_order.1, more_tails_order.2.1, more_tails_order.2.2, by decide⟩

theorem witness_TailsEndReels :
    OrderInv (lastReel .playing) ∧ OrderInv (lastReel .runDown) ∧ OrderInv runningOut ∧
      (reelA1 .runOut (some .s1)).asTaken ∧ (runningOut.house .h1).queue[0]? = some (reelA1 .runOut (some .s1)) ∧
      (runningOut.station .s1).motor = .atSpeed ∧ (runningOut.station .s1).counter + 1 = 28800 ∧
      ((lastReel .playing).house .h1).engine ∈ [.playing, .preparing, .motorCued] ∧
      ((lastReel .playing).house .h1).queue.length = 1 ∧ ((lastReel .playing).station .s1).counter + 1 = 28800 ∧
      ((lastReel .runDown).house .h1).engine = .runDown ∧ ((lastReel .runDown).house .h1).settings.level ≤ 1000 ∧
      ((lastReel .runDown).house .h1).settings.fade ≤ 60000 :=
  ⟨tails_order.1, tails_order.2.1, tails_order.2.2, reels_asTaken.2.1, by decide⟩

theorem witness_FaultRecordLines :
    LineFree faulted ∧ (quiet.house .h1).fault = none ∧ (faulted.house .h1).fault.isSome = true ∧
      (faulted.house .h1).engine = .fault ∧ (faulted.house .h1).fault.map (·.read) = some false ∧
      ((run (.hf 1) faulted).house .h1).fault.map (·.read) = some true ∧ (quiet.house .h1).engine ≠ .fault :=
  ⟨⟨rfl, rfl⟩, by decide⟩

def armed (engine : EngineState) (a : Alarm) (time : Nat) : State :=
  { (ready.modHouse .h1 fun h => { h with engine := engine, alarm := some a }) with
    clock := { quiet.clock with time := time, isSet := true } }

theorem witness_HouseSettingsLine :
    LineFree quiet ∧ (quiet.house .h1).alarm = none ∧
      ((armed .idle ⟨0, 86310, .armed⟩ 86309).house .h1).alarm = some ⟨0, 86310, .armed⟩ ∧
      (armed .idle ⟨0, 86310, .armed⟩ 86309).clock.time < 86400 :=
  ⟨quiet_free, by decide⟩

def waiting : State := ready.modHouse .h1 fun h => { h with engine := .starting, step := some .lampWait, lampWait := true }

theorem witness_LampWaitAndPortFaults :
    (waiting.house .h1).engine = .starting ∧ (waiting.house .h1).lampWait = true ∧
      (waiting.house .h1).startStation = some .s1 ∧ (waiting.station .s1).house = .h1 ∧
      (ready.house .h1).engine ∉ [.starting, .playing, .preparing, .motorCued, .runDown] ∧
      (onScreen.house .h1).engine ∈ [.starting, .playing, .preparing, .motorCued, .runDown] ∧
      (onScreen.house .h1).port = .up ∧ (onScreen.house .h1).fault = none := by decide

/-! ### Witnesses of the show clock -/

theorem witness_ClockCountsTheMains :
    (quiet.clock.cycles + 1 < 50) ∧
      50 ≤ ({ quiet with clock := { quiet.clock with cycles := 49 } } : State).clock.cycles + 1 ∧
      (∀ h a, (quiet.house h).alarm = some a → a.start ≠ 1 ∧ (a.state = .armed → a.pre ≠ 1)) :=
  ⟨by decide, by decide, fun h a e => by cases h <;> cases e⟩

theorem witness_AlarmTimesFire :
    ((armed .idle ⟨60, 30, .done⟩ 59).house .h1).alarm = some ⟨60, 30, .done⟩ ∧
      (∀ k, k ≠ .h1 → ((armed .idle ⟨60, 30, .done⟩ 59).house k).alarm = none) ∧
      ((armed .idle ⟨60, 30, .done⟩ 59).clock.time + 1) % 86400 = 60 ∧
      ((armed .idle ⟨60, 30, .done⟩ 59).house .h1).engine ≠ .ready ∧
      ((armed .ready ⟨60, 30, .done⟩ 59).house .h1).engine = .ready ∧
      ((armed .ready ⟨60, 30, .done⟩ 59).house .h1).queue.head? = some (reelA1 .threaded (some .s1)) ∧
      ((armed .ready ⟨60, 30, .done⟩ 59).house .h1).port = .up ∧
      ((armed .idle ⟨60, 0, .armed⟩ 86399).clock.time + 1) % 86400 = 0 ∧
      StrikeAllowed ((armed .ready ⟨60, 0, .armed⟩ 86399).modStation .s1 (Station.coldLamp 420)) .s1 .h ∧
      (∀ t₀, ¬ StrikeAllowed ((armed .ready ⟨60, 0, .armed⟩ 86399).modStation .s1 (Station.coldLamp 419)) .s1 t₀) ∧
      ((armed .ready ⟨60, 0, .armed⟩ 86399).house .h1).queue.head?.bind (fun e => e.bound) = some .s1 ∧
      ((armed .ready ⟨60, 0, .armed⟩ 86399).station .s1).lamp.state ≠ .cold := by
  refine ⟨by decide, fun k h => by cases k <;> first | decide | exact absurd rfl h, by decide, by decide, by decide, by decide,
    by decide, by decide, ?_, fun t₀ => ?_, by decide⟩
  · unfold StrikeAllowed; decide
  · cases t₀ <;> (unfold StrikeAllowed; decide)

theorem witness_ClockAndAlarmLines :
    LineFree quiet ∧ (0 : Int) ≤ 23 ∧ (0 : Int) ≤ (none : Option Int).getD 0 ∧ (some (59 : Int)).getD 0 ≤ 59 ∧
      59 < (some (60 : Int)).getD 0 ∧ (armed .idle ⟨0, 86310, .armed⟩ 86399).clock.isSet = true ∧
      (armed .idle ⟨0, 86310, .armed⟩ 86399).clock.time < 86400 ∧ quiet.clock.isSet = false :=
  ⟨quiet_free, by decide⟩

/-! ### Witnesses of the lamps, the feed and the carbon -/

/-- A cold lamp with exactly the strike reserve. -/
def strikable : State := quiet.modStation .s2 (Station.coldLamp 420)

theorem witness_StrikeLine :
    LineFree strikable ∧ StrikeAllowed strikable .s2 .h ∧ (strikable.station .s2).lamp.state = .cold ∧
      ({ strikable with arbiter := { strikable.arbiter with supply := .recharge, recharge := true } } : State).arbiter.recharge
        = true ∧
      strikable.arbiter.supply = .free ∧ strikable.arbiter.recharge = false ∧ strikable.arbiter.queue = [] ∧
      .s2 ∈ strikable.arbiter.order ∧ (resetting.station .s1).condition = .resetting ∧
      ((strikable.modStation .s2 fun st => { st with trip := some .gate }).station .s2).trip.isSome = true ∧
      (quiet.station .s2).lamp.state ≠ .cold ∧
      ((strikable.modStation .s2 fun st => { st with carbon := { st.carbon with rp := 419 } }).station .s2).carbon.rp
        < Trim.h.stub + 20 * Trim.h.sp :=
  ⟨⟨rfl, rfl⟩, ⟨by decide, by decide, by decide, by decide, by decide, by decide⟩, by decide⟩

theorem witness_ExtinguishAndCarbonLines :
    LineFree litByHand ∧ (litByHand.station .s1).condition = .normal ∧ litByHand.engaged .s1 = false ∧
      (litByHand.station .s1).lamp.state ≠ .lockout ∧
      ((quiet.modStation .s1 fun st => { st with lamp := { st.lamp with state := .lockout } }).station .s1).lamp.state
        = .lockout ∧
      (quiet.station .s1).trim = some .h ∧ (quiet.station .s1).lamp.state.out = true ∧
      (litByHand.station .s1).lamp.state.out = false :=
  ⟨⟨rfl, rfl⟩, by decide⟩

def struck : State := run (.ls 2) strikable

/-- S3 and S5 wait while the supply recharges. -/
def recharging : State :=
  let queued (st : Station) : Station :=
    { st with lamp := { st.lamp with state := .queued, cls := some .normal }, carbon := { st.carbon with rp := 2950 } }
  { (quiet.modStation .s3 queued).modStation .s5 queued with
    arbiter := { quiet.arbiter with queue := [.s5, .s3], supply := .recharge, recharge := true } }

theorem recharging_lamps : LampInv recharging := by
  refine ⟨fun i => ?_, by decide, by decide, by decide, by decide, by decide, fun h => by cases h⟩
  cases i <;> (unfold Station.barred; decide)

theorem witness_StrikePulseAndRechargeEnd :
    (struck.station .s2).lamp.state = .striking ∧ (struck.station .s2).lamp.pulseTimer = true ∧ LampInv recharging ∧
      recharging.arbiter.recharge = true ∧ recharging.arbiter.queue ≠ [] ∧
      ({ quiet with arbiter := { quiet.arbiter with supply := .recharge, recharge := true } } : State).arbiter.recharge
        = true :=
  ⟨by decide, by decide, recharging_lamps, by decide⟩

def establishing (n retry : Nat) : State :=
  (run (.strikePulseEnd .s2) struck).modStation .s2 fun st =>
    { st with lamp := { st.lamp with establish := n, retry := retry } }

/-- The lamp of the start-sequence or on-screen station S1 in ESTABLISH. -/
def establishingAt (s : State) : State :=
  (s.modStation .s1 fun st =>
    { st with
        lamp := { st.lamp with state := .establish, granted := some .normal, establish := 14, retry := 2 }
        channel := { st.channel with sampleTimer := true, status := .live } })

theorem witness_EstablishSamples_engaged :
    ((establishingAt waiting).house .h1).startStation = some .s1 ∧ ((establishingAt waiting).house .h1).step = some .lampWait ∧
      StartAllowed (establishingAt waiting) .s1 ∧ ((establishingAt waiting).station .s1).fb = .closed ∧
      ((establishingAt waiting).station .s1).motor ≠ .atSpeed ∧
      ((establishingAt waiting).house .h1).queue.head? = some (reelA1 .threaded (some .s1)) ∧
      (reelA1 .threaded (some .s1)).asTaken ∧ 14 ≤ ((establishingAt waiting).station .s1).lamp.establish ∧
      2 ≤ ((establishingAt waiting).station .s1).lamp.retry ∧
      ((establishingAt onScreen).house .h1).onScreen = some .s1 ∧
      ((establishingAt onScreen).house .h1).startStation ≠ some .s1 :=
  ⟨by decide, by decide, ⟨by decide, by decide, by decide, by decide, by decide⟩, by decide, by decide, by decide,
    reels_asTaken.1, by decide⟩

theorem witness_EstablishSamples :
    ((establishing 14 2).station .s2).trim = some .h ∧
      ((establishing 14 2).station .s2).channel.params = some ⟨112, 2, 4, 256, .step⟩ ∧
      ((establishing 14 2).station .s2).lamp.state = .establish ∧
      ((establishing 14 2).station .s2).channel.sampleTimer = true ∧ (establishing 14 2).engaged .s2 = false ∧
      14 ≤ ((establishing 14 2).station .s2).lamp.establish ∧ ((establishing 13 1).station .s2).lamp.establish < 14 ∧
      2 ≤ ((establishing 14 2).station .s2).lamp.retry ∧ ((establishing 13 1).station .s2).lamp.retry < 2 ∧
      Trim.h.imin = 40 := by decide

/-- Class H, T 16, K 15, BURST and 126 at the arc: an effective error of 12 pays four steps. Rp 384 gives two of them down to
the stub of 380, and 381 gives none. -/
def burstAt (rp : Nat) (s : State) : State :=
  s.modStation .s1 fun st =>
    { (Station.burning rp 0 st) with
        channel := { (Station.burning rp 0 st).channel with params := some ⟨112, 2, 15, 16, .burst⟩ } }

theorem witness_FeedSampleFeedsTheArc :
    (litByHand.station .s1).trim = some .h ∧ (litByHand.station .s1).channel.params = some ⟨112, 2, 4, 256, .step⟩ ∧
      (litByHand.station .s1).lamp.state = .burn ∧ (litByHand.station .s1).channel.sampleTimer = true ∧
      Trim.h.imin ≤ 40 ∧ Trim.h.stub + 1 * Trim.h.sp ≤ (litByHand.station .s1).carbon.rp ∧
      ((burstAt 384 litByHand).station .s1).channel.params = some ⟨112, 2, 15, 16, .burst⟩ ∧
      4 < 12 * 15 / 16 ∧ Trim.h.stub + 2 * Trim.h.sp ≤ ((burstAt 384 litByHand).station .s1).carbon.rp ∧
      ((burstAt 384 litByHand).station .s1).carbon.rp < Trim.h.stub + (2 + 1) * Trim.h.sp ∧
      ((burstAt 381 litByHand).station .s1).carbon.rp < Trim.h.stub + (0 + 1) * Trim.h.sp ∧
      (litByHand.house .h1).startStation ≠ some .s1 ∧ (litByHand.house .h1).onScreen ≠ some .s1 ∧
      ((burstAt 384 onScreen).house .h1).onScreen = some .s1 := by decide

theorem witness_LossAndShortSamples :
    (litByHand.station .s1).trim = some .h ∧ (litByHand.station .s1).channel.params.isSome = true ∧
      (litByHand.station .s1).lamp.state = .burn ∧ (litByHand.house .h1).onScreen ≠ some .s1 ∧
      (litByHand.house .h1).startStation ≠ some .s1 ∧ (onScreen.house .h1).onScreen = some .s1 ∧
      (onScreen.station .s1).lamp.state = .burn ∧ 39 < Trim.h.imin ∧
      ({ litByHand with arbiter := { litByHand.arbiter with supply := .recharge, recharge := true } } : State).arbiter.recharge
        = true ∧
      (litByHand.house .h1).settings.restrike = true ∧ (litByHand.station .s1).lamp.restrike < 2 ∧
      Trim.h.stub + 20 * Trim.h.sp ≤ (litByHand.station .s1).carbon.rp ∧
      ((litByHand.modStation .s1 fun st =>
        { st with channel := { st.channel with loss := 1, short := 2 } }).station .s1).channel.short + 1 = 3 := by decide

theorem witness_JogLineAndSteps :
    (strikable.station .s2).trim = some .h ∧ LineFree strikable ∧ (strikable.station .s2).condition = .normal ∧
      (strikable.station .s2).channel.jog = none ∧ (strikable.station .s2).trip = none ∧ strikable.fire.booth = none ∧
      (strikable.station .s2).lamp.state = .cold ∧ strikable.engaged .s2 = false ∧
      ((strikable.modStation .s2 fun st => { st with channel := { st.channel with jog := some 1 } }).station .s2).channel.jog
        = some 1 ∧
      Trim.h.stub + Trim.h.sp ≤ (strikable.station .s2).carbon.rp ∧
      ((strikable.modStation .s2 fun st => { st with carbon := { st.carbon with rp := 381 } }).station .s2).carbon.rp
        < Trim.h.stub + Trim.h.sp :=
  ⟨by decide, ⟨rfl, rfl⟩, by decide⟩

/-- S1 on screen with seven closed buckets, near the end of its carbon. -/
def lowOnScreen : State :=
  onScreen.modStation .s1 fun st =>
    { st with carbon := { rp := 1000, window := [13, 12, 13, 12, 14, 13, 12], openBucket := some 13, bucketTimer := true
                          mark := .clear } }

/-- The window of `lowOnScreen` closes with 13 to 102 steps in eight buckets; with two buckets the nominal rate of class H
counts, and a window without a step predicts the most. -/
theorem witness_BucketCloses :
    (litByHand.station .s1).carbon.openBucket = some 0 ∧ (litByHand.station .s1).carbon.bucketTimer = true ∧
      (litByHand.house .h1).onScreen ≠ some .s1 ∧ (lowOnScreen.house .h1).onScreen = some .s1 ∧
      (lowOnScreen.house .h1).playing = some (reelA1 .playing (some .s1)) ∧ (lowOnScreen.station .s1).trim = some .h ∧
      (lowOnScreen.station .s1).lamp.state = .burn ∧ (lowOnScreen.station .s1).carbon.window.length = 7 ∧
      (lowOnScreen.station .s1).carbon.mark = .clear ∧ (lowOnScreen.station .s1).carbon.window.sum + 13 = 102 ∧
      min ((1000 - 380) / 2 * (30 * 8) / 102) 65535 < (28800 - (lowOnScreen.station .s1).counter) / 24 + 60 ∧
      (28800 - (lowOnScreen.station .s1).counter) / 24 + 60 ≤ min ((2950 - 380) / 2 * (30 * 8) / 102) 65535 ∧
      ([0, 0, 0, 0] : List Nat).sum = 0 ∧ min ((400 - 380) / 2 * 60 / Trim.h.rate) 65535 < 0 + 60 ∧
      ((lowOnScreen.modStation .s1 fun st =>
        { st with carbon := { st.carbon with mark := .given } }).station .s1).carbon.mark = .given := by decide

theorem witness_ParameterAndOrderModeLines :
    LineFree litByHand ∧ (litByHand.station .s1).condition = .normal ∧ (litByHand.station .s1).trim = some .h ∧
      (litByHand.station .s1).channel.params = some ⟨112, 2, 4, 256, .step⟩ ∧
      (litByHand.station .s1).channel.credit + 1 ≤ 256 ∧
      ((quiet.modStation .s1 (Station.burning 900 255)).station .s1).channel.credit + 1 ≤ 256 ∧
      (resetting.station .s1).condition = .resetting ∧ (absentS1.station .s1).condition = .normal ∧
      (absentS1.station .s1).present = false :=
  ⟨⟨rfl, rfl⟩, by decide⟩

/-! ### Witnesses of the house lights and the fire protection -/

def panicLit (n : Nat) : State :=
  quiet.modHouse .h1 fun h =>
    { h with light := { level := 300, target := 300, remaining := n, timer := decide (0 < n), fire := .clear, panic := .set } }

theorem witness_HouseLightsFadeAndRestore :
    LineFree (panicLit 0) ∧ 0 < ((panicLit 1).house .h1).light.remaining ∧ ((panicLit 1).house .h1).light.timer = true ∧
      ((panicLit 600).house .h1).light.remaining ≤ 600 ∧ ((panicLit 0).house .h1).light.panic = .set ∧
      ((panicLit 0).house .h1).light.fire = .clear ∧ ((panicLit 0).house .h1).light.target ≤ 1000 ∧
      (quiet.house .h1).light.panic = .clear ∧
      ((run (.ghOpen .s1) quiet).house .h1).light.fire = .set :=
  ⟨⟨rfl, rfl⟩, by decide⟩

theorem witness_BoothTripStopsTheBooth :
    boothCause (.boothTripInput .fa) = some .alarm ∧ LineFree onScreen ∧ StationInv onScreen ∧ LampInv onScreen ∧
      onScreen.fire.booth = none ∧ (run .ft quiet).fire.booth.isSome = true :=
  ⟨by decide, onScreen_free, onScreen_stations, onScreen_lamps, by decide⟩

def afterFt : State := { run .ft quiet with line := quiet.line }

theorem witness_CaptureReadAndFireClear :
    LineFree afterFt ∧ quiet.fire.capture = .empty ∧
      (∃ f, afterFt.fire.capture = .locked f) ∧ (∃ f, (run .fq afterFt).fire.capture = .read f) ∧
      (run (.boothTripInput .fa) quiet).fire.fa = .opened ∧
      (∀ f, (run .fq afterFt).fire.capture ≠ .locked f) ∧ (run .fq afterFt).fire.fa = .closed ∧
      (∀ i, ((run .fq afterFt).station i).gh = .closed ∧ ((run .fq afterFt).station i).lt = .closed) :=
  ⟨⟨rfl, rfl⟩, rfl, ⟨_, rfl⟩, ⟨_, rfl⟩, rfl, (fun f h => by cases h), rfl, fun i => by cases i <;> exact ⟨rfl, rfl⟩⟩

theorem witness_GateReleasesPortsAndInputsClose :
    (quiet.station .s1).present = true ∧ ((run (.ghOpen .s1) quiet).house .h1).releasePulse = true := by decide

/-! ### Witnesses of the invariants, away from reset -/

theorem witness_MotorsStayBarredAndTimed : StationInv onScreen ∧ ∃ t, step onScreen = .next t :=
  ⟨onScreen_stations, _, rfl⟩

theorem witness_StrikeSupplyServesOneLamp : LampInv recharging ∧ ∃ t, step recharging = .next t :=
  ⟨recharging_lamps, _, rfl⟩

theorem witness_OrdersAndLightsStayInRange :
    EntriesInv onScreen ∧ LightInv (panicLit 600) ∧ ∃ t, step onScreen = .next t := by
  refine ⟨fun i => ?_, fun i => ?_, _, rfl⟩
  · cases i <;> (unfold Entry.asTaken; decide)
  · cases i <;> decide

theorem witness_BindingsStayConsistent : OrderInv onScreen ∧ ∃ t, step onScreen = .next t :=
  ⟨onScreen_order, _, rfl⟩

theorem witness_ArcRecordsStayInRange : ArcInv onScreen ∧ ∃ t, step onScreen = .next t := by
  refine ⟨⟨onScreen_lamps, fun i => ?_⟩, _, rfl⟩
  cases i <;> (unfold Station.arcInv Params.inRange; decide)

theorem witness_LineUnitStaysConsistent :
    LineInv (withLine fun l => { l with transmit := .sending, timer := .suspended, owed := 3, buffer := ['A'] }) := by
  unfold LineInv; decide

theorem witness_BoothTripHoldsTheBooth : BoothInv (run .ft quiet) ∧ (run .ft quiet).fire.booth.isSome = true := by
  refine ⟨⟨fun i => ?_, ⟨fun i => ?_, by decide, by decide, by decide, by decide, by decide, fun _ i => ?_⟩, ⟨fun h => ?_, fun i => ?_⟩,
    rfl, fun _ => ⟨fun i => ?_, fun h => ?_⟩⟩, rfl⟩
  · cases i <;> (unfold Station.barred; decide)
  · cases i <;> (unfold Station.barred; decide)
  · cases i <;> decide
  · cases h <;> (unfold State.bindable; decide)
  · cases i <;> decide
  · cases i <;> decide
  · cases h <;> decide

end Sys2Proof.Tests
end

/-!
What every command does at its end: it goes on, the outputs follow the records after it, and the waiting commands are as
they were. First the operations that `Kept` says nothing of yet, then the answers of the console lines, then the events.
-/

namespace Sys2Proof.Machine

/-! ### Operations of the stations -/

theorem Kept.pending {s t : State} (h : Kept s t) : t.pending = s.pending := h.1

theorem Kept.foldl {α : Type} (f : State → α → State) (hf : ∀ t a, Kept t (f t a)) (l : List α) (s : State) :
    Kept s (l.foldl f s) := by
  induction l generalizing s with
  | nil => exact Kept.refl s
  | cons a l ih => exact (hf s a).trans (ih _)

theorem State.tail_kept (s : State) (i : StationId) : Kept s (s.tail i) :=
  Kept.ite (s.picture_kept _ i) (s.reelTail_kept i)

theorem State.pulseTests_kept (s : State) (i : StationId) : Kept s (s.pulseTests i) :=
  Kept.ite (Kept.ite (s.leaderTest_kept _ i) (Kept.refl s)) (Kept.ite (s.testFootage_kept _) (Kept.refl s))

theorem State.dropBinding_kept (s : State) (i : StationId) : Kept s (s.dropBinding i) := by
  unfold State.dropBinding
  split
  · exact Kept.ite (s.removeEntry_kept i) (s.modHouse_kept _ _)
  · exact Kept.refl s

/-! ### Changes under a standing booth trip -/

theorem State.underBoothTrip_kept (s : State) (i : StationId) : Kept s (s.underBoothTrip i) :=
  Kept.ite (s.tripBooth_kept i) (Kept.refl s)

theorem State.suspendUnderBoothTrip_kept (s : State) (h : HouseId) : Kept s (s.suspendUnderBoothTrip h) :=
  Kept.ite ((s.darkenHouse_kept h).trans (State.modHouse_kept _ h _)) (Kept.refl s)

theorem State.presenceAct_kept (s : State) (i : StationId) (a : PresenceAct) : Kept s (s.presenceAct i a) := by
  cases a with
  | booth => exact s.underBoothTrip_kept i
  | gh => exact s.stationTrip_kept i _ _
  | lt => exact s.stationTrip_kept i _ _

theorem State.madePresent_kept (s : State) (i : StationId) : Kept s (s.madePresent i) :=
  ((s.freeOrder_kept _).trans (Kept.foldl _ (fun t a => t.presenceAct_kept i a) _ _)).trans
    (State.suspendUnderBoothTrip_kept _ _)

/-! ### Operations of the lamps, the arc channels and the carbon -/

theorem State.consoleExtinguish_kept (s : State) (i : StationId) : Kept s (s.consoleExtinguish i) := by
  unfold State.consoleExtinguish
  cases (s.station i).lamp.state with
  | queued | striking | establish | burn => exact (s.extinguish_kept i).trans (State.engineLamp_kept _ i)
  | lockout => exact s.setLamp_kept i _ _
  | cold | stub => exact Kept.refl s

theorem State.recordCarbon_kept (s : State) (i : StationId) (t : Trim) (rp : Nat) : Kept s (s.recordCarbon i t rp) :=
  (s.modStation_kept i _).trans (State.setLamp_kept _ i _ _)

/-- A lamp that changes state, with the house engine told of it (R46, R47, R61). -/
theorem State.setLamp_engineLamp_kept (s : State) (i : StationId) (new : LampState) :
    Kept s ((s.setLamp i new).engineLamp i) :=
  (s.setLamp_kept i new none).trans (State.engineLamp_kept _ i)

/-- A lamp put into the strike queue, with the test for a grant (R109, R115, R116). -/
theorem State.queueLamp_kept (s : State) (i : StationId) (cls : Option StrikeClass) :
    Kept s (s.setLamp i .queued cls).testGrant :=
  (s.setLamp_kept i .queued cls).trans (State.testGrant_kept _)

theorem State.feedSample_kept (s : State) (i : StationId) (t : Trim) (p : Params) (v : Nat) :
    Kept s (s.feedSample i t p v) := by
  have hstub : ∀ (u : State) (w : Bool), Kept u (if w then u.setLamp i .stub else u) :=
    fun u _ => Kept.ite (u.setLamp_kept i .stub none) (Kept.refl u)
  have hpulses : ∀ (u : State) (n : Nat), Kept u (u.modChannel i fun c => { c with fsPulses := n }) :=
    fun u _ => u.modStation_kept i _
  have htold : ∀ (u : State) (w : Bool), Kept u (if w then u.engineLamp i else u) :=
    fun u _ => Kept.ite (u.engineLamp_kept i) (Kept.refl u)
  exact (((s.modStation_kept i _).trans (hstub _ _)).trans (hpulses _ _)).trans (htold _ _)

theorem State.arcLost_kept (s : State) (i : StationId) : Kept s (s.arcLost i) :=
  Kept.ite ((s.modStation_kept i _).trans (State.queueLamp_kept _ i _)) (s.setLamp_engineLamp_kept i .lockout)

theorem State.burnSample_kept (s : State) (i : StationId) (t : Trim) (p : Params) (v a : Nat) :
    Kept s (s.burnSample i t p v a) := by
  have hcounts : ∀ loss short, Kept s (s.noFeed i loss short) := fun _ _ => s.modStation_kept i _
  exact Kept.ite (s.feedSample_kept i t p v)
    (Kept.ite ((hcounts _ _).trans (State.setLamp_engineLamp_kept _ i .lockout))
      (Kept.ite ((hcounts _ _).trans (State.arcLost_kept _ i)) (hcounts _ _)))

theorem State.establishSample_kept (s : State) (i : StationId) (t : Trim) (v a : Nat) :
    Kept s (s.establishSample i t v a) :=
  Kept.ite (Kept.ite (s.modStation_kept i _) (s.setLamp_engineLamp_kept i .burn))
    (Kept.ite ((s.modStation_kept i _).trans (State.queueLamp_kept _ i _))
      ((s.modStation_kept i _).trans (State.setLamp_engineLamp_kept _ i .lockout)))

theorem State.onScreenCheck_kept (s : State) (i : StationId) : Kept s (s.onScreenCheck i) := by
  unfold State.onScreenCheck
  dsimp only
  split
  · split
    · exact Kept.ite ((s.modStation_kept i _).trans (State.latch_kept _ _)) (Kept.refl s)
    · exact Kept.refl s
  · exact Kept.refl s

/-! ### Operations of the running orders and the house engines -/

theorem State.insertEntry_kept (s : State) (h : HouseId) (k : Nat) (e : Entry) : Kept s (s.insertEntry h k e) := by
  have joined : ∀ t : State, Kept t (t.joined h k) := fun t => Kept.ite (t.testFootage_kept h) (Kept.refl t)
  exact ((s.modHouse_kept h _).trans (State.modHouse_kept _ h _)).trans (joined _)

theorem State.clearBinding_kept (s : State) (e : Entry) : Kept s (s.clearBinding e) := by
  unfold State.clearBinding
  split
  · exact Kept.trans (Kept.ite (s.modStation_kept _ _) (Kept.refl s)) (State.modStation_kept _ _ _)
  · exact Kept.refl s

theorem State.endShow_kept (s : State) (h : HouseId) : Kept s (s.endShow h) :=
  (((Kept.forStations s _ _ fun i t => t.closeDown_kept i).trans
    (Kept.forStations _ _ _ fun i t => t.dropRunOut_kept i)).trans (State.modHouse_kept _ h _)).trans
      (State.modHouse_kept _ h _)

/-! ### The show clock -/

theorem State.firePreStrike_kept (s : State) (h : HouseId) : Kept s (s.firePreStrike h) := by
  unfold State.firePreStrike
  have hdone := s.modHouse_kept h fun hs => { hs with alarm := hs.alarm.map fun a => { a with state := .done } }
  dsimp only
  split
  · split
    · exact Kept.ite (hdone.trans (State.requestStrike_kept _ _)) hdone
    · exact hdone
  · exact hdone

theorem State.fireAlarm_kept (s : State) (h : HouseId) : Kept s (s.fireAlarm h) :=
  Kept.ite ((s.modHouse_kept h _).trans (State.eventStart_kept _ h))
    ((s.modHouse_kept h _).trans (State.latch_kept _ _))

theorem State.clockHouse_kept (s : State) (h : HouseId) : Kept s (s.clockHouse h) := by
  have hpre : ∀ b : Bool, Kept s (if b then s.firePreStrike h else s) :=
    fun _ => Kept.ite (s.firePreStrike_kept h) (Kept.refl s)
  exact Kept.ite ((hpre _).trans (State.fireAlarm_kept _ h)) (hpre _)

theorem State.clockSecond_pending (s : State) : s.clockSecond.pending = s.pending := by
  let t : State := { s with clock := { s.clock with cycles := 0, time := (s.clock.time + 1) % daySeconds } }
  have h : Kept t s.clockSecond :=
    (t.freeOrder_kept _).trans (Kept.forHouses _ _ _ fun h u => u.clockHouse_kept h)
  exact h.pending

/-! ### Booth reset -/

theorem State.boundByTrip_kept (s : State) (was : StationId → Bool) (i : StationId) : Kept s (s.boundByTrip was i) :=
  Kept.ite (s.modStation_kept i _) (Kept.refl s)

theorem State.suspendAtReset_kept (s : State) (h : HouseId) : Kept s (s.suspendAtReset h) :=
  Kept.ite (s.modHouse_kept h _) (Kept.refl s)

theorem State.boothReset_pending (s : State) : s.boothReset.pending = s.pending :=
  ((Kept.forStations _ StationId.all _ fun i t => t.boundByTrip_kept _ i).trans
    (Kept.forHouses _ HouseId.all _ fun h t => t.suspendAtReset_kept h)).pending

/-! ### Answers -/

/-- An answer leaves the waiting commands as they were. -/
def KeepsPending (a : Answer) : Prop := ∀ s, (a s).1.pending = s.pending

theorem onStation_keepsPending (n : Int) {a : StationId → Answer} (h : ∀ i, KeepsPending (a i)) :
    KeepsPending (onStation n a) := by
  intro s
  unfold onStation
  split
  · rfl
  · exact h _ s

theorem onHouse_keepsPending (n : Int) {a : HouseId → Answer} (h : ∀ i, KeepsPending (a i)) :
    KeepsPending (onHouse n a) := by
  intro s
  unfold onHouse
  split
  · rfl
  · exact h _ s

theorem onEntry_keepsPending (n p : Int) {a : HouseId → Nat → Entry → Answer}
    (h : ∀ i k e, KeepsPending (a i k e)) : KeepsPending (onEntry n p a) := by
  refine onHouse_keepsPending n fun i s => ?_
  split
  · split
    · rfl
    · exact h _ _ _ s
  · rfl

/-- A checked answer leaves the waiting commands as they were when what it does past its checks does. -/
theorem checked_pending {l : List (Bool × ErrorCode)} {act : Answer} {s : State} (h : (act s).1.pending = s.pending) :
    (checked l act s).1.pending = s.pending := by
  unfold checked
  split
  · rfl
  · exact h

/-! #### Lines of the stations -/

theorem answerMo_keepsPending (n : Int) (on : Bool) : KeepsPending (answerMo n on) :=
  onStation_keepsPending n fun i s => checked_pending <| by
    cases on with
    | false => rfl
    | true =>
      rw [if_pos rfl]
      split
      · rfl
      · exact (s.startMotorThen_kept i id Kept.refl).pending

theorem answerDo_keepsPending (n : Int) (toOpen : Bool) : KeepsPending (answerDo n toOpen) :=
  onStation_keepsPending n fun i s => checked_pending <| by
    cases toOpen with
    | false => rfl
    | true =>
      rw [if_pos rfl]
      split <;> rfl

theorem answerIm_keepsPending (n : Int) (d : Door) (m : DoorMode) : KeepsPending (answerIm n d m) :=
  onStation_keepsPending n fun i s => checked_pending <| by
    dsimp only
    split
    · cases d with
      | ld => exact ((s.modStation_kept i _).trans (State.enforceLd_kept _ i)).pending
      | md => exact ((s.modStation_kept i _).trans (State.enforceMd_kept _ i)).pending
    · rfl

theorem answerSr_keepsPending (n : Int) : KeepsPending (answerSr n) :=
  onStation_keepsPending n fun i s => checked_pending (s.dropBinding_kept i).pending

theorem answerSa_keepsPending (n m : Int) : KeepsPending (answerSa n m) :=
  onStation_keepsPending n fun _ => onHouse_keepsPending m fun _ _ => checked_pending rfl

/-! #### Lines of the running orders -/

theorem answerPa_keepsPending (n : Int) (e : EntryArgs) : KeepsPending (answerPa n e) := fun _ =>
  checked_pending <| onHouse_keepsPending n (fun h s => checked_pending (s.insertEntry_kept h _ _).pending) _

theorem answerPi_keepsPending (n p : Int) (e : EntryArgs) : KeepsPending (answerPi n p e) := fun _ =>
  checked_pending <| onHouse_keepsPending n (fun h s => checked_pending (s.insertEntry_kept h _ _).pending) _

theorem answerPd_keepsPending (n p : Int) : KeepsPending (answerPd n p) :=
  onEntry_keepsPending n p fun _ _ _ _ => checked_pending rfl

theorem answerPc_keepsPending (n : Int) : KeepsPending (answerPc n) :=
  onHouse_keepsPending n fun h s => checked_pending
    ((Kept.foldl _ State.clearBinding_kept (s.house h).queue s).trans (State.modHouse_kept _ h _)).pending

theorem answerPq_keepsPending (n p : Int) : KeepsPending (answerPq n p) :=
  onEntry_keepsPending n p fun _ _ _ _ => rfl

theorem answerTh_keepsPending (n p : Int) : KeepsPending (answerTh n p) :=
  onStation_keepsPending n fun i s => checked_pending <| by
    split
    · rfl
    · split <;> rfl

theorem answerUt_keepsPending (n : Int) : KeepsPending (answerUt n) :=
  onStation_keepsPending n fun i s => checked_pending <| by
    split
    · rfl
    · split
      · rfl
      · split <;> rfl

/-! #### Lines of the house engines -/

theorem answerGo_keepsPending (n : Int) : KeepsPending (answerGo n) :=
  onHouse_keepsPending n fun h s => by
    split
    · rfl
    · exact (s.startSequence_kept h _).pending

theorem answerEn_keepsPending (n : Int) : KeepsPending (answerEn n) :=
  onHouse_keepsPending n fun h s => checked_pending (s.endShow_kept h).pending

theorem answerCo_keepsPending (n : Int) : KeepsPending (answerCo n) :=
  onHouse_keepsPending n fun h s => by
    split
    · exact (State.makeChange_kept _ (fun t => t.testReel_kept h) s h).pending
    · rfl

theorem answerHf_keepsPending (n : Int) : KeepsPending (answerHf n) :=
  onHouse_keepsPending n fun h s => by split <;> rfl

theorem answerHa_keepsPending (n : Int) : KeepsPending (answerHa n) :=
  onHouse_keepsPending n fun _ _ => checked_pending rfl

theorem answerHs_keepsPending (n : Int) (arg : Option SettingArg) : KeepsPending (answerHs n arg) :=
  onHouse_keepsPending n fun _ _ => by cases arg <;> rfl

/-! #### Lines of the show clock, the lamps and the arbiter -/

theorem answerAt_keepsPending (n : Int) (arg : AlarmArg) : KeepsPending (answerAt n arg) :=
  onHouse_keepsPending n fun h s => by
    cases arg with
    | off => rfl
    | arm hh mm => exact checked_pending rfl

theorem answerLs_keepsPending (n : Int) : KeepsPending (answerLs n) :=
  onStation_keepsPending n fun i s => by
    split
    · rfl
    · exact (s.takeStrike_kept i).pending

theorem answerLx_keepsPending (n : Int) : KeepsPending (answerLx n) :=
  onStation_keepsPending n fun i s => checked_pending
    ((s.modStation_kept i _).trans (State.consoleExtinguish_kept (s.endJog i) i)).pending

theorem answerLc_keepsPending (n len : Int) : KeepsPending (answerLc n len) :=
  onStation_keepsPending n fun i s => checked_pending <| by
    dsimp only
    split
    · rfl
    · exact (s.recordCarbon_kept i _ _).pending

theorem answerLp_keepsPending (n : Int) (arg : ParamArg) : KeepsPending (answerLp n arg) :=
  onStation_keepsPending n fun i s => checked_pending <| by dsimp only; split <;> rfl

theorem answerSp_keepsPending (mode : Option OrderMode) : KeepsPending (answerSp mode) := fun _ => by
  cases mode <;> rfl

/-! #### Lines of the house lights and the fire monitor -/

theorem answerLv_keepsPending (n : Int) (arg : LightArg) : KeepsPending (answerLv n arg) :=
  onHouse_keepsPending n fun _ _ => by cases arg <;> rfl

theorem answerLr_keepsPending (n : Int) : KeepsPending (answerLr n) :=
  onHouse_keepsPending n fun h s => by
    split
    · rfl
    · split <;> rfl

theorem answerFq_keepsPending : KeepsPending answerFq := fun s => by
  unfold answerFq; split <;> rfl

/-- The block that owns a line leaves the waiting commands as they were (R173). -/
theorem answer_keepsPending (c : Instr) : KeepsPending (answer c) := by
  cases c with
  | mo n on => exact answerMo_keepsPending n on
  | doDouser n toOpen => exact answerDo_keepsPending n toOpen
  | im n d m => exact answerIm_keepsPending n d m
  | sr n => exact answerSr_keepsPending n
  | sa n m => exact answerSa_keepsPending n m
  | pa n e => exact answerPa_keepsPending n e
  | pi n p e => exact answerPi_keepsPending n p e
  | pd n p => exact answerPd_keepsPending n p
  | pc n => exact answerPc_keepsPending n
  | pq n p => exact answerPq_keepsPending n p
  | th n p => exact answerTh_keepsPending n p
  | ut n => exact answerUt_keepsPending n
  | go n => exact answerGo_keepsPending n
  | en n => exact answerEn_keepsPending n
  | co n => exact answerCo_keepsPending n
  | hf n => exact answerHf_keepsPending n
  | ha n => exact answerHa_keepsPending n
  | hs n arg => exact answerHs_keepsPending n arg
  | ck hh mm ss => exact fun _ => checked_pending rfl
  | atAlarm n arg => exact answerAt_keepsPending n arg
  | ls n => exact answerLs_keepsPending n
  | lx n => exact answerLx_keepsPending n
  | lc n len => exact answerLc_keepsPending n len
  | lf n k => exact onStation_keepsPending n fun _ _ => checked_pending rfl
  | lp n arg => exact answerLp_keepsPending n arg
  | sp mode => exact answerSp_keepsPending mode
  | lv n arg => exact answerLv_keepsPending n arg
  | lr n => exact answerLr_keepsPending n
  | pu => exact fun s => (Kept.forHouses s _ _ fun h t => t.modHouse_kept h _).pending
  | fq => exact answerFq_keepsPending
  | fc => exact fun s => checked_pending s.fireClear_kept.pending
  | ft => exact fun s => (s.boothTrip_kept .console).pending
  | rs => exact fun s => checked_pending s.boothReset_pending
  | sq n | lq n => exact onStation_keepsPending n fun _ _ => rfl
  | hq n => exact onHouse_keepsPending n fun _ _ => rfl
  | _ => exact fun _ => rfl

/-! ### Ends of commands -/

/-- A command run on `s` goes on, with the outputs worked out from the records after it and the waiting commands as they
were. -/
def GoesOn (s : State) (o : Host.Outcome State Fault Refusal) : Prop := ∃ t, o = done t ∧ t.pending = s.pending

theorem GoesOn.ofPending {s t : State} (h : t.pending = s.pending) : GoesOn s (done t) := ⟨t, rfl, h⟩

theorem Kept.goesOn {s t : State} (h : Kept s t) : GoesOn s (done t) := GoesOn.ofPending h.pending

theorem GoesOn.ite {s : State} {o p : Host.Outcome State Fault Refusal} {c : Prop} [Decidable c] (h : GoesOn s o)
    (k : GoesOn s p) : GoesOn s (if c then o else p) := by split <;> assumption

/-- An event that finds nothing to do only sets the outputs again. -/
theorem GoesOn.unchanged (s : State) : GoesOn s (done s) := GoesOn.ofPending rfl

theorem consoleRow_goesOn (c : Instr) {a : Answer} (h : KeepsPending a) (s : State) : GoesOn s (consoleRow c a s) :=
  GoesOn.ite (GoesOn.ofPending rfl) (GoesOn.ite (GoesOn.ofPending rfl) (GoesOn.ofPending (h s)))

/-- The row of a console command is the line unit's treatment of the answer of the block that owns it (R173). -/
theorem exec_console {c : Instr} (hc : c.isConsole = true) (s : State) : exec c s = consoleRow c (answer c) s := by
  cases c <;> cases hc <;> rfl

/-! ### Events of the stations -/

theorem execTachPulse_goesOn (i : StationId) (dir : Direction) (interval : Nat) (s : State) :
    GoesOn s (execTachPulse i dir interval s) := by
  have told : ∀ (t : State) (b : Bool), Kept t (if b then t.engineAtSpeed i else t) :=
    fun t _ => Kept.ite (t.engineAtSpeed_kept i) (Kept.refl t)
  have ended : ∀ (t : State) (p : Prop) [Decidable p], Kept t (if p then t.tail i else t) :=
    fun t _ _ => Kept.ite (t.tail_kept i) (Kept.refl t)
  have moved := (s.modStation_kept i fun st => st.countPulse (s.boundEntry i).isSome dir).trans
    (State.modStation_kept _ i fun st => st.motorPulse interval)
  unfold execTachPulse
  dsimp only
  split
  · exact (moved.trans (told _ _)).goesOn
  · exact GoesOn.ite (((moved.trans (told _ _)).trans (State.pulseTests_kept _ i)).trans (ended _ _)).goesOn
      (moved.trans (told _ _)).goesOn

theorem execRunUpLimit_goesOn (i : StationId) (s : State) : GoesOn s (execRunUpLimit i s) :=
  GoesOn.ite (((s.modStation_kept i _).trans (State.latch_kept _ _)).trans (State.engineSlow_kept _ i)).goesOn
    (GoesOn.unchanged s)

theorem execResetHoldEnd_goesOn (i : StationId) (p : TrimStraps) (s : State) :
    GoesOn s (execResetHoldEnd i p s) := by
  refine GoesOn.ite (GoesOn.ofPending ?_) (GoesOn.unchanged s)
  dsimp only
  split
  · exact (State.madePresent_kept _ i).pending
  · rfl

theorem execLdQualified_goesOn (i : StationId) (c : Contact) (s : State) : GoesOn s (execLdQualified i c s) := by
  refine GoesOn.ite ?_ (GoesOn.ofPending rfl)
  cases (s.station i).ld.mode with
  | enforce => exact ((s.modStation_kept i _).trans (State.enforceLd_kept _ i)).goesOn
  | advisory => exact GoesOn.ofPending rfl

theorem execMdQualified_goesOn (i : StationId) (c : Contact) (s : State) : GoesOn s (execMdQualified i c s) := by
  refine GoesOn.ite ?_ (GoesOn.ofPending rfl)
  cases (s.station i).md.mode with
  | enforce => exact ((s.modStation_kept i _).trans (State.enforceMd_kept _ i)).goesOn
  | advisory => exact GoesOn.ofPending rfl

/-! ### Events of the house engines and the show clock -/

theorem execCuClosing_goesOn (i : StationId) (s : State) : GoesOn s (execCuClosing i s) := by
  unfold execCuClosing
  dsimp only
  split
  · split
    · exact GoesOn.ite (GoesOn.ofPending rfl)
        ((s.modHouse_kept _ _).trans (State.takeCues_kept _ (fun t => t.testReel_kept _) _ _ _)).goesOn
    · exact GoesOn.ofPending rfl
  · exact GoesOn.unchanged s

theorem execCbClosing_goesOn (h : HouseId) (s : State) : GoesOn s (execCbClosing h s) :=
  GoesOn.ite (State.makeChange_kept _ (fun t => t.testReel_kept h) s h).goesOn (s.eventStart_kept h).goesOn

theorem execLampWaitTimeout_goesOn (h : HouseId) (s : State) : GoesOn s (execLampWaitTimeout h s) := by
  unfold execLampWaitTimeout
  dsimp only
  split
  · split
    · exact ((s.extinguish_kept _).trans (State.enterFault_kept _ _ _ _)).goesOn
    · exact (s.enterFault_kept _ _ _).goesOn
  · exact GoesOn.unchanged s

theorem execMainsCycle_goesOn (s : State) : GoesOn s (execMainsCycle s) :=
  GoesOn.ite (GoesOn.ofPending rfl) (GoesOn.ofPending s.clockSecond_pending)

/-! ### Events of the fire monitor -/

theorem execFbOpen_goesOn (i : StationId) (s : State) : GoesOn s (execFbOpen i s) :=
  (Kept.ite ((s.modStation_kept i _).trans (State.stationTrip_kept _ i _ _)) (s.modStation_kept i _)).goesOn

theorem execTripInputQualifiedClosed_goesOn (input : TripInput) (s : State) :
    GoesOn s (execTripInputQualifiedClosed input s) := by
  cases input <;> exact GoesOn.ofPending rfl

theorem execPdChange_goesOn (h : HouseId) (c : Contact) (s : State) : GoesOn s (execPdChange h c s) := by
  cases c with
  | opened => exact GoesOn.ofPending rfl
  | closed =>
    exact (Kept.ite ((s.modHouse_kept h _).trans (State.enterFault_kept _ _ _ _)) (s.modHouse_kept h _)).goesOn

theorem execReleasePulseEnd_goesOn (h : HouseId) (s : State) : GoesOn s (execReleasePulseEnd h s) :=
  GoesOn.ite (Kept.ite ((s.modHouse_kept h _).trans (State.latch_kept _ _)) (s.modHouse_kept h _)).goesOn
    (GoesOn.unchanged s)

/-! ### Events of the lamps, the arc channels and the carbon -/

theorem execRechargeEnd_goesOn (s : State) : GoesOn s (execRechargeEnd s) :=
  GoesOn.ite (GoesOn.ofPending (State.testGrant_kept _).pending) (GoesOn.unchanged s)

theorem execRegulationSample_goesOn (i : StationId) (volts amps : Conversions) (s : State) :
    GoesOn s (execRegulationSample i volts amps s) := by
  unfold execRegulationSample
  dsimp only
  split
  · split
    · split
      · exact ((s.modStation_kept i _).trans (State.establishSample_kept _ i _ _ _)).goesOn
      · exact ((s.modStation_kept i _).trans (State.burnSample_kept _ i _ _ _ _)).goesOn
      · exact GoesOn.unchanged s
    · exact GoesOn.unchanged s
  · exact GoesOn.unchanged s

theorem execJogStep_goesOn (i : StationId) (s : State) : GoesOn s (execJogStep i s) := by
  unfold execJogStep
  dsimp only
  split
  · split
    · exact GoesOn.ofPending rfl
    · exact GoesOn.ofPending (State.setLamp_engineLamp_kept _ i .stub).pending
  · exact GoesOn.unchanged s

theorem execBucketClose_goesOn (i : StationId) (s : State) : GoesOn s (execBucketClose i s) := by
  unfold execBucketClose
  dsimp only
  split
  · exact GoesOn.ite ((s.modStation_kept i _).trans (State.onScreenCheck_kept _ i)).goesOn (GoesOn.unchanged s)
  · exact GoesOn.unchanged s

/-! ### Events of the line unit -/

/-- A line taken is refused or answered by the block that owns it (R169, R171, R173). -/
theorem State.takeLine_pending (s : State) (lead : Text) (l : Line) : (s.takeLine lead l).pending = s.pending := by
  have h : (answerLine l s).1.pending = s.pending := by
    unfold answerLine
    split
    · rfl
    · split
      · rfl
      · exact answer_keepsPending _ s
  exact h

theorem State.receiveCr_pending (s : State) : s.receiveCr.pending = s.pending := by
  unfold State.receiveCr
  dsimp only
  split
  · rfl
  · split
    · rfl
    · exact State.takeLine_pending _ _ _

theorem execCharacterReceived_goesOn (frame : BitVec 8) (stop : Bool) (s : State) :
    GoesOn s (execCharacterReceived frame stop s) := by
  unfold execCharacterReceived
  split
  · exact GoesOn.ofPending rfl
  · exact GoesOn.ite (GoesOn.unchanged s) (GoesOn.ite (GoesOn.ofPending s.receiveCr_pending) (GoesOn.ofPending rfl))

theorem execReplyEnd_goesOn (s : State) : GoesOn s (execReplyEnd s) := by
  unfold execReplyEnd
  dsimp only
  split
  · split
    · exact GoesOn.ofPending (State.takeLine_pending _ _ _)
    · exact GoesOn.ite (GoesOn.ofPending rfl) (GoesOn.ofPending rfl)
  · exact GoesOn.unchanged s

/-! ### Every command -/

theorem exec_event_goesOn {c : Instr} (hc : c.isConsole = false) (s : State) : GoesOn s (exec c s) := by
  cases c with
  | powerOn p => exact GoesOn.ofPending rfl
  | tachPulse i dir interval => exact execTachPulse_goesOn i dir interval s
  | runUpLimit i => exact execRunUpLimit_goesOn i s
  | stall i => exact GoesOn.ite (s.stationTrip_kept i _ _).goesOn (GoesOn.unchanged s)
  | stopTimer i => exact GoesOn.ite (s.modStation_kept i _).goesOn (GoesOn.unchanged s)
  | resetHoldEnd i p => exact execResetHoldEnd_goesOn i p s
  | ldQualified i c => exact execLdQualified_goesOn i c s
  | mdQualified i c => exact execMdQualified_goesOn i c s
  | cuClosing i => exact execCuClosing_goesOn i s
  | cbClosing h => exact execCbClosing_goesOn h s
  | pdChange h c => exact execPdChange_goesOn h c s
  | ghOpen i => exact ((s.modStation_kept i _).trans (State.stationTrip_kept _ i _ _)).goesOn
  | ltOpen i => exact ((s.modStation_kept i _).trans (State.stationTrip_kept _ i _ _)).goesOn
  | fbOpen i => exact execFbOpen_goesOn i s
  | boothTripInput b => exact GoesOn.ofPending (State.boothTrip_kept _ _).pending
  | releasePulseEnd h => exact execReleasePulseEnd_goesOn h s
  | mainsCycle => exact execMainsCycle_goesOn s
  | clockSecond => exact GoesOn.ofPending s.clockSecond_pending
  | lampWaitTimeout h => exact execLampWaitTimeout_goesOn h s
  | strikePulseEnd i => exact GoesOn.ite (s.setLamp_kept i _ _).goesOn (GoesOn.unchanged s)
  | rechargeEnd => exact execRechargeEnd_goesOn s
  | regulationSample i volts amps => exact execRegulationSample_goesOn i volts amps s
  | jogStep i => exact execJogStep_goesOn i s
  | bucketClose i => exact execBucketClose_goesOn i s
  | fadeUpdate h => exact GoesOn.ite (s.modHouse_kept h _).goesOn (GoesOn.unchanged s)
  | characterReceived frame stop => exact execCharacterReceived_goesOn frame stop s
  | characterTimeout => exact GoesOn.ite (GoesOn.ofPending rfl) (GoesOn.unchanged s)
  | replyEnd => exact execReplyEnd_goesOn s
  | tripInputQualifiedClosed input => exact execTripInputQualifiedClosed_goesOn input s
  | _ => cases hc

theorem exec_goesOn (c : Instr) (s : State) : GoesOn s (exec c s) := by
  cases hc : c.isConsole with
  | true => exact exec_console hc s ▸ consoleRow_goesOn c (answer_keepsPending c) s
  | false => exact exec_event_goesOn hc s

/-! ### The outputs as the records give them -/

@[simp] theorem Motor.running_iff (m : Motor) : m.running = true ↔ m = .runUp ∨ m = .atSpeed := by
  cases m <;> decide

@[simp] theorem State.tripped_eq_false_iff (s : State) (i : StationId) :
    s.tripped i = false ↔ (s.station i).trip = none ∧ s.fire.booth = none := by
  simp [State.tripped]

@[simp] theorem DoorState.enforced_eq_false_iff (d : DoorState) :
    d.enforced = false ↔ (d.mode = .enforce → d.contact = .closed) := by
  obtain ⟨contact, mode⟩ := d
  cases contact <;> cases mode <;> decide

/-- A present station's MC is energized in RUNUP and AT-SPEED (R5 to R8). -/
theorem State.stationPins_mc_iff {s : State} {i : StationId} (hp : (s.station i).present = true) :
    (s.stationPins i).mc = true ↔ (s.station i).motor = .runUp ∨ (s.station i).motor = .atSpeed := by
  simp [State.stationPins, hp]

/-- A present station's FH is energized at speed, untripped and with no booth trip in force (R13). -/
theorem State.stationPins_fh_iff {s : State} {i : StationId} (hp : (s.station i).present = true) :
    (s.stationPins i).fh = true ↔
      (s.station i).motor = .atSpeed ∧ (s.station i).trip = none ∧ s.fire.booth = none := by
  simp [State.stationPins, hp]

/-- A present station's DS is open while its demand is OPEN and no condition of R11 fails. -/
theorem State.stationPins_ds_iff {s : State} {i : StationId} (hp : (s.station i).present = true) :
    (s.stationPins i).ds = true ↔
      (s.station i).demandOpen = true ∧ (s.station i).lamp.state = .burn ∧ (s.station i).trip = none ∧
        s.fire.booth = none ∧ (s.house (s.station i).house).port = .up ∧
        ((s.station i).ld.mode = .enforce → (s.station i).ld.contact = .closed) := by
  simp [State.stationPins, State.douserMayOpen, hp, and_assoc]

/-- A present station's SK is energized in STRIKING, untripped and not RESETTING (R19, R105). -/
theorem State.stationPins_sk_iff {s : State} {i : StationId} (hp : (s.station i).present = true) :
    (s.stationPins i).sk = true ↔
      (s.station i).lamp.state = .striking ∧ (s.station i).trip = none ∧ s.fire.booth = none ∧
        (s.station i).condition = .normal := by
  simp [State.stationPins, hp, and_assoc]

/-- An absent station's outputs are released (R2). -/
theorem State.stationPins_absent {s : State} {i : StationId} (hp : (s.station i).present = false) :
    s.stationPins i = { mc := false, ds := false, fh := false, sk := false } := by
  simp [State.stationPins, State.douserMayOpen, hp]

theorem Light.effective_eq (l : Light) :
    l.effective = if l.fire = .set ∨ l.panic = .set then 1000 else l.level := by
  unfold Light.effective
  by_cases hf : l.fire = .set <;> simp [hf]

@[simp] theorem State.outputs_station (s : State) (i : StationId) : s.outputs.stations.get i = s.stationPins i :=
  PerStation.get_build _ i

@[simp] theorem State.outputs_house (s : State) (h : HouseId) : s.outputs.houses.get h = (s.house h).pins :=
  PerHouse.get_build _ h

/-- Settles O2: every row ends in `done`, which works the outputs out from the records it leaves. -/
theorem everyCommandGoesOnAndOutputsFollow : Obligations.EveryCommandGoesOnAndOutputsFollow := by
  intro c s
  obtain ⟨t, hnext, hpending⟩ := exec_goesOn c s
  refine ⟨t.settle, hnext, hpending, fun i hp => ?_, fun i hp => ?_, fun h => ?_, rfl⟩
  · rw [State.settle_pins, State.outputs_station]
    exact ⟨State.stationPins_fh_iff hp, State.stationPins_mc_iff hp, State.stationPins_ds_iff hp,
      State.stationPins_sk_iff hp⟩
  · rw [State.settle_pins, State.outputs_station]
    exact State.stationPins_absent hp
  · rw [State.settle_pins, State.outputs_house]
    exact ⟨rfl, Light.effective_eq _⟩

end Sys2Proof.Machine

/-!
Entries that join a running order (R24 to R31, R50). First the frame of a console line that is answered, then what the
cues make of a running order whose next entry is unbound, then the entry as it is taken and the answers of PA and PI.
-/

namespace Sys2Proof.Machine

/-! ### A console line answered while the line unit is free -/

theorem exec_console_free {c : Instr} (hc : c.isConsole = true) {s : State} (hf : LineFree s) :
    exec c s = .next ((answer c s).1.startReply s.line.echoCr (answer c s).2).settle := by
  rw [exec_console hc, consoleRow_free _ _ _ hf]

/-- An answer that leaves the line unit to its reply has the line answered so, and nothing else becomes of it. -/
theorem answered_of_line {s u : State} (hl : u.line = s.line) (r : Reply) :
    Answered s (u.startReply s.line.echoCr r).settle r := by
  simp [Answered, State.startReply, LineUnit.sent, hl]

/-- The reply itself changes the line unit alone. -/
theorem changesOnly_reply {parts : List Part} {s u : State} (hline : .line ∈ parts)
    (hsame : ∀ p, p ∉ parts → p.same s u) (hpending : u.pending = s.pending) (lead : Text) (r : Reply) :
    ChangesOnly parts s (u.startReply lead r).settle := by
  refine ⟨fun p hp => ?_, hpending, rfl⟩
  cases p with
  | line => exact absurd hline hp
  | straps | station _ | house _ | clock | arbiter | fire | draws => exact hsame _ hp

/-- A change of one house changes no other part. -/
theorem Part.same_modHouse (s : State) {h : HouseId} (f : House → House) {p : Part} (hp : p ≠ .house h) :
    p.same s (s.modHouse h f) := by
  cases p with
  | house k => exact s.house_modHouse_other f fun hk => hp (hk ▸ rfl)
  | straps | station _ | clock | arbiter | fire | line | draws => rfl

/-- A refused line is answered so, and changes nothing but the line unit (R174). -/
theorem exec_of_refused {c : Instr} (hc : c.isConsole = true) {s : State} (hf : LineFree s) {r : ErrorCode}
    (ha : answer c s = (s, .no r)) :
    ∃ t, exec c s = .next t ∧ Answered s t (.no r) ∧ ChangesOnly [.line] s t := by
  refine ⟨_, exec_console_free hc hf, ?_⟩
  rw [ha]
  refine ⟨answered_of_line rfl _, changesOnly_reply (by simp) (fun p _ => ?_) rfl _ _⟩
  cases p <;> rfl

theorem State.modHouse_modHouse (s : State) (h : HouseId) (f g : House → House) :
    (s.modHouse h f).modHouse h g = s.modHouse h fun hs => g (f hs) := by
  cases h <;> rfl

/-! ### Cues and the running order -/

@[simp] theorem House.readyTest_queue (hs : House) : hs.readyTest.queue = hs.queue := by
  unfold House.readyTest
  split <;> rfl

/-- The test of R41 moves between IDLE and READY, in which no cue is taken. -/
theorem House.readyTest_cueing (hs : House) : hs.readyTest.engine.cueing = hs.engine.cueing := by
  unfold House.readyTest
  split
  · rename_i he
    rw [he]
    cases hs.headBound <;> rfl
  · rename_i he
    rw [he]
    cases hs.headBound <;> rfl
  · rfl

/-- The next entry follows from the running order alone (R43). -/
theorem House.next_congr {a b : House} (h : a.queue = b.queue) : a.next = b.next := by
  simp only [House.next, h]

theorem House.incoming_of_unbound {hs : House} (h : (hs.next.bind fun e => e.bound) = none) : hs.incoming = none := by
  simp [House.incoming, h]

theorem EngineState.cueing_eq_false_iff (g : EngineState) :
    g.cueing = false ↔ g ∉ [EngineState.playing, .preparing, .motorCued] := by
  cases g <;> decide

theorem House.cuesPermitted_of_not_cueing {hs : House} (h : hs.engine.cueing = false) : hs.cuesPermitted = false := by
  simp [House.cuesPermitted, h]

/-- No cue is taken while cue processing is not permitted (R49). -/
theorem State.takeCues_of_not_permitted (start : State → State) (s : State) (h : HouseId) (level : Nat)
    (hp : (s.house h).cuesPermitted = false) : State.takeCues start s h level = s := by
  simp [State.takeCues, hp]

theorem State.strikeCue_queue {s : State} {h : HouseId} (hn : ((s.house h).next.bind fun e => e.bound) = none) :
    ((s.strikeCue h).house h).queue = (s.house h).queue := by
  unfold State.strikeCue
  cases hx : (s.house h).next with
  | none => simp
  | some e =>
    have hb : e.bound = none := by simpa [hx] using hn
    simp [hb]

theorem State.motorCue_queue {s : State} {h : HouseId} (hn : ((s.house h).next.bind fun e => e.bound) = none) :
    ((s.motorCue h).house h).queue = (s.house h).queue := by
  unfold State.motorCue
  cases hx : (s.house h).next with
  | none => simp [State.markNotThreaded]
  | some e =>
    have hb : e.bound = none := by simpa [hx] using hn
    simp [hb, State.markNotThreaded]

theorem State.missReason_houses (s : State) (h : HouseId) : (s.missReason h).2.houses = s.houses := by
  unfold State.missReason
  dsimp only
  split
  · rfl
  · split
    · rfl
    · split
      · rfl
      · split <;> rfl

theorem State.stopIncoming_houses (s : State) (h : HouseId) : (s.stopIncoming h).houses = s.houses := by
  unfold State.stopIncoming
  split <;> rfl

/-- RUN-DOWN leaves the running order to the tail (R57, R58). -/
theorem State.runDown_queue (s : State) (h : HouseId) : ((s.runDown h).house h).queue = (s.house h).queue := by
  unfold State.runDown
  simp [State.house, State.modHouse, State.missReason_houses, State.stopIncoming_houses]

/-- With an unbound next entry no changeover can be made, and the change cue is missed (R54, R57). -/
theorem State.changeCue_queue (start : State → State) {s : State} {h : HouseId}
    (hn : ((s.house h).next.bind fun e => e.bound) = none) :
    ((State.changeCue start s h).house h).queue = (s.house h).queue := by
  have hready : s.changeReady h = false := by simp [State.changeReady, House.incoming_of_unbound hn]
  simp [State.changeCue, hready, State.runDown_queue]

/-- While the next entry is unbound no cue moves an entry or its status. -/
theorem State.takeCues_queue (start : State → State) {s : State} {h : HouseId} (level : Nat)
    (hn : ((s.house h).next.bind fun e => e.bound) = none) :
    ((State.takeCues start s h level).house h).queue = (s.house h).queue := by
  have step : ∀ (t : State) (cue : State → State) (due : Bool), (t.house h).queue = (s.house h).queue →
      (∀ u : State, ((u.house h).next.bind fun e => e.bound) = none →
        ((cue u).house h).queue = (u.house h).queue) →
      ((if due then cue t else t).house h).queue = (s.house h).queue := by
    intro t cue due ht hcue
    cases due with
    | false => exact ht
    | true => exact (hcue t (House.next_congr ht ▸ hn)).trans ht
  unfold State.takeCues
  dsimp only
  exact step _ _ _ (step _ _ _ (step _ _ _ rfl fun u => State.strikeCue_queue) fun u => State.motorCue_queue)
    fun u => State.changeCue_queue start

/-! ### The entry joins -/

theorem State.joined_of_not_cueing {s : State} {h : HouseId} (k : Nat) (he : (s.house h).engine.cueing = false) :
    s.joined h k = s := by
  have hp : s.testFootage h = s :=
    State.takeCues_of_not_permitted _ _ _ _ (House.cuesPermitted_of_not_cueing he)
  simp [State.joined, hp]

/-- The cues tested as an unbound entry joins behind the PLAYING one find it as the next, and leave the order (R50). -/
theorem State.joined_queue {s : State} {h : HouseId} {k : Nat} {e : Entry} (hk : (s.house h).queue[k]? = some e)
    (hb : e.bound = none) : ((s.joined h k).house h).queue = (s.house h).queue := by
  unfold State.joined
  split
  · rename_i hp
    obtain ⟨hplaying, hpos⟩ : playingIndex (s.house h).queue = some (k - 1) ∧ 0 < k := by simpa using hp
    have hnext : (s.house h).next = some e := by
      simp [House.next, hplaying, Nat.sub_add_cancel hpos, hk]
    exact State.takeCues_queue _ _ (by simp [hnext, hb])
  · rfl

/-- The house with an entry joined before index k and the test of R41 taken. -/
def House.inserted (hs : House) (k : Nat) (e : Entry) : House :=
  ({ hs with queue := hs.queue.insertIdx k e } : House).readyTest

theorem State.insertEntry_eq (s : State) (h : HouseId) (k : Nat) (e : Entry) :
    s.insertEntry h k e = (s.modHouse h fun hs => hs.inserted k e).joined h k := by
  unfold State.insertEntry State.modQueue State.readyTest
  rw [State.modHouse_modHouse]
  rfl

/-- An unbound entry takes its place whatever cues fall due as it joins (R30, R31). -/
theorem State.insertEntry_queue (s : State) (h : HouseId) {k : Nat} {e : Entry} (hk : k ≤ (s.house h).queue.length)
    (hb : e.bound = none) : ((s.insertEntry h k e).house h).queue = (s.house h).queue.insertIdx k e := by
  have hq : ((s.modHouse h fun hs => hs.inserted k e).house h).queue = (s.house h).queue.insertIdx k e := by
    simp [House.inserted]
  rw [State.insertEntry_eq, State.joined_queue (e := e) _ hb, hq]
  rw [hq, List.getElem?_insertIdx_self, if_pos hk]

/-- While no cue is processed an entry that joins changes its house alone (R30, R31, R41). -/
theorem State.insertEntry_of_not_cueing {s : State} {h : HouseId} (k : Nat) (e : Entry)
    (he : (s.house h).engine.cueing = false) :
    s.insertEntry h k e = s.modHouse h fun hs => hs.inserted k e := by
  rw [State.insertEntry_eq, State.joined_of_not_cueing]
  rw [State.house_modHouse_same]
  exact (House.readyTest_cueing _).trans he

theorem insertIdx_eq_take_cons_drop {α : Type} (x : α) {k : Nat} {l : List α} (hk : k ≤ l.length) :
    l.insertIdx k x = l.take k ++ x :: l.drop k := by
  induction k generalizing l with
  | zero => rfl
  | succ k ih =>
    cases l with
    | nil => cases hk
    | cons a l => simp [ih (Nat.le_of_succ_le_succ hk)]

/-! ### The entry as taken -/

theorem changeTaken_of_given {e : EntryArgs} {n : Int} (h : givenChange e.fields = some n) :
    changeTaken e = clampInt 24 (e.length - 1) n := by simp [changeTaken, h]

theorem changeTaken_of_absent {e : EntryArgs} (h : givenChange e.fields = none) : changeTaken e = e.length - 20 := by
  simp [changeTaken, h]

theorem motorTaken_of_given {e : EntryArgs} {n : Int} (h : givenMotor e.fields = some n) :
    motorTaken e = clampInt 0 (changeTaken e - 24) n := by simp [motorTaken, h]

theorem motorTaken_of_absent {e : EntryArgs} (h : givenMotor e.fields = none) :
    motorTaken e = max (changeTaken e - 192) 0 := by simp [motorTaken, h]

theorem le_clampInt {lo hi : Int} (h : lo ≤ hi) (x : Int) : lo ≤ clampInt lo hi x := by
  unfold clampInt
  split
  · exact le_rfl
  · split <;> omega

theorem changeTaken_ge {e : EntryArgs} (hlen : 160 ≤ e.length) : 24 ≤ changeTaken e := by
  cases h : givenChange e.fields with
  | none => rw [changeTaken_of_absent h]; omega
  | some n => rw [changeTaken_of_given h]; exact le_clampInt (by omega) n

theorem motorTaken_nonneg {e : EntryArgs} (hlen : 160 ≤ e.length) : 0 ≤ motorTaken e := by
  have hchange := changeTaken_ge hlen
  cases h : givenMotor e.fields with
  | none => rw [motorTaken_of_absent h]; omega
  | some n => rw [motorTaken_of_given h]; exact le_clampInt (by omega) n

theorem newEntry_change {e : EntryArgs} (hlen : 160 ≤ e.length) : ((newEntry e).change : Int) = changeTaken e :=
  Int.toNat_of_nonneg (by have := changeTaken_ge hlen; omega)

theorem newEntry_motor {e : EntryArgs} (hlen : 160 ≤ e.length) : ((newEntry e).motor : Int) = motorTaken e :=
  Int.toNat_of_nonneg (motorTaken_nonneg hlen)

theorem newEntry_takenBy {e : EntryArgs} (hlen : 160 ≤ e.length)
    (hfirst : ∀ n, givenFirst e.fields = some n → 0 ≤ n) : TakenBy e (newEntry e) := by
  have hchange := newEntry_change hlen
  have hmotor := newEntry_motor hlen
  refine ⟨rfl, Int.toNat_of_nonneg (by omega), rfl, rfl, fun n h => ?_, fun h => ?_, fun n h => ?_, fun h => ?_,
    fun n h => ?_, fun h => ?_, rfl, rfl, rfl, rfl, rfl⟩
  · simp [newEntry, h, hfirst n h]
  · simp [newEntry, h]
  · rw [hchange, changeTaken_of_given h, clampInt]
  · rw [hchange, changeTaken_of_absent h]
  · rw [hmotor, hchange, motorTaken_of_given h, clampInt]
  · rw [motorTaken_of_absent h] at hmotor
    omega

/-! ### PA and PI -/

theorem entryWordsOk_of_wellFormed {e : EntryArgs} (h : e.wellFormed = true) : entryWordsOk e = true := by
  simp only [EntryArgs.wellFormed, Bool.and_eq_true] at h
  obtain ⟨⟨⟨hlabel, _⟩, honce⟩, _⟩ := h
  simp [entryWordsOk, hlabel, honce]

theorem entryRangesOk_of_bounds {e : EntryArgs} (hlow : 160 ≤ e.length) (hhigh : e.length ≤ 99999)
    (hfirst : ∀ n, givenFirst e.fields = some n → 0 ≤ n ∧ n ≤ 999) : entryRangesOk e = true := by
  unfold entryRangesOk
  cases h : givenFirst e.fields with
  | none => simp [hlow, hhigh]
  | some n => simp [hlow, hhigh, hfirst n h]

section
variable {s : State} {h : HouseId} {e : EntryArgs} (hwords : entryWordsOk e = true) (hranges : entryRangesOk e = true)
include hwords hranges

theorem answerPa_taken (hroom : (s.house h).queue.length < 12) :
    answer (.pa h.number e) s =
      (s.insertEntry h (s.house h).queue.length (newEntry e), Reply.okMoved (movedFields e)) := by
  simp [answer, answerPa, checked_eq, firstRefusal, hwords, hranges, Nat.not_le.2 hroom]

theorem answerPa_full (hfull : 12 ≤ (s.house h).queue.length) : answer (.pa h.number e) s = (s, .no .fl) := by
  simp [answer, answerPa, checked_eq, firstRefusal, hwords, hranges, hfull]

theorem answerPi_taken {k : Nat} (hk : k ≤ (s.house h).queue.length) (hroom : (s.house h).queue.length < 12)
    (hfree : ∀ x ∈ (s.house h).queue.drop k, x.bound = none) :
    answer (.pi h.number (k + 1) e) s = (s.insertEntry h k (newEntry e), Reply.okMoved (movedFields e)) := by
  have hpos : positionOk (k + 1) = true := by
    simp only [positionOk, Bool.and_eq_true, decide_eq_true_eq]
    omega
  have hbound : boundFrom (s.house h).queue k = false := by simpa [boundFrom] using hfree
  simp [answer, answerPi, checked_eq, firstRefusal, hwords, hranges, hpos, Nat.not_lt.2 hk, hbound,
    Nat.not_le.2 hroom]

end

/-- A line answered by an entry that joins while no cue is processed changes the house and the line unit alone. -/
theorem exec_of_inserted {c : Instr} (hc : c.isConsole = true) {s : State} (hf : LineFree s) {h : HouseId} {k : Nat}
    {x : Entry} {r : Reply} (ha : answer c s = (s.insertEntry h k x, r)) (he : (s.house h).engine.cueing = false) :
    ∃ t, exec c s = .next t ∧ Answered s t r ∧ ChangesOnly [.house h, .line] s t ∧
      t.house h = (s.house h).inserted k x := by
  refine ⟨_, exec_console_free hc hf, ?_⟩
  rw [ha, State.insertEntry_of_not_cueing k x he]
  refine ⟨answered_of_line rfl _, changesOnly_reply (by simp) (fun p hp => ?_) (State.modHouse_pending s h _) _ _,
    by simp⟩
  exact Part.same_modHouse s _ fun heq => hp (by simp [heq])

/-- Settles O24: the entry that joins is unbound, so the cues tested as it joins leave the running order as it is; while
none is processed only the house and the line unit change. -/
theorem entryJoinsTheRunningOrder : Obligations.EntryJoinsTheRunningOrder := by
  intro s h e hfree hwf hlow hhigh hfirst
  have hwords := entryWordsOk_of_wellFormed hwf
  have hranges := entryRangesOk_of_bounds hlow hhigh hfirst
  have htaken : TakenBy e (newEntry e) := newEntry_takenBy hlow fun n hn => (hfirst n hn).1
  refine ⟨fun hroom => ?_, fun hfull => ?_, fun k hk hroom hunbound hengine => ?_⟩
  · have ha := answerPa_taken hwords hranges hroom
    have hexec := exec_console_free (c := .pa h.number e) rfl hfree
    refine ⟨_, newEntry e, hexec, htaken, ?_, ?_, fun hengine => ?_⟩
    · rw [ha, State.settle_house, State.startReply_house, State.insertEntry_queue s h le_rfl rfl,
        List.insertIdx_length_self]
    · rw [ha]
      rfl
    · obtain ⟨t, ht, hanswered, honly, hhouse⟩ :=
        exec_of_inserted rfl hfree ha ((EngineState.cueing_eq_false_iff _).2 hengine)
      obtain rfl : t = _ := Host.Outcome.next.inj (ht.symm.trans hexec)
      refine ⟨hanswered, honly, ?_⟩
      rw [hhouse, House.inserted, List.insertIdx_length_self]
  · exact exec_of_refused rfl hfree (answerPa_full hwords hranges hfull)
  · obtain ⟨t, ht, hanswered, honly, hhouse⟩ :=
      exec_of_inserted (c := .pi h.number (k + 1) e) rfl hfree (answerPi_taken hwords hranges hk hroom hunbound)
        ((EngineState.cueing_eq_false_iff _).2 hengine)
    refine ⟨t, newEntry e, ht, htaken, hanswered, honly, ?_⟩
    rw [hhouse, House.inserted, insertIdx_eq_take_cons_drop _ hk]

end Sys2Proof.Machine

/-!
LP and SP (R97 to R99, R111). First the frame of a console line that changes one station, then the credit under new
parameters and the words of a moved value, then the answers of LP.
-/

namespace Sys2Proof.Machine

/-! ### A console line that changes one station -/

/-- A change of one station changes no other part. -/
theorem Part.same_modStation (s : State) {i : StationId} (f : Station → Station) {p : Part} (hp : p ≠ .station i) :
    p.same s (s.modStation i f) := by
  cases p with
  | station j => exact s.station_modStation_other f fun hj => hp (hj ▸ rfl)
  | straps | house _ | clock | arbiter | fire | line | draws => rfl

/-- A line answered by a change of one station changes that station and the line unit alone. -/
theorem exec_of_modStation {c : Instr} (hc : c.isConsole = true) {s : State} (hf : LineFree s) {i : StationId}
    {f : Station → Station} {r : Reply} (ha : answer c s = (s.modStation i f, r)) :
    ∃ t, exec c s = .next t ∧ Answered s t r ∧ ChangesOnly [.station i, .line] s t ∧
      t.station i = f (s.station i) := by
  refine ⟨_, exec_console_free hc hf, ?_⟩
  rw [ha]
  refine ⟨answered_of_line rfl _, changesOnly_reply (by simp) (fun p hp => ?_)
    (State.modStation_pending s i f) _ _, by simp⟩
  exact Part.same_modStation s f fun heq => hp (by simp [heq])

/-! ### New parameters and moved values -/

/-- A credit above the new T − 1 comes down to it (R98). -/
theorem Channel.setParams_eq (c : Channel) (p : Params) :
    c.setParams p =
      { c with params := some p, credit := if p.thr - 1 < c.credit then p.thr - 1 else c.credit } := by
  rw [Channel.setParams, min_comm, min_def_lt]

/-- A credit below the threshold stands (R98). -/
theorem Channel.setParams_of_credit_lt {c : Channel} {p : Params} (h : c.credit + 1 ≤ p.thr) :
    c.setParams p = { c with params := some p } := by
  rw [Channel.setParams, min_eq_left (by omega)]

/-- A line with one number is answered OK when it stands and OK C with its word when it is moved (R174). -/
theorem Reply.okMoved_clampField (word : Text) (lo hi n : Int) :
    Reply.okMoved (clampField word lo hi n).2 =
      if clampInt lo hi n = n then .ok else .clamped [word, decimalInt (clampInt lo hi n)] := by
  unfold clampField
  dsimp only
  split <;> rfl

/-! ### LP -/

theorem answerLp_resetting {s : State} {i : StationId} (hc : (s.station i).condition = .resetting) (arg : ParamArg) :
    answer (.lp i.number arg) s = (s, .no .by_) := by
  simp [answer, answerLp, checked_eq, firstRefusal, hc]

theorem answerLp_absent {s : State} {i : StationId} (hc : (s.station i).condition = .normal)
    (hp : (s.station i).present = false) (arg : ParamArg) : answer (.lp i.number arg) s = (s, .no .st) := by
  have htrim : (s.station i).trim = none := by simpa [Station.present] using hp
  simp [answer, answerLp, checked_eq, firstRefusal, hc, htrim, refuse]

theorem answerLp_outOfRange {n : Int} (hn : n < 1 ∨ 6 < n) (arg : ParamArg) (s : State) :
    answer (.lp n arg) s = (s, .no .rg) := by
  simp [answer, answerLp, onStation, StationId.ofInt?_none hn, refuse]

section
variable {s : State} {i : StationId} {t₀ : Trim} {p : Params} (hfree : LineFree s)
  (hnormal : (s.station i).condition = .normal) (htrim : (s.station i).trim = some t₀)
  (hparams : (s.station i).channel.params = some p)
include hnormal htrim hparams

theorem answerLp_taken (arg : ParamArg) :
    answer (.lp i.number arg) s =
      (s.modChannel i fun c => c.setParams (changeParams t₀ p arg).1,
        Reply.okMoved (changeParams t₀ p arg).2) := by
  simp [answer, answerLp, checked_eq, firstRefusal, hnormal, htrim, hparams]

include hfree

/-- LP at a present NORMAL station gives its channel the parameters changed by the word, and changes nothing else. -/
theorem exec_lp_taken (arg : ParamArg) :
    ∃ t, exec (.lp i.number arg) s = .next t ∧ Answered s t (.okMoved (changeParams t₀ p arg).2) ∧
      ChangesOnly [.station i, .line] s t ∧
      t.station i = { s.station i with
        channel := (s.station i).channel.setParams (changeParams t₀ p arg).1 } :=
  exec_of_modStation rfl hfree (answerLp_taken hnormal htrim hparams arg)

/-- LP with a word and no number, or with DEFAULT, moves no value and is answered OK (R99). -/
theorem exec_lp_ok {arg : ParamArg} {q : Params} {c : Channel} (hchange : changeParams t₀ p arg = (q, []))
    (hset : (s.station i).channel.setParams q = c) :
    ∃ t, exec (.lp i.number arg) s = .next t ∧ Answered s t .ok ∧ ChangesOnly [.station i, .line] s t ∧
      t.station i = { s.station i with channel := c } := by
  have htaken := exec_lp_taken hfree hnormal htrim hparams arg
  rwa [hchange, hset] at htaken

/-- LP with a number takes it clamped, and is answered OK C when it was moved (R97). -/
theorem exec_lp_number {arg : ParamArg} {word : Text} {lo hi n : Int} {q : Params} {c : Channel}
    (hchange : changeParams t₀ p arg = (q, (clampField word lo hi n).2))
    (hset : (s.station i).channel.setParams q = c) :
    ∃ t, exec (.lp i.number arg) s = .next t ∧ ChangesOnly [.station i, .line] s t ∧
      Answered s t (if clampInt lo hi n = n then .ok else .clamped [word, decimalInt (clampInt lo hi n)]) ∧
      t.station i = { s.station i with channel := c } := by
  obtain ⟨t, hexec, hanswered, honly, hstation⟩ := exec_lp_taken hfree hnormal htrim hparams arg
  rw [hchange, Reply.okMoved_clampField] at hanswered
  rw [hchange, hset] at hstation
  exact ⟨t, hexec, honly, hanswered, hstation⟩

end

/-- SP with a mode changes the arbiter's order mode and the line unit alone (R111). -/
theorem exec_sp_mode {s : State} (hfree : LineFree s) (m : OrderMode) :
    ∃ t, exec (.sp (some m)) s = .next t ∧ Answered s t .ok ∧ ChangesOnly [.arbiter, .line] s t ∧
      t.arbiter = { s.arbiter with mode := m } := by
  have ha : answer (.sp (some m)) s = ({ s with arbiter := { s.arbiter with mode := m } }, .ok) := rfl
  refine ⟨_, exec_console_free rfl hfree, ?_⟩
  rw [ha]
  refine ⟨answered_of_line rfl _, ⟨fun p hp => ?_, rfl, rfl⟩, rfl⟩
  cases p with
  | arbiter | line => exact absurd hp (by simp)
  | straps | station _ | house _ | clock | fire | draws => rfl

/-- Settles O48: each word of LP is one change of the station's parameters; only a new threshold (THR, DEFAULT) can bring
the credit down. -/
theorem parameterAndOrderModeLines : Obligations.ParameterAndOrderModeLines := by
  intro s i hfree
  refine ⟨fun t₀ p hnormal htrim hparams => ⟨?default, ?thr, ?vset, ?dead, ?gain, ?mode⟩,
    fun hresetting arg => exec_of_refused rfl hfree (answerLp_resetting hresetting arg),
    fun hnormal habsent arg => exec_of_refused rfl hfree (answerLp_absent hnormal habsent arg),
    fun n hn => exec_of_refused rfl hfree (answerLp_outOfRange hn _ s), exec_sp_mode hfree⟩
  case default =>
    have hset : (s.station i).channel.setParams t₀.params = _ := Channel.setParams_eq _ _
    cases t₀ <;> exact exec_lp_ok hfree hnormal htrim hparams rfl hset
  case thr =>
    rintro n _ rfl
    exact exec_lp_number hfree hnormal htrim hparams rfl (Channel.setParams_eq _ _)
  case vset =>
    rintro n _ rfl hcredit
    exact exec_lp_number hfree hnormal htrim hparams rfl (Channel.setParams_of_credit_lt hcredit)
  case dead =>
    rintro n _ rfl hcredit
    exact exec_lp_number hfree hnormal htrim hparams rfl (Channel.setParams_of_credit_lt hcredit)
  case gain =>
    rintro n _ rfl hcredit
    exact exec_lp_number hfree hnormal htrim hparams rfl (Channel.setParams_of_credit_lt hcredit)
  case mode =>
    intro m hcredit
    exact exec_lp_ok hfree hnormal htrim hparams rfl (Channel.setParams_of_credit_lt hcredit)

end Sys2Proof.Machine

/-!
Fade updates, and LV, PU and LR (R140 to R142, R147, R149). First the frame of a command that changes one house, then the
share of a fade update, then the restore from PANIC, then the answers of LV and LR and the three houses of PU.
-/

namespace Sys2Proof.Machine

/-! ### A command that changes one house -/

/-- A line answered by a change of one house changes that house and the line unit alone. -/
theorem exec_of_modHouse {c : Instr} (hc : c.isConsole = true) {s : State} (hf : LineFree s) {h : HouseId}
    {f : House → House} {r : Reply} (ha : answer c s = (s.modHouse h f, r)) :
    ∃ t, exec c s = .next t ∧ ChangesOnly [.house h, .line] s t ∧ Answered s t r ∧ t.house h = f (s.house h) := by
  refine ⟨_, exec_console_free hc hf, ?_⟩
  rw [ha]
  refine ⟨changesOnly_reply (by simp) (fun p hp => ?_) (State.modHouse_pending s h f) _ _, answered_of_line rfl _,
    by simp⟩
  exact Part.same_modHouse s f fun heq => hp (by simp [heq])

/-- A line that is only answered changes the line unit alone. -/
theorem exec_of_unchanged {c : Instr} (hc : c.isConsole = true) {s : State} (hf : LineFree s) {r : Reply}
    (ha : answer c s = (s, r)) : ∃ t, exec c s = .next t ∧ Answered s t r ∧ ChangesOnly [.line] s t := by
  refine ⟨_, exec_console_free hc hf, ?_⟩
  rw [ha]
  refine ⟨answered_of_line rfl _, changesOnly_reply (by simp) (fun p _ => ?_) rfl _ _⟩
  cases p <;> rfl

/-- An event that ends in a change of one house changes that house alone. -/
theorem changesOnly_settle_modHouse (s : State) (h : HouseId) (f : House → House) :
    ChangesOnly [.house h] s (s.modHouse h f).settle := by
  refine ⟨fun p hp => ?_, rfl, rfl⟩
  have hsame : p.same s (s.modHouse h f) := Part.same_modHouse s f fun heq => hp (by simp [heq])
  cases p <;> exact hsame

theorem State.house_modLight_same (s : State) (h : HouseId) (f : Light → Light) :
    (s.modLight h f).house h = { s.house h with light := f (s.house h).light } :=
  s.house_modHouse_same h _

/-! ### The fade update -/

/-- The part of the distance to the target by which the next fade update moves the level (R141). -/
def Light.share (l : Light) : Int := ((l.target : Int) - l.level).tdiv l.remaining

/-- A fade up moves up by no more than the distance left. -/
theorem Light.share_up {l : Light} (h : l.level ≤ l.target) : 0 ≤ l.share ∧ l.level + l.share ≤ l.target := by
  have hd : (0 : Int) ≤ (l.target : Int) - l.level := by omega
  have hnonneg : 0 ≤ l.share := Int.tdiv_nonneg hd (Int.natCast_nonneg _)
  have hle : l.share ≤ (l.target : Int) - l.level := Int.tdiv_le_self _ hd
  omega

/-- A fade down moves down by no more than the distance left: its share is the negative of the same fade up. -/
theorem Light.share_down {l : Light} (h : l.target ≤ l.level) : l.share ≤ 0 ∧ l.target ≤ l.level + l.share := by
  have hd : (0 : Int) ≤ (l.level : Int) - l.target := by omega
  have hneg : l.share = -((l.level : Int) - l.target).tdiv l.remaining := by
    rw [Light.share, ← Int.neg_tdiv, Int.neg_sub]
  have hnonneg : 0 ≤ ((l.level : Int) - l.target).tdiv l.remaining := Int.tdiv_nonneg hd (Int.natCast_nonneg _)
  have hle : ((l.level : Int) - l.target).tdiv l.remaining ≤ (l.level : Int) - l.target := Int.tdiv_le_self _ hd
  omega

/-- With one update left the share is the whole distance. -/
theorem Light.share_last {l : Light} (h : l.remaining = 1) : l.share = (l.target : Int) - l.level := by
  simp [Light.share, h]

/-- The level after an update is never below zero, since the share does not pass the target. -/
theorem Light.update_level (l : Light) : (l.update.level : Int) = l.level + l.share := by
  have hnonneg : 0 ≤ (l.level : Int) + l.share := by
    rcases le_total l.level l.target with hup | hdown
    · have := Light.share_up hup
      omega
    · have := Light.share_down hdown
      omega
  exact Int.toNat_of_nonneg hnonneg

/-- An update changes the level, the count of updates left and the timer (R141). -/
theorem Light.update_eq (l : Light) :
    l.update =
      { l with level := l.update.level, remaining := l.remaining - 1, timer := decide (2 ≤ l.remaining) } := rfl

/-- An update keeps the level between its old value and the target, and the last one lands on the target (R141). -/
theorem Light.update_level_between (l : Light) :
    (l.level ≤ l.target → l.level ≤ l.update.level ∧ l.update.level ≤ l.target) ∧
      (l.target ≤ l.level → l.target ≤ l.update.level ∧ l.update.level ≤ l.level) ∧
      (l.remaining = 1 → l.update.level = l.target) := by
  have hlevel := l.update_level
  refine ⟨fun hup => ?_, fun hdown => ?_, fun hlast => ?_⟩
  · have := Light.share_up hup
    omega
  · have := Light.share_down hdown
    omega
  · have := Light.share_last hlast
    omega

/-- FADE_UPDATE of a channel that fades makes one update of it and changes nothing else. -/
theorem exec_fadeUpdate {s : State} {h : HouseId} (hremaining : 0 < (s.house h).light.remaining)
    (htimer : (s.house h).light.timer = true) :
    exec (.fadeUpdate h) s = .next (s.modLight h Light.update).settle := by
  have hexec : exec (.fadeUpdate h) s = execFadeUpdate h s := rfl
  simp [hexec, execFadeUpdate, hremaining, htimer, done]

/-! ### Console fades and the restore -/

theorem clampInt_toNat_le {lo hi : Int} (h : lo ≤ hi) (x : Int) : (clampInt lo hi x).toNat ≤ hi.toNat := by
  unfold clampInt
  split
  · omega
  · split <;> omega

/-- The restore starts from full, and lasts as long as the fade beneath and at least 50 updates (R149). -/
theorem Light.restore_eq {l : Light} (hremaining : l.remaining ≤ 600) (htarget : l.target ≤ 1000) :
    l.restore =
      { l with level := 1000, panic := .clear, timer := true
               remaining := if l.remaining < 50 then 50 else l.remaining } := by
  have htime : max (l.remaining * 100) 5000 ≤ 60000 := by omega
  have hnonzero : max (l.remaining * 100) 5000 ≠ 0 := by omega
  have hupdates : (max (l.remaining * 100) 5000 + 99) / 100 = if l.remaining < 50 then 50 else l.remaining := by
    split <;> omega
  rw [Light.restore, Light.fadeStart_eq _ htarget htime, Light.faded, if_neg hnonzero, hupdates]

/-- The words with which LV reports the values it moved (R142, R174). -/
def movedFade (level time : Int) : List Text :=
  (clampField "LEVEL".toList 0 1000 level).2 ++ (clampField "TIME".toList 0 60000 time).2

/-- A fade from the console is the fade of R140 with the values as clamped (R142). -/
theorem State.consoleFade_eq (s : State) (h : HouseId) (level time : Int) :
    s.consoleFade h level time =
      (s.modLight h fun l => l.faded (clampInt 0 1000 level).toNat (clampInt 0 60000 time).toNat,
        Reply.okMoved (movedFade level time)) := by
  have hfade : ∀ l : Light, l.fadeStart (clampInt 0 1000 level).toNat (clampInt 0 60000 time).toNat =
      l.faded (clampInt 0 1000 level).toNat (clampInt 0 60000 time).toNat := fun l =>
    l.fadeStart_eq (clampInt_toNat_le (by decide) level) (clampInt_toNat_le (by decide) time)
  simp only [State.consoleFade, movedFade, clampField, State.fade, hfade]

/-! ### LV and LR -/

theorem answerLv_fade (s : State) (h : HouseId) (level time : Int) :
    answer (.lv h.number (.fade level time)) s = s.consoleFade h level time := by
  simp [answer, answerLv]

theorem answerLv_level (s : State) (h : HouseId) (level : Int) :
    answer (.lv h.number (.level level)) s = s.consoleFade h level 0 := by
  simp [answer, answerLv]

theorem answerLr_fire {s : State} {h : HouseId} (hfire : (s.house h).light.fire = .set) :
    answer (.lr h.number) s = (s, .no .fi) := by
  simp [answer, answerLr, hfire, refuse]

theorem answerLr_unset {s : State} {h : HouseId} (hfire : (s.house h).light.fire = .clear)
    (hpanic : (s.house h).light.panic = .clear) : answer (.lr h.number) s = (s, .ok) := by
  simp [answer, answerLr, hfire, hpanic]

theorem answerLr_restore {s : State} {h : HouseId} (hfire : (s.house h).light.fire = .clear)
    (hpanic : (s.house h).light.panic = .set) : answer (.lr h.number) s = (s.modLight h Light.restore, .ok) := by
  simp [answer, answerLr, hfire, hpanic]

section
variable {s : State} (hfree : LineFree s) (h : HouseId)
include hfree

/-- LV that starts a fade gives the light channel of its house that fade, and changes nothing else (R142). -/
theorem exec_lv_taken {arg : LightArg} {level time : Int}
    (ha : answer (.lv h.number arg) s = s.consoleFade h level time) :
    ∃ t, exec (.lv h.number arg) s = .next t ∧ ChangesOnly [.house h, .line] s t ∧
      Answered s t (Reply.okMoved (movedFade level time)) ∧
      t.house h = { s.house h with
        light := (s.house h).light.faded (clampInt 0 1000 level).toNat (clampInt 0 60000 time).toNat } :=
  exec_of_modHouse rfl hfree (ha.trans (s.consoleFade_eq h level time))

/-- LV with a level alone is a fade over no time: the lights go to the level at once (R142). -/
theorem exec_lv_level (level : Int) :
    ∃ t, exec (.lv h.number (.level level)) s = .next t ∧ ChangesOnly [.house h, .line] s t ∧
      Answered s t (if clampInt 0 1000 level = level then .ok else
        .clamped ["LEVEL".toList, decimalInt (clampInt 0 1000 level)]) ∧
      t.house h = { s.house h with light := { (s.house h).light with
        level := (clampInt 0 1000 level).toNat, target := (clampInt 0 1000 level).toNat
        remaining := 0, timer := false } } := by
  obtain ⟨t, hexec, honly, hanswered, hhouse⟩ := exec_lv_taken hfree h (answerLv_level s h level)
  have hmoved : movedFade level 0 = (clampField "LEVEL".toList 0 1000 level).2 := List.append_nil _
  rw [hmoved, Reply.okMoved_clampField] at hanswered
  exact ⟨t, hexec, honly, hanswered, hhouse⟩

/-- LR under PANIC alone (R149). -/
theorem exec_lr_restore (hfire : (s.house h).light.fire = .clear) (hpanic : (s.house h).light.panic = .set)
    (hremaining : (s.house h).light.remaining ≤ 600) (htarget : (s.house h).light.target ≤ 1000) :
    ∃ t, exec (.lr h.number) s = .next t ∧ Answered s t .ok ∧ ChangesOnly [.house h, .line] s t ∧
      t.house h = { s.house h with light := { (s.house h).light with
        level := 1000, panic := .clear, timer := true
        remaining := if (s.house h).light.remaining < 50 then 50 else (s.house h).light.remaining } } := by
  obtain ⟨t, hexec, honly, hanswered, hhouse⟩ :=
    exec_of_modHouse (c := .lr h.number) rfl hfree (answerLr_restore hfire hpanic)
  refine ⟨t, hexec, hanswered, honly, ?_⟩
  rw [hhouse, Light.restore_eq hremaining htarget]

end

/-! ### PU -/

/-- One change made at every house: each house has it. -/
theorem State.house_forHouses_all (s : State) (f : House → House) (k : HouseId) :
    (s.forHouses HouseId.all fun h t => t.modHouse h f).house k = f (s.house k) := by
  cases k <;> rfl

/-- One change made at every house changes no part but the houses. -/
theorem Part.same_forHouses_all (s : State) (f : House → House) {p : Part} (hp : ∀ h, p ≠ .house h) :
    p.same s (s.forHouses HouseId.all fun h t => t.modHouse h f) := by
  cases p with
  | house k => exact absurd rfl (hp k)
  | straps | station _ | clock | arbiter | fire | line | draws => rfl

/-- PU sets the PANIC layer of every house, and full drive follows at each DL (R139, R147). -/
theorem exec_pu {s : State} (hfree : LineFree s) :
    ∃ t, exec .pu s = .next t ∧ Answered s t .ok ∧
      ChangesOnly [.house .h1, .house .h2, .house .h3, .line] s t ∧
      (∀ k, t.house k = { s.house k with light := { (s.house k).light with panic := .set } }) ∧
      ∀ k, (t.pins.houses.get k).dl = 1000 := by
  have ha : answer .pu s = (s.forHouses HouseId.all fun h t => t.modHouse h fun hs =>
      { hs with light := { hs.light with panic := .set } }, .ok) := rfl
  refine ⟨_, exec_console_free rfl hfree, ?_⟩
  rw [ha]
  refine ⟨answered_of_line rfl _, changesOnly_reply (by simp) (fun p hp => ?_)
    (Kept.forHouses s _ _ fun h t => t.modHouse_kept h _).pending _ _, fun k => ?_, fun k => ?_⟩
  · refine Part.same_forHouses_all s _ fun h heq => hp ?_
    cases h <;> simp [heq]
  · rw [State.settle_house, State.startReply_house, State.house_forHouses_all]
  · rw [State.settle_pins, State.outputs_house, State.startReply_house, State.house_forHouses_all]
    exact (Light.effective_eq _).trans (if_pos (.inr rfl))

/-- Settles O49: the share of an update lies between nothing and the whole distance to the target, and is the whole at
the last; LV and LR each change one light channel, and PU the three layers. -/
theorem houseLightsFadeAndRestore : Obligations.HouseLightsFadeAndRestore := by
  refine ⟨?update, fun s h level time hfree lv tm hlv htm => ?lines⟩
  case update =>
    rintro s h l rfl hremaining htimer _ rfl
    refine ⟨_, exec_fadeUpdate hremaining htimer, changesOnly_settle_modHouse s h _, ?_⟩
    rw [State.settle_house, State.house_modLight_same]
    exact ⟨rfl, Light.update_eq _, Light.update_level _, Light.update_level_between _⟩
  case lines =>
    subst hlv htm
    exact ⟨exec_lv_taken hfree h (answerLv_fade s h level time), exec_lv_level hfree h level, exec_pu hfree,
      fun hfire => exec_of_refused rfl hfree (answerLr_fire hfire),
      fun hfire hpanic => exec_of_unchanged rfl hfree (answerLr_unset hfire hpanic), exec_lr_restore hfree h⟩

end Sys2Proof.Machine

/-!
What the operations can do, said once. `Edit` lists the single changes that the shared operations and the house engine
make, each with the guard under which it is made; `Edits` chains them. Every shared operation is shown to be such a chain,
so that an invariant kept by each `Edit` is kept by all of them.
-/

namespace Sys2Proof.Machine

/-! ### The single changes of the shared operations -/

/-- The engine states that an entry to FAULT is made from: every one but IDLE and SUSPENDED (R45, R61). -/
def EngineState.active : EngineState → Bool
  | .idle | .suspended => false
  | _ => true

/-- A house record keeps its engine state, its running order and its light channel. -/
def House.Noted (a b : House) : Prop := b.engine = a.engine ∧ b.queue = a.queue ∧ b.light = a.light

/-- The engine state of a house whose reel on screen ended: IDLE with no entry left, else INTERVAL or HOLD (R58, R59). -/
def House.EndedAs (a b : House) : Prop :=
  b.queue = a.queue ∧ b.light = a.light ∧
    (a.queue = [] → b.engine = .idle) ∧ (a.queue ≠ [] → b.engine = .interval ∨ b.engine = .hold)

/-- The single changes that the shared operations and the house engine make. -/
inductive Edit : State → State → Prop
  | stop (s : State) (i : StationId) : Edit s (s.stopMotor i)
  | start (s : State) (i : StationId) (allowed : s.startRefusal i = none) : Edit s (s.modStation i Station.startMotor)
  | shutter (s : State) (i : StationId) (d c : Station → Bool) :
      Edit s (s.modStation i fun st => { st with demandOpen := d st, csOpen := c st })
  | mark (s : State) (i : StationId) (m : ShortfallMark) : Edit s (s.modCarbon i fun c => { c with mark := m })
  | trip (s : State) (i : StationId) (cause : StationCause) : Edit s (s.tripStation i cause)
  | extinguish (s : State) (i : StationId) : Edit s (s.extinguish i)
  | strike (s : State) (i : StationId) (allowed : s.strikeRefusal i = none) : Edit s (s.takeStrike i)
  | note (s : State) (h : HouseId) (f : House → House) (noted : (s.house h).Noted (f (s.house h))) :
      Edit s (s.modHouse h f)
  | fade (s : State) (h : HouseId) (level time : Nat) : Edit s (s.fade h level time)
  | fireLayer (s : State) (h : HouseId) : Edit s (s.setFire h)
  | cue (s : State) (h : HouseId) (f : House → House) (was : (s.house h).engine.showing = true)
      (shows : (f (s.house h)).engine.showing = true) (queue : (f (s.house h)).queue = (s.house h).queue)
      (light : (f (s.house h)).light = (s.house h).light) : Edit s (s.modHouse h f)
  | begin (s : State) (h : HouseId) (f : House → House) (i : StationId)
      (was : (s.house h).engine.startable = true) (head : (s.house h).threadedHead = some i)
      (starts : (f (s.house h)).engine = .starting) (queue : (f (s.house h)).queue = (s.house h).queue)
      (light : (f (s.house h)).light = (s.house h).light) : Edit s (s.modHouse h f)
  | picture (s : State) (h : HouseId) (f : House → House) (i : StationId)
      (was : (s.house h).startStation = some i) (plays : (f (s.house h)).engine = .playing)
      (queue : (f (s.house h)).queue = setStatus (s.house h).queue i .playing)
      (light : (f (s.house h)).light = (s.house h).light) : Edit s (s.modHouse h f)
  | change (s : State) (h : HouseId) (out inc : StationId) (was : (s.house h).onScreen = some out)
      (next : (s.house h).incoming = some inc) :
      Edit s (s.modQueue h fun q => setStatus (setStatus q out .runOut) inc .playing)
  | fault (s : State) (h : HouseId) (f : House → House) (was : (s.house h).engine.active = true)
      (faults : (f (s.house h)).engine = .fault) (queue : (f (s.house h)).queue = stopPlaying (s.house h).queue)
      (light : (f (s.house h)).light = (s.house h).light) : Edit s (s.modHouse h f)
  | reelOff (s : State) (h : HouseId) (i : StationId) (f : House → House) (own : (s.station i).house = h)
      (was : (s.house h).onScreen = some i)
      (ended : ((s.removeEntry i).house h).EndedAs (f ((s.removeEntry i).house h))) :
      Edit s ((s.removeEntry i).modHouse h f)
  | runOutLeaves (s : State) (i : StationId) (e : Entry) (bound : s.boundEntry i = some e)
      (status : e.status = .runOut) : Edit s (s.removeEntry i)
  | ready (s : State) (h : HouseId) : Edit s (s.readyTest h)
  | capture (s : State) (cause : CaptureCause) (i : Option StationId) : Edit s (s.captureTrip cause i)
  | latch (s : State) (w : Warning) : Edit s (s.latch w)
  | attention (s : State) : Edit s s.assertAttention
  | draw (s : State) : Edit s { s with draws := s.draws + 1 }

/-- A chain of single changes. -/
def Edits (s t : State) : Prop := Relation.ReflTransGen Edit s t

theorem Edit.edits {s t : State} (h : Edit s t) : Edits s t := Relation.ReflTransGen.single h

theorem Edits.refl (s : State) : Edits s s := Relation.ReflTransGen.refl

theorem Edits.trans {s t u : State} (h : Edits s t) (k : Edits t u) : Edits s u := Relation.ReflTransGen.trans h k

theorem Edits.ite {s t u : State} {p : Prop} [Decidable p] (ht : p → Edits s t) (hu : ¬p → Edits s u) :
    Edits s (if p then t else u) := by
  split
  · exact ht ‹_›
  · exact hu ‹_›

theorem Edits.forStations (s : State) (l : List StationId) (f : StationId → State → State)
    (hf : ∀ i t, Edits t (f i t)) : Edits s (s.forStations l f) :=
  State.forStations_keeps (Edits s) f (fun i t h => h.trans (hf i t)) l s (Edits.refl s)

theorem Edits.forHouses (s : State) (l : List HouseId) (f : HouseId → State → State)
    (hf : ∀ h t, Edits t (f h t)) : Edits s (s.forHouses l f) :=
  State.forHouses_keeps (Edits s) f (fun h t k => k.trans (hf h t)) l s (Edits.refl s)

theorem Edits.foldl {α : Type} (f : State → α → State) (hf : ∀ t a, Edits t (f t a)) (l : List α) (s : State) :
    Edits s (l.foldl f s) := by
  induction l generalizing s with
  | nil => exact Edits.refl s
  | cons a l ih => exact (hf s a).trans (ih _)

/-- What every single change keeps, a chain keeps. -/
theorem Edits.keeps {P : State → Prop} (hP : ∀ s t, Edit s t → P s → P t) {s t : State} (h : Edits s t) (hs : P s) :
    P t := by
  unfold Edits at h
  induction h with
  | refl => exact hs
  | tail _ he ih => exact hP _ _ he ih

/-! ### Shutters, motors and fades -/

theorem State.closeDemand_edits (s : State) (i : StationId) : Edits s (s.closeDemand i) :=
  (Edit.shutter s i (fun _ => false) (fun st => st.csOpen)).edits

theorem State.openDemand_edits (s : State) (i : StationId) : Edits s (s.openDemand i) :=
  (Edit.shutter s i (fun _ => true) (fun st => st.csOpen)).edits

theorem State.closeShutter_edits (s : State) (i : StationId) : Edits s (s.closeShutter i) :=
  (Edit.shutter s i (fun st => st.demandOpen) (fun _ => false)).edits

theorem State.openShutter_edits (s : State) (i : StationId) : Edits s (s.openShutter i) :=
  Edits.ite (fun _ => Edits.refl s) fun _ => (Edit.shutter s i (fun st => st.demandOpen) (fun _ => true)).edits

theorem State.darken_edits (s : State) (i : StationId) : Edits s (s.darken i) :=
  (s.closeDemand_edits i).trans (State.closeShutter_edits _ i)

theorem State.darkenHouse_edits (s : State) (h : HouseId) : Edits s (s.darkenHouse h) :=
  Edits.forStations s _ _ fun i t => t.darken_edits i

theorem State.takeScreen_edits (s : State) (i : StationId) : Edits s (s.takeScreen i) :=
  ((Edit.mark s i .clear).edits.trans (State.openDemand_edits _ i)).trans (State.openShutter_edits _ i)

theorem State.action_edits (s : State) (h : HouseId) (a : Option LightAction) : Edits s (s.action h a) := by
  cases a with
  | none => exact Edits.refl s
  | some a => exact (Edit.fade s h a.level a.time).edits

theorem State.holdFade_edits (s : State) (h : HouseId) : Edits s (s.holdFade h) := (Edit.fade s h _ _).edits

theorem State.closeDown_edits (s : State) (i : StationId) : Edits s (s.closeDown i) :=
  ((s.darken_edits i).trans (Edit.stop _ i).edits).trans (Edit.extinguish _ i).edits

/-! ### What leaves the house records alone -/

@[simp] theorem State.darkenHouse_houses (s : State) (h : HouseId) : (s.darkenHouse h).houses = s.houses :=
  (s.darkenAll (s.stationsOf h)).1

@[simp] theorem State.extinguish_houses (s : State) (i : StationId) : (s.extinguish i).houses = s.houses :=
  (s.extinguish_frame i).2.1

@[simp] theorem State.openShutter_houses (s : State) (i : StationId) : (s.openShutter i).houses = s.houses := by
  unfold State.openShutter; split <;> rfl

@[simp] theorem State.takeScreen_houses (s : State) (i : StationId) : (s.takeScreen i).houses = s.houses :=
  State.openShutter_houses _ i

@[simp] theorem State.closeDown_houses (s : State) (i : StationId) : (s.closeDown i).houses = s.houses :=
  State.extinguish_houses _ i

theorem State.setLamp_houses (s : State) (i : StationId) (new : LampState) (cls : Option StrikeClass) :
    (s.setLamp i new cls).houses = s.houses := (s.setLamp_frame i new cls).1

@[simp] theorem State.grantTo_houses (s : State) (k : StationId) : (s.grantTo k).houses = s.houses :=
  s.setLamp_houses k .striking none

@[simp] theorem State.testGrant_houses (s : State) : s.testGrant.houses = s.houses := by
  obtain h | ⟨k, -, -, -, -, h⟩ := s.testGrant_cases <;> rw [h]
  exact s.grantTo_houses k

@[simp] theorem State.takeStrike_houses (s : State) (i : StationId) : (s.takeStrike i).houses = s.houses :=
  (State.testGrant_houses _).trans (State.setLamp_houses _ i .queued (some .normal))

@[simp] theorem State.requestStrike_houses (s : State) (i : StationId) : (s.requestStrike i).1.houses = s.houses := by
  unfold State.requestStrike
  cases (s.station i).lamp.state <;> first
    | rfl
    | (dsimp only; split <;> first | rfl | exact s.takeStrike_houses i)

theorem State.house_of_houses {s t : State} (h : t.houses = s.houses) (k : HouseId) : t.house k = s.house k := by
  simp only [State.house, h]

theorem State.forStations_houses (s : State) (l : List StationId) (f : StationId → State → State)
    (hf : ∀ i t, (f i t).houses = t.houses) : (s.forStations l f).houses = s.houses :=
  State.forStations_keeps (fun t => t.houses = s.houses) f (fun i t h => (hf i t).trans h) l s rfl

/-! ### Entry to FAULT -/

theorem State.latchFault_edits (s : State) (h : HouseId) (r : FaultRecord) : Edits s (s.latchFault h r) :=
  Edits.ite (fun _ => Edits.refl s) fun _ =>
    (Edit.note s h _ ⟨rfl, rfl, rfl⟩).edits.trans (Edit.attention _).edits

theorem State.latchFault_noted (s : State) (h : HouseId) (r : FaultRecord) :
    (s.house h).Noted ((s.latchFault h r).house h) := by
  unfold State.latchFault
  split
  · exact ⟨rfl, rfl, rfl⟩
  · rw [show ∀ t : State, t.assertAttention.house h = t.house h from fun _ => rfl, State.house_modHouse_same]
    exact ⟨rfl, rfl, rfl⟩

theorem State.enterFault_edits (s : State) (h : HouseId) (cause : FaultCause) (i : Option StationId)
    (was : (s.house h).engine.active = true) : Edits s (s.enterFault h cause i) := by
  unfold State.enterFault
  dsimp only
  generalize (StationId.all.filter fun j => (s.station j).house = h && s.engaged j) = l
  generalize hr : s.faultRecord h cause i = r
  have stops := Edits.forStations (s.darkenHouse h) l (fun j t => t.stopMotor j) fun j t => (Edit.stop t j).edits
  have houses : ((s.darkenHouse h).forStations l fun j t => t.stopMotor j).houses = s.houses :=
    (State.forStations_houses _ l (fun j t => t.stopMotor j) fun _ _ => rfl).trans (s.darkenHouse_houses h)
  generalize ((s.darkenHouse h).forStations l fun j t => t.stopMotor j) = u at stops houses
  have engine : (((u.holdFade h).latchFault h r).house h).engine = (s.house h).engine := by
    rw [((u.holdFade h).latchFault_noted h r).1, ← State.house_of_houses houses h]
    simp [State.holdFade, State.fade, State.modLight]
  exact (((s.darkenHouse_edits h).trans stops).trans (u.holdFade_edits h)).trans
    ((State.latchFault_edits _ h r).trans (Edit.fault _ h _ (engine ▸ was) rfl rfl rfl).edits)

/-- A house with an engaged station is in STARTING or shows a picture (R43). -/
theorem State.engaged_active {s : State} {i : StationId} (h : s.engaged i = true) :
    (s.house (s.station i).house).engine.active = true := by
  unfold State.engaged House.startStation House.onScreen House.incoming at h
  cases hg : (s.house (s.station i).house).engine <;> simp [hg, EngineState.showing, EngineState.cueing] at h <;> rfl

theorem State.interlockEvent_edits (s : State) (i : StationId) : Edits s (s.interlockEvent i) :=
  Edits.ite (fun h => (Edit.latch s _).edits.trans (State.enterFault_edits _ _ _ _ (State.engaged_active h)))
    fun _ => (Edit.latch s _).edits

theorem State.enforceLd_edits (s : State) (i : StationId) : Edits s (s.enforceLd i) :=
  (Edit.extinguish s i).edits.trans (State.interlockEvent_edits _ i)

theorem State.enforceMd_edits (s : State) (i : StationId) : Edits s (s.enforceMd i) :=
  ((Edit.stop s i).edits.trans (State.closeDemand_edits _ i)).trans (State.interlockEvent_edits _ i)

/-! ### Trips -/

@[simp] theorem State.tripStation_houses (s : State) (i : StationId) (cause : StationCause) :
    (s.tripStation i cause).houses = s.houses := State.extinguish_houses _ i

theorem Station.stopped_house (st : Station) : st.stopped.house = st.house := by
  unfold Station.stopped; split <;> rfl

theorem Station.extinguished_house (st : Station) : st.extinguished.house = st.house := by
  unfold Station.extinguished; split <;> rfl

@[simp] theorem State.tripStation_station_house (s : State) (i j : StationId) (cause : StationCause) :
    ((s.tripStation i cause).station j).house = (s.station j).house := by
  unfold State.tripStation
  simp only [State.station_extinguish, State.station_modStation]
  by_cases hj : j = i <;> simp [hj, Station.extinguished_house, Station.stopMotor_eq, Station.stopped_house]

theorem State.dropRunOut_edits (s : State) (i : StationId) : Edits s (s.dropRunOut i) := by
  unfold State.dropRunOut
  split
  · exact Edits.ite (fun he => (Edit.runOutLeaves s i _ ‹_› he).edits) fun _ => Edits.refl s
  · exact Edits.refl s

theorem State.tripHouse_edits (s : State) (i : StationId) (engaged : Bool)
    (was : engaged = true → (s.house (s.station i).house).engine.active = true) :
    Edits s (s.tripHouse i engaged) :=
  Edits.ite (fun h => s.enterFault_edits _ _ _ (was h)) fun _ =>
    (s.dropRunOut_edits i).trans (Edit.ready _ _).edits

theorem State.gateAction_edits (s : State) (h : HouseId) : Edits s (s.gateAction h) :=
  (Edit.fireLayer s h).edits.trans (Edit.note (s.setFire h) h (fun hs => { hs with releasePulse := true })
    ⟨rfl, rfl, rfl⟩).edits

theorem State.stationTrip_edits (s : State) (i : StationId) (cause : StationCause) (capture : CaptureCause) :
    Edits s (s.stationTrip i cause capture) := by
  have captured := (Edit.capture s capture (some i)).edits
  have tripped : Edits s (((s.captureTrip capture (some i)).tripStation i cause).tripHouse i (s.engaged i)) := by
    refine (captured.trans (Edit.trip _ i cause).edits).trans (State.tripHouse_edits _ i _ fun h => ?_)
    rw [State.tripStation_station_house, State.house_of_houses (State.tripStation_houses _ i cause)]
    exact State.engaged_active h
  have acted : Edits s (if (s.station i).trip.isSome then s.captureTrip capture (some i)
      else ((s.captureTrip capture (some i)).tripStation i cause).tripHouse i (s.engaged i)) :=
    Edits.ite (fun _ => captured) fun _ => tripped
  unfold State.stationTrip
  dsimp only
  exact Edits.ite (fun _ => Edits.ite (fun _ => acted.trans (State.gateAction_edits _ _)) fun _ => acted)
    fun _ => Edits.refl s

theorem State.tripBooth_edits (s : State) (i : StationId) : Edits s (s.tripBooth i) :=
  Edits.ite (fun _ => (Edit.trip s i .booth).edits) fun _ => Edits.refl s

theorem State.underBoothTrip_edits (s : State) (i : StationId) : Edits s (s.underBoothTrip i) :=
  Edits.ite (fun _ => s.tripBooth_edits i) fun _ => Edits.refl s

theorem State.presenceAct_edits (s : State) (i : StationId) (a : PresenceAct) : Edits s (s.presenceAct i a) := by
  cases a with
  | booth => exact s.underBoothTrip_edits i
  | gh => exact s.stationTrip_edits i _ _
  | lt => exact s.stationTrip_edits i _ _

/-! ### Start commands and strike requests -/

theorem State.startMotorThen_edits (s : State) (i : StationId) {act : State → State}
    (allowed : s.startRefusal i = none) (ha : ∀ t, Edits t (act t)) : Edits s (s.startMotorThen i act) := by
  have started := (Edit.start s i allowed).edits.trans (ha _)
  exact Edits.ite (fun _ => started.trans (State.stationTrip_edits _ i _ _)) fun _ => started

theorem State.requestStrike_edits (s : State) (i : StationId) : Edits s (s.requestStrike i).1 := by
  unfold State.requestStrike
  cases (s.station i).lamp.state with
  | queued | striking | establish | burn => exact Edits.refl s
  | cold | stub | lockout =>
    dsimp only
    split
    · exact Edits.refl s
    · exact (Edit.strike s i ‹_›).edits

/-! ### Cues -/

theorem EngineState.showing_of_cueing {g : EngineState} (h : g.cueing = true) : g.showing = true := by
  cases g <;> first | rfl | cases h

theorem EngineState.active_of_showing {g : EngineState} (h : g.showing = true) : g.active = true := by
  cases g <;> first | rfl | cases h

theorem House.cueing_of_cuesPermitted {hs : House} (h : hs.cuesPermitted = true) : hs.engine.cueing = true := by
  simp only [House.cuesPermitted, Bool.and_eq_true] at h
  exact h.1.1.1

theorem House.showing_of_cuesPermitted {hs : House} (h : hs.cuesPermitted = true) : hs.engine.showing = true :=
  EngineState.showing_of_cueing (House.cueing_of_cuesPermitted h)

theorem House.showing_of_onScreen {hs : House} {i : StationId} (h : hs.onScreen = some i) : hs.engine.showing = true := by
  unfold House.onScreen at h
  split at h
  · assumption
  · cases h

theorem House.starting_of_startStation {hs : House} {i : StationId} (h : hs.startStation = some i) :
    hs.engine = .starting := by
  unfold House.startStation at h
  split at h
  · assumption
  · cases h

theorem State.incomingCheck_edits (s : State) (h : HouseId) (i : StationId) (length : Nat) :
    Edits s (s.incomingCheck h i length) := by
  unfold State.incomingCheck
  dsimp only
  split
  · exact Edits.ite (fun _ => (Edit.latch s _).edits) fun _ => Edits.refl s
  · exact Edits.refl s

theorem State.strikeCue_edits (s : State) (h : HouseId) (was : (s.house h).engine.showing = true) :
    Edits s (s.strikeCue h) := by
  have prepared := fun f : House → House => fun hf => (Edit.cue s h f was hf)
  have asked : ∀ (t : State) (j : StationId),
      Edits t (if (t.station j).lamp.state = .cold then (t.requestStrike j).1 else t) :=
    fun t j => Edits.ite (fun _ => t.requestStrike_edits j) fun _ => Edits.refl t
  unfold State.strikeCue
  dsimp only
  split
  · split
    · exact ((prepared _ rfl rfl rfl).edits.trans (State.incomingCheck_edits _ h _ _)).trans (asked _ _)
    · exact (prepared _ rfl rfl rfl).edits.trans (Edit.latch _ _).edits
  · exact (prepared _ rfl rfl rfl).edits

theorem State.markNotThreaded_edits (s : State) (h : HouseId) : Edits s (s.markNotThreaded h) :=
  (Edit.note s h _ ⟨rfl, rfl, rfl⟩).edits

theorem State.motorCue_edits (s : State) (h : HouseId) (was : (s.house h).engine.showing = true) :
    Edits s (s.motorCue h) := by
  have cued := fun f : House → House => fun hf => (Edit.cue s h f was hf)
  unfold State.motorCue
  dsimp only
  split
  · split
    · split
      · exact (cued _ rfl rfl rfl).edits.trans (State.startMotorThen_edits _ _ ‹_› fun t => t.action_edits h _)
      · exact (cued _ rfl rfl rfl).edits.trans (State.markNotThreaded_edits _ h)
    · exact (cued _ rfl rfl rfl).edits.trans (State.markNotThreaded_edits _ h)
  · exact (cued _ rfl rfl rfl).edits.trans (State.markNotThreaded_edits _ h)

theorem State.missReason_edits (s : State) (h : HouseId) : Edits s (s.missReason h).2 := by
  unfold State.missReason
  dsimp only
  split
  · exact Edits.refl s
  · split
    · exact Edits.refl s
    · split
      · exact Edits.refl s
      · split
        · exact Edits.refl s
        · exact (Edit.draw s).edits

theorem State.stopIncoming_edits (s : State) (h : HouseId) : Edits s (s.stopIncoming h) := by
  unfold State.stopIncoming
  split
  · exact (Edit.stop s _).edits
  · exact Edits.refl s

theorem State.runDown_edits (s : State) (h : HouseId) (was : (s.house h).engine.showing = true) :
    Edits s (s.runDown h) := by
  have houses : (((s.missReason h).2.stopIncoming h).latch (.missed h (s.missReason h).1)).houses = s.houses :=
    (State.stopIncoming_houses _ h).trans (s.missReason_houses h)
  have latched : Edits s (((s.missReason h).2.stopIncoming h).latch (.missed h (s.missReason h).1)) :=
    ((s.missReason_edits h).trans (State.stopIncoming_edits _ h)).trans (Edit.latch _ _).edits
  rw [← State.house_of_houses houses h] at was
  exact latched.trans (Edit.cue _ h (fun hs =>
    { hs with engine := .runDown, reel := { hs.reel with change := .taken, missed := some (s.missReason h).1 } })
    was rfl rfl rfl).edits

/-! ### The change instant -/

theorem State.changeInstant_edits (s : State) (h : HouseId) {out inc : StationId} (e : Entry)
    (hout : (s.house h).onScreen = some out) (hinc : (s.house h).incoming = some inc) :
    Edits s (s.changeInstant h out inc e) := by
  have house : (((s.takeScreen inc).darken out).extinguish out).house h = s.house h :=
    State.house_of_houses ((State.extinguish_houses _ out).trans
      (show ((s.takeScreen inc).darken out).houses = s.houses from s.takeScreen_houses inc)) h
  have dark : Edits s (((s.takeScreen inc).darken out).extinguish out) :=
    ((s.takeScreen_edits inc).trans (State.darken_edits _ out)).trans (Edit.extinguish _ out).edits
  generalize ht : ((s.takeScreen inc).darken out).extinguish out = t at house dark
  have changed := dark.trans (Edit.change t h out inc (house ▸ hout) (house ▸ hinc)).edits
  have lit := changed.trans (State.action_edits _ h e.pi)
  have showing : (((t.modQueue h fun q => setStatus (setStatus q out .runOut) inc .playing).action h e.pi).house
      h).engine.showing = true := by
    have := House.showing_of_onScreen hout
    cases e.pi <;> simpa [State.action, State.fade, State.modLight, State.modQueue, house] using this
  have played := fun (f : House → House) hf hq hl => lit.trans (Edit.cue _ h f showing hf hq hl).edits
  unfold State.changeInstant
  dsimp only
  rw [ht]
  exact Edits.ite (fun _ => (played _ rfl rfl rfl).trans (Edit.latch _ _).edits) fun _ => played _ rfl rfl rfl

theorem State.makeChange_edits {start : State → State} (hs : ∀ t, Edits t (start t)) (s : State) (h : HouseId) :
    Edits s (State.makeChange start s h) := by
  unfold State.makeChange
  split
  · exact (s.changeInstant_edits h _ ‹_› ‹_›).trans (hs _)
  · exact Edits.refl s

theorem State.changeCue_edits {start : State → State} (hs : ∀ t, Edits t (start t)) (s : State) (h : HouseId)
    (was : (s.house h).engine.showing = true) : Edits s (State.changeCue start s h) :=
  Edits.ite (fun _ => State.makeChange_edits hs s h) fun _ => s.runDown_edits h was

theorem State.takeCues_edits {start : State → State} (hs : ∀ t, Edits t (start t)) (s : State) (h : HouseId)
    (level : Nat) : Edits s (State.takeCues start s h level) := by
  have shows : ∀ (t : State) (b c : Bool), (b && (t.house h).cuesPermitted && c) = true →
      (t.house h).engine.showing = true := by
    intro t b c hb
    simp only [Bool.and_eq_true] at hb
    exact House.showing_of_cuesPermitted hb.1.2
  have struck := fun (t : State) (b c : Bool) => Edits.ite (s := t) (p := (b && (t.house h).cuesPermitted && c) = true)
    (fun hb => t.strikeCue_edits h (shows t b c hb)) fun _ => Edits.refl t
  have cued := fun (t : State) (b c : Bool) => Edits.ite (s := t) (p := (b && (t.house h).cuesPermitted && c) = true)
    (fun hb => t.motorCue_edits h (shows t b c hb)) fun _ => Edits.refl t
  have changed := fun (t : State) (b c : Bool) =>
    Edits.ite (s := t) (p := (b && (t.house h).cuesPermitted && c) = true)
      (fun hb => State.changeCue_edits hs t h (shows t b c hb)) fun _ => Edits.refl t
  unfold State.takeCues
  dsimp only
  exact ((struck _ _ _).trans (cued _ _ _)).trans (changed _ _ _)

/-! ### Reel ends -/

/-- The fade of an ended reel may as well come before its entry leaves. -/
theorem State.removeEntry_fade (s : State) {h : HouseId} {i : StationId} (own : (s.station i).house = h)
    (level time : Nat) : (s.removeEntry i).fade h level time = (s.fade h level time).removeEntry i := by
  subst own
  have e : ∀ k : HouseId, (s.modHouse k fun hs => { hs with queue := dropEntry hs.queue i }).modHouse k
        (fun hs => { hs with light := hs.light.fadeStart level time }) =
      (s.modHouse k fun hs => { hs with light := hs.light.fadeStart level time }).modHouse k
        (fun hs => { hs with queue := dropEntry hs.queue i }) := fun k => by
    rw [State.modHouse_modHouse, State.modHouse_modHouse]
  exact congrArg (fun u : State => u.holdCounter i) (e _)

theorem State.removeEntry_action (s : State) {h : HouseId} {i : StationId} (own : (s.station i).house = h)
    (a : Option LightAction) : (s.removeEntry i).action h a = (s.action h a).removeEntry i := by
  cases a with
  | none => rfl
  | some a => exact s.removeEntry_fade own a.level a.time

theorem House.toIdle_of_empty {hs : House} (h : hs.queue = []) : hs.toIdle = { hs with engine := .idle, hold := .none } := by
  simp [House.toIdle, House.readyTest, House.headBound, h]

/-- A reel that ended goes from the screen with its entry, after a fade of its lights (R58, R59). -/
theorem State.reelOff_edits (s : State) {h : HouseId} {i : StationId} (own : (s.station i).house = h)
    (was : (s.house h).onScreen = some i) (f : House → House) (hf : ∀ hs : House, hs.EndedAs (f hs)) :
    (∀ a, Edits s (((s.removeEntry i).action h a).modHouse h f)) ∧
      ∀ level time, Edits s (((s.removeEntry i).fade h level time).modHouse h f) := by
  have off : ∀ t : State, (t.station i).house = h → (t.house h).onScreen = some i → Edits t ((t.removeEntry i).modHouse h f) :=
    fun t own was => (Edit.reelOff t h i f own was (hf _)).edits
  have faded : ∀ level time, Edits s (((s.removeEntry i).fade h level time).modHouse h f) := by
    intro level time
    rw [State.removeEntry_fade s own]
    refine (Edit.fade s h level time).edits.trans (off _ own ?_)
    rw [State.fade, State.modLight, State.house_modHouse_same]
    exact was
  refine ⟨fun a => ?_, faded⟩
  cases a with
  | none => exact off s own was
  | some a => exact faded a.level a.time

theorem State.closeDown_station_house (s : State) (i j : StationId) :
    ((s.closeDown i).station j).house = (s.station j).house := by
  unfold State.closeDown
  simp only [State.station_extinguish, State.station_stopMotor, State.darken_eq, State.station_modStation]
  by_cases hj : j = i <;> simp [hj, Station.extinguished_house, Station.stopped_house]

theorem State.endMissed_edits (s : State) {h : HouseId} {i : StationId} (e : Entry) (own : (s.station i).house = h)
    (was : (s.house h).onScreen = some i) : Edits s (s.endMissed h i e) := by
  have ended : ∀ hs : House, hs.EndedAs
      (if hs.queue.isEmpty then ({ hs with regime := none } : House).toIdle
       else { hs with regime := none, engine := .hold, hold := .missed hs.reel.missed }) := by
    intro hs
    by_cases hq : hs.queue = []
    · simp [House.EndedAs, hq, House.toIdle_of_empty]
    · simp [House.EndedAs, hq]
  obtain ⟨-, faded⟩ := (s.closeDown i).reelOff_edits ((s.closeDown_station_house i i).trans own)
    ((State.house_of_houses (s.closeDown_houses i) h).symm ▸ was) _ ended
  unfold State.endMissed
  dsimp only
  cases e.en with
  | none => exact (s.closeDown_edits i).trans (faded _ _)
  | some a => exact (s.closeDown_edits i).trans (faded _ _)

theorem State.endReel_edits (s : State) {h : HouseId} {i : StationId} (e : Entry) (own : (s.station i).house = h)
    (was : (s.house h).onScreen = some i) : Edits s (s.endReel h i e) := by
  have ended : ∀ hs : House, hs.EndedAs
      (if hs.queue.isEmpty then ({ hs with regime := none, reel := Reel.clear } : House).toIdle
       else { hs with regime := none, reel := Reel.clear, engine := .interval }) := by
    intro hs
    by_cases hq : hs.queue = []
    · simp [House.EndedAs, hq, House.toIdle_of_empty]
    · simp [House.EndedAs, hq]
  obtain ⟨acted, -⟩ := (s.closeDown i).reelOff_edits ((s.closeDown_station_house i i).trans own)
    ((State.house_of_houses (s.closeDown_houses i) h).symm ▸ was) _ ended
  exact (s.closeDown_edits i).trans (acted e.en)

theorem House.onScreen_congr {a b : House} (he : b.engine = a.engine) (hq : b.queue = a.queue) :
    b.onScreen = a.onScreen := by
  simp only [House.onScreen, House.playing, he, hq]

theorem State.missAtTail_edits (s : State) (h : HouseId) : Edits s (s.missAtTail h) :=
  ((Edit.note s h _ ⟨rfl, rfl, rfl⟩).edits.trans (State.stopIncoming_edits _ h)).trans (Edit.latch _ _).edits

theorem State.missAtTail_onScreen (s : State) (h : HouseId) : ((s.missAtTail h).house h).onScreen = (s.house h).onScreen := by
  unfold State.missAtTail
  dsimp only
  rw [show ∀ (t : State) w, (t.latch w).house h = t.house h from fun _ _ => rfl,
    State.house_of_houses (State.stopIncoming_houses _ h), State.house_modHouse_same]
  exact House.onScreen_congr rfl rfl

theorem State.stopMotor_station_house (s : State) (i j : StationId) :
    ((s.stopMotor i).station j).house = (s.station j).house := by
  rw [State.station_stopMotor]
  split
  · rename_i hj; rw [hj, Station.stopped_house]
  · rfl

theorem State.stopIncoming_station_house (s : State) (h : HouseId) (j : StationId) :
    ((s.stopIncoming h).station j).house = (s.station j).house := by
  unfold State.stopIncoming
  split
  · exact s.stopMotor_station_house _ j
  · rfl

theorem State.onScreenTail_edits (s : State) {h : HouseId} {i : StationId} (e : Entry) (own : (s.station i).house = h)
    (was : (s.house h).onScreen = some i) : Edits s (s.onScreenTail h i e) := by
  have missed := (s.missAtTail_edits h).trans ((s.missAtTail h).endMissed_edits e
    ((State.stopIncoming_station_house _ h i).trans own) ((s.missAtTail_onScreen h).trans was))
  exact Edits.ite (fun _ => s.endMissed_edits e own was)
    fun _ => Edits.ite (fun _ => missed) fun _ => s.endReel_edits e own was

theorem State.reelTail_edits (s : State) (i : StationId) : Edits s (s.reelTail i) := by
  unfold State.reelTail
  dsimp only
  split
  · rename_i e he
    split
    · rename_i hr
      have bound : (s.stopMotor i).boundEntry i = some e := by
        unfold State.boundEntry
        rw [s.stopMotor_station_house i i]
        exact he
      exact ((Edit.stop s i).edits.trans (Edit.runOutLeaves _ i e bound hr).edits).trans (Edit.ready _ _).edits
    · exact Edits.ite (fun h => s.onScreenTail_edits e rfl h) fun _ => Edits.refl s
    · exact Edits.refl s
    · exact Edits.refl s
  · exact Edits.refl s

theorem State.beginReel_edits (n : Nat) (h : HouseId) (s : State) : Edits s (State.beginReel n h s) := by
  induction n generalizing s with
  | zero => exact Edits.refl s
  | succ n ih =>
    unfold State.beginReel
    dsimp only
    have cues := State.takeCues_edits ih s h (s.footage h)
    split
    · exact Edits.ite (fun _ => cues.trans (State.reelTail_edits _ _)) fun _ => cues
    · exact cues

theorem State.testReel_edits (s : State) (h : HouseId) : Edits s (s.testReel h) := State.beginReel_edits _ h s

theorem State.testFootage_edits (s : State) (h : HouseId) : Edits s (s.testFootage h) :=
  State.takeCues_edits (fun t => t.testReel_edits h) s h _

/-! ### The start sequence -/

theorem House.startStation_congr {a b : House} (he : b.engine = a.engine) (hq : b.queue = a.queue) :
    b.startStation = a.startStation := by
  simp only [House.startStation, he, hq]

@[simp] theorem State.action_engine (s : State) (h k : HouseId) (a : Option LightAction) :
    ((s.action h a).house k).engine = (s.house k).engine := by
  cases a with
  | none => rfl
  | some a =>
    unfold State.action State.fade State.modLight
    rw [State.house_modHouse]
    split
    · rename_i hk; rw [hk]
    · rfl

@[simp] theorem State.action_queue (s : State) (h k : HouseId) (a : Option LightAction) :
    ((s.action h a).house k).queue = (s.house k).queue := by
  cases a with
  | none => rfl
  | some a =>
    unfold State.action State.fade State.modLight
    rw [State.house_modHouse]
    split
    · rename_i hk; rw [hk]
    · rfl

theorem State.picture_edits (s : State) {h : HouseId} {i : StationId} (was : (s.house h).startStation = some i) :
    Edits s (s.picture h i) := by
  have lit : Edits s ((s.takeScreen i).action h ((s.house h).queue.head?.bind (·.pi))) :=
    (s.takeScreen_edits i).trans (State.action_edits _ h _)
  have still : (((s.takeScreen i).action h ((s.house h).queue.head?.bind (·.pi))).house h).startStation = some i := by
    rw [House.startStation_congr (State.action_engine _ h h _) (State.action_queue _ h h _),
      State.house_of_houses (s.takeScreen_houses i)]
    exact was
  unfold State.picture
  dsimp only
  exact (lit.trans (Edit.picture _ h _ i still rfl rfl rfl).edits).trans (State.testReel_edits _ h)

theorem State.leaderTest_edits (s : State) {h : HouseId} {i : StationId} (was : (s.house h).startStation = some i) :
    Edits s (s.leaderTest h i) := by
  unfold State.leaderTest
  split
  · exact Edits.ite (fun _ => s.picture_edits was) fun _ => Edits.refl s
  · exact Edits.refl s

theorem State.leaderStep_edits (s : State) {h : HouseId} {i : StationId} (was : (s.house h).startStation = some i) :
    Edits s (s.leaderStep h i) := by
  refine (Edit.note s h _ ⟨rfl, rfl, rfl⟩).edits.trans (State.leaderTest_edits _ ?_)
  rw [State.house_modHouse_same]
  exact (House.startStation_congr rfl rfl).trans was

/-- A station trip leaves the houses of other stations alone (R155, R156). -/
theorem State.house_dropRunOut_other (s : State) {i : StationId} {k : HouseId} (hk : k ≠ (s.station i).house) :
    (s.dropRunOut i).house k = s.house k := by
  unfold State.dropRunOut
  split
  · split
    · exact State.house_modHouse_other s (fun hs => { hs with queue := dropEntry hs.queue i }) hk
    · rfl
  · rfl

theorem State.house_stationTrip_other (s : State) {i : StationId} {k : HouseId} (cause : StationCause)
    (capture : CaptureCause) (hk : k ≠ (s.station i).house) : (s.stationTrip i cause capture).house k = s.house k := by
  have tripped : ∀ b, (((s.captureTrip capture (some i)).tripStation i cause).tripHouse i b).house k = s.house k := by
    intro b
    generalize hu : (s.captureTrip capture (some i)).tripStation i cause = u
    have own : (u.station i).house = (s.station i).house := by rw [← hu, State.tripStation_station_house]; rfl
    have hs : u.house k = s.house k := by
      rw [← hu, State.house_of_houses (State.tripStation_houses _ i cause)]; rfl
    unfold State.tripHouse
    dsimp only
    rw [own]
    split
    · rw [State.house_enterFault, if_neg hk, hs]
    · rw [State.readyTest, State.house_modHouse_other _ _ hk, State.house_dropRunOut_other _ (own ▸ hk), hs]
  have acted : ∀ b, (if (s.station i).trip.isSome then s.captureTrip capture (some i)
      else ((s.captureTrip capture (some i)).tripStation i cause).tripHouse i b).house k = s.house k := by
    intro b
    split
    · rfl
    · exact tripped b
  unfold State.stationTrip
  dsimp only
  split
  · split
    · unfold State.gateAction State.releasePorts State.setFire State.modLight
      rw [State.house_modHouse_other _ _ hk, State.house_modHouse_other _ _ hk]
      exact acted _
    · exact acted _
  · rfl

/-- While its house stays in STARTING, the start-sequence station keeps its part through a film break at its start. -/
theorem State.stationTrip_startStation {s : State} {h : HouseId} {i : StationId} {cause : StationCause}
    {capture : CaptureCause} (was : (s.house h).startStation = some i)
    (still : ((s.stationTrip i cause capture).house h).engine = .starting) (hc : cause ≠ .gate) :
    ((s.stationTrip i cause capture).house h).startStation = some i := by
  by_cases hk : h = (s.station i).house
  · subst hk
    have engaged : s.engaged i = true := by simp [State.engaged, was]
    revert still
    unfold State.stationTrip
    simp only [engaged, hc, if_false]
    split
    · split
      · intro _; exact was
      · intro still
        unfold State.tripHouse at still
        simp only [if_true, State.tripStation_station_house] at still
        rw [show ((s.captureTrip capture (some i)).station i).house = (s.station i).house from rfl,
          State.house_enterFault, if_pos rfl] at still
        cases still
    · intro _; exact was
  · rwa [State.house_stationTrip_other s cause capture hk]

theorem State.startMotorThen_startStation {s : State} {h : HouseId} {i : StationId} {a : Option LightAction}
    (was : (s.house h).startStation = some i)
    (still : ((s.startMotorThen i fun t => t.action h a).house h).engine = .starting) :
    ((s.startMotorThen i fun t => t.action h a).house h).startStation = some i := by
  have acted : ((((s.modStation i Station.startMotor).action h a).house h)).startStation = some i := by
    rw [House.startStation_congr (State.action_engine _ h h a) (State.action_queue _ h h a)]
    exact was
  revert still
  unfold State.startMotorThen
  dsimp only
  split
  · exact fun still => State.stationTrip_startStation acted still (by decide)
  · exact fun _ => acted

theorem EngineState.active_of_starting {g : EngineState} (h : g = .starting) : g.active = true := by rw [h]; rfl

theorem State.runUpStep_edits (s : State) {h : HouseId} {i : StationId} (was : (s.house h).startStation = some i) :
    Edits s (s.runUpStep h i) := by
  generalize hms : (s.house h).queue.head?.bind (·.ms) = ms
  generalize ht : (s.modHouse h fun hs => { hs with step := some .runUp, lampWait := false }) = t
  have noted : Edits s t := ht ▸ (Edit.note s h _ ⟨rfl, rfl, rfl⟩).edits
  have still : (t.house h).startStation = some i := by
    rw [← ht, State.house_modHouse_same]
    exact (House.startStation_congr rfl rfl).trans was
  unfold State.runUpStep
  dsimp only
  rw [hms, ht]
  split
  · refine (noted.trans (t.action_edits h ms)).trans (State.enterFault_edits _ _ _ _ ?_)
    rw [State.action_engine]
    exact EngineState.active_of_starting (House.starting_of_startStation still)
  · have started := noted.trans (t.startMotorThen_edits i ‹_› fun v => v.action_edits h ms)
    refine Edits.ite (fun hu => ?_) fun _ => started
    simp only [Bool.and_eq_true, decide_eq_true_eq] at hu
    exact started.trans (State.leaderStep_edits _ (State.startMotorThen_startStation still hu.1))

theorem State.awaitLamp_edits (s : State) (h : HouseId) : Edits s (s.awaitLamp h) :=
  (Edit.note s h _ ⟨rfl, rfl, rfl⟩).edits

theorem State.lampWaitStep_edits (s : State) {h : HouseId} {i : StationId} (was : (s.house h).startStation = some i) :
    Edits s (s.lampWaitStep h i) := by
  have active := EngineState.active_of_starting (House.starting_of_startStation was)
  have asked := s.requestStrike_edits i
  have houses := State.house_of_houses (s.requestStrike_houses i) h
  unfold State.lampWaitStep
  split
  · exact s.runUpStep_edits was
  · exact s.awaitLamp_edits h
  · exact s.awaitLamp_edits h
  · exact s.awaitLamp_edits h
  · split <;> rename_i e <;> rw [e] at asked houses
    · exact asked.trans (State.awaitLamp_edits _ h)
    · exact asked.trans (State.enterFault_edits _ _ _ _ (houses ▸ active))
  · exact s.enterFault_edits _ _ _ active
  · exact s.enterFault_edits _ _ _ active

theorem House.startStation_of_threadedHead {hs : House} {i : StationId} (h : hs.threadedHead = some i) (b : House)
    (he : b.engine = .starting) (hq : b.queue = hs.queue) : b.startStation = some i := by
  unfold House.threadedHead at h
  unfold House.startStation
  rw [if_pos he, hq]
  cases hl : hs.queue with
  | nil => rw [hl] at h; cases h
  | cons e q =>
    rw [hl] at h
    dsimp only at h
    split at h
    · simpa using h
    · cases h

theorem State.startSequence_edits (s : State) {h : HouseId} {i : StationId}
    (was : (s.house h).engine.startable = true) (head : (s.house h).threadedHead = some i) :
    Edits s (s.startSequence h i) := by
  refine (Edit.begin s h _ i was head rfl rfl rfl).edits.trans (State.lampWaitStep_edits _ ?_)
  rw [State.house_modHouse_same]
  exact House.startStation_of_threadedHead head _ rfl rfl

/-- What GO has tested once it is taken (R45). -/
theorem State.goCheck_ok {s : State} {h : HouseId} {i : StationId} (hg : s.goCheck h = .ok i) :
    (s.house h).engine.startable = true ∧ (s.house h).threadedHead = some i ∧ (s.house h).port = .up ∧
      s.tripped i = false := by
  unfold State.goCheck at hg
  dsimp only at hg
  split at hg
  · cases hg
  split at hg
  · cases hg
  split at hg
  · cases hg
  rename_i hs
  cases hh : (s.house h).threadedHead with
  | none => rw [hh] at hg; cases hg
  | some j =>
    rw [hh] at hg
    dsimp only at hg
    split at hg
    · cases hg
    · rename_i hp
      cases hg
      simp only [Bool.or_eq_true, decide_eq_true_eq, not_or, Bool.not_eq_true] at hp
      refine ⟨by simpa using hs, rfl, ?_, hp.2⟩
      cases hport : (s.house h).port with
      | up => rfl
      | down => exact absurd hport hp.1

theorem EngineState.active_of_startable {g : EngineState} (h : g.startable = true) : g.active = true := by
  cases g <;> first | rfl | cases h

theorem State.eventStart_edits (s : State) (h : HouseId) : Edits s (s.eventStart h) := by
  unfold State.eventStart
  split
  · rename_i hg
    split
    · rename_i hc
      obtain ⟨was, head, -, -⟩ := State.goCheck_ok hc
      exact s.startSequence_edits was head
    · exact s.enterFault_edits _ _ _ (EngineState.active_of_startable hg)
    · exact Edits.refl s
  · exact Edits.refl s

/-! ### Lamps and motors as the engine hears of them -/

theorem State.engineLamp_edits (s : State) (i : StationId) : Edits s (s.engineLamp i) := by
  have faulted := Edits.ite (s := s) (u := s)
    (p := ((decide ((s.house (s.station i).house).startStation = some i) ||
      decide ((s.house (s.station i).house).onScreen = some i)) = true))
    (fun h => s.enterFault_edits (s.station i).house .lamp (some i) (State.engaged_active (i := i) (by
      simp only [Bool.or_eq_true, decide_eq_true_eq] at h
      obtain h | h := h <;> simp [State.engaged, h]))) fun _ => Edits.refl s
  unfold State.engineLamp
  dsimp only
  split
  · refine Edits.ite (fun h => s.runUpStep_edits ?_) fun _ => Edits.refl s
    simp only [Bool.and_eq_true, decide_eq_true_eq] at h
    exact h.1
  · exact faulted
  · exact faulted
  · exact faulted
  all_goals exact Edits.refl s

theorem State.engineAtSpeed_edits (s : State) (i : StationId) : Edits s (s.engineAtSpeed i) := by
  refine Edits.ite (fun h => s.leaderStep_edits ?_) fun _ => Edits.refl s
  simp only [Bool.and_eq_true, decide_eq_true_eq] at h
  exact h.1

theorem State.engineSlow_edits (s : State) (i : StationId) : Edits s (s.engineSlow i) :=
  Edits.ite (fun h => s.enterFault_edits _ _ _ (EngineState.active_of_starting (House.starting_of_startStation h)))
    fun _ => Edits.refl s

theorem State.tail_edits (s : State) (i : StationId) : Edits s (s.tail i) :=
  Edits.ite (fun h => s.picture_edits h) fun _ => s.reelTail_edits i

theorem State.pulseTests_edits (s : State) (i : StationId) : Edits s (s.pulseTests i) :=
  Edits.ite (fun h => Edits.ite (fun _ => s.leaderTest_edits h) fun _ => Edits.refl s)
    fun _ => Edits.ite (fun _ => s.testFootage_edits _) fun _ => Edits.refl s

theorem State.onScreenCheck_edits (s : State) (i : StationId) : Edits s (s.onScreenCheck i) := by
  unfold State.onScreenCheck
  dsimp only
  split
  · split
    · exact Edits.ite (fun _ => (Edit.mark s i .given).edits.trans (Edit.latch _ _).edits) fun _ => Edits.refl s
    · exact Edits.refl s
  · exact Edits.refl s

/-! ### The show clock -/

theorem State.firePreStrike_edits (s : State) (h : HouseId) : Edits s (s.firePreStrike h) := by
  have noted := (Edit.note s h (fun hs => { hs with alarm := hs.alarm.map fun a => { a with state := .done } })
    ⟨rfl, rfl, rfl⟩).edits
  unfold State.firePreStrike
  dsimp only
  split
  · split
    · exact Edits.ite (fun _ => noted.trans (State.requestStrike_edits _ _)) fun _ => noted
    · exact noted
  · exact noted

theorem State.fireAlarm_edits (s : State) (h : HouseId) : Edits s (s.fireAlarm h) := by
  have noted := (Edit.note s h (fun hs => { hs with alarm := none }) ⟨rfl, rfl, rfl⟩).edits
  exact Edits.ite (fun _ => noted.trans (State.eventStart_edits _ h)) fun _ => noted.trans (Edit.latch _ _).edits

theorem State.clockHouse_edits (s : State) (h : HouseId) : Edits s (s.clockHouse h) := by
  have pre : ∀ b : Bool, Edits s (if b then s.firePreStrike h else s) :=
    fun _ => Edits.ite (fun _ => s.firePreStrike_edits h) fun _ => Edits.refl s
  exact Edits.ite (fun _ => (pre _).trans (State.fireAlarm_edits _ h)) fun _ => pre _

theorem State.freeOrder_edits {α : Type} (s : State) (l : List α) : Edits s (s.freeOrder l).2 := by
  obtain ⟨-, h | h⟩ := s.freeOrder_spec l <;> rw [h]
  · exact Edits.refl s
  · exact (Edit.draw s).edits

end Sys2Proof.Machine

/-!
What a command can do, said once. `Act` adds to `Edit` the changes that one row makes by itself; every answer of a console
line but RS and every event outside the line unit is shown to be a chain of them (`answer_acts`, `exec_event_ends`). An
invariant that reads no part of the line unit and that every `Act` and a booth reset keep is kept by every step
(`step_keeps`).
-/

namespace Sys2Proof.Machine

/-! ### The changes that single rows make -/

/-- A station whose lamp is about to leave its state after a sample, a jog step or a line: only counts, carbon and pulses
differ, and those of the channel and the window only in BURN. -/
structure Station.Leaves (a b : Station) : Prop where
  station : b = { a with lamp := b.lamp, channel := b.channel, carbon := b.carbon }
  lamp : b.lamp = { a.lamp with retry := b.lamp.retry, restrike := b.lamp.restrike }
  channel : b.channel = { a.channel with
    loss := b.channel.loss, short := b.channel.short, credit := b.channel.credit, steps := b.channel.steps
    jog := b.channel.jog, fsPulses := b.channel.fsPulses }
  carbon : b.carbon = { a.carbon with rp := b.carbon.rp, openBucket := b.carbon.openBucket }
  counts : a.lamp.state ≠ .burn → b.channel.loss = a.channel.loss ∧ b.channel.short = a.channel.short ∧
    b.channel.credit = a.channel.credit ∧ b.carbon.openBucket = a.carbon.openBucket
  steps : b.channel.steps ≤ max a.channel.steps 4
  jog : b.channel.jog = none ∨ b.channel.jog = a.channel.jog
  rp : b.carbon.rp ≤ max a.carbon.rp 5000

/-- A station whose lamp burns on after a sample (R84 to R92): counts, credit, steps and carbon. -/
structure Station.BurnsOn (a b : Station) : Prop where
  station : b = { a with channel := b.channel, carbon := b.carbon }
  channel : b.channel = { a.channel with
    loss := b.channel.loss, short := b.channel.short, credit := b.channel.credit, steps := b.channel.steps
    fsPulses := b.channel.fsPulses }
  carbon : b.carbon = { a.carbon with rp := b.carbon.rp, openBucket := b.carbon.openBucket }
  loss : b.channel.loss ≤ 1
  short : b.channel.short ≤ 2
  steps : b.channel.steps ≤ 4
  credit : ∀ p, a.channel.params = some p → b.channel.credit ≤ max a.channel.credit (p.thr - 1)
  rp : b.carbon.rp ≤ a.carbon.rp
  bucket : b.carbon.openBucket.isSome = a.carbon.openBucket.isSome ∧
    ∀ n, b.carbon.openBucket = some n → n ≤ 255 ∨ a.carbon.openBucket = some n

/-- A station with a jog started, stepped or ended (R100 to R102). -/
structure Station.Jogs (a b : Station) : Prop where
  station : b = { a with channel := b.channel, carbon := b.carbon }
  channel : b.channel = { a.channel with jog := b.channel.jog, fsPulses := b.channel.fsPulses }
  carbon : b.carbon = { a.carbon with rp := b.carbon.rp }
  jog : ∀ n, b.channel.jog = some n →
    (1 ≤ n ∧ n ≤ 200 ∧ a.lamp.state = .cold) ∨ ∃ m, a.channel.jog = some m ∧ (n = m ∨ 1 ≤ n ∧ n ≤ m)
  rp : b.carbon.rp ≤ a.carbon.rp

/-- The light channel in its ranges (R139 to R141). -/
def Light.InRange (l : Light) : Prop :=
  l.level ≤ 1000 ∧ l.target ≤ 1000 ∧ l.remaining ≤ 600 ∧ l.timer = decide (0 < l.remaining)

/-- A station as the strap read at the end of its reset hold leaves it (R21). -/
def State.strapsRead (s : State) (i : StationId) (p : TrimStraps) : State :=
  ({ s with straps := { s.straps with trim := s.straps.trim.set i p } } : State).modStation i fun st =>
    { st.readStraps p with
        condition := .normal
        ld := { st.ld with mode := .enforce }, md := { st.md with mode := .enforce } }

/-- The end of a reset hold (R21, R152, R159). -/
def State.resetHoldEnd (s : State) (i : StationId) (p : TrimStraps) : State :=
  if !(s.station i).present && ((s.strapsRead i p).station i).present then (s.strapsRead i p).madePresent i
  else s.strapsRead i p

/-- The house record after HA (R64). -/
def House.acknowledged (hs : House) : House :=
  if hs.queue.isEmpty then ({ hs with fault := none } : House).toIdle
  else { hs with fault := none, engine := .hold, hold := .fault }

/-- The changes that rows make by themselves, with those of `Edit`. -/
inductive Act : State → State → Prop
  | edit {s t : State} (h : Edit s t) : Act s t
  -- stations
  | inputs (s : State) (i : StationId) (ld md : Station → DoorState) (gh lt fb : Station → Contact) :
      Act s (s.modStation i fun st => { st with ld := ld st, md := md st, gh := gh st, lt := lt st, fb := fb st })
  | count (s : State) (i : StationId) (dir : Direction) :
      Act s (s.modStation i fun st => st.countPulse (s.boundEntry i).isSome dir)
  | pulse (s : State) (i : StationId) (interval : Nat) : Act s (s.modStation i fun st => st.motorPulse interval)
  | stopped (s : State) (i : StationId) (was : (s.station i).motor = .stopping) :
      Act s (s.modStation i fun st => { st with motor := .stopped, stopTimer := false })
  | resetHoldEnd (s : State) (i : StationId) (p : TrimStraps) (was : (s.station i).condition = .resetting) :
      Act s (s.resetHoldEnd i p)
  | takeReset (s : State) (i : StationId) (engaged : s.engaged i = false)
      (out : (s.station i).lamp.state.out = true) :
      Act s (((s.dropBinding i).modStation i Station.takeReset).readyTest (s.station i).house)
  | assign (s : State) (i : StationId) (h : HouseId) (own : (s.house (s.station i).house).engine = .idle)
      (other : (s.house h).engine = .idle) (bound : s.boundEntry i = none) :
      Act s (s.modStation i fun st => { st with house := h })
  -- running orders and house engines
  | insert (s : State) (h : HouseId) (k : Nat) (e : Entry) (room : (s.house h).queue.length < 12)
      (place : k ≤ (s.house h).queue.length) (taken : e.asTaken) (waiting : e.status = .waiting)
      (unbound : e.bound = none) (behind : boundFrom (s.house h).queue k = false) :
      Act s ((s.modQueue h fun q => q.insertIdx k e).readyTest h)
  | delete (s : State) (h : HouseId) (k : Nat) (e : Entry) (entry : (s.house h).queue[k]? = some e)
      (unbound : e.bound = none) (was : (s.house h).engine ≠ .starting) :
      Act s ((s.modQueue h fun q => q.eraseIdx k).modHouse h fun hs => hs.readyTest.emptyTest)
  | clear (s : State) (h : HouseId) (was : (s.house h).engine ∈ [.idle, .ready, .hold, .interval]) :
      Act s (((s.house h).queue.foldl State.clearBinding s).modHouse h fun hs =>
        ({ hs with queue := [] } : House).readyTest.emptyTest)
  | thread (s : State) (i : StationId) (k : Nat) (e : Entry) (condition : (s.station i).condition = .normal)
      (entry : (s.house (s.station i).house).queue[k]? = some e) (open_ : s.threadBlocked i k e = false) :
      Act s (((s.modQueue (s.station i).house fun q =>
        q.set k { e with status := .threaded, bound := some i }).threadCounter i).readyTest (s.station i).house)
  | unthread (s : State) (i : StationId) (e : Entry) (bound : s.boundEntry i = some e) (status : e.status ≠ .playing)
      (start : (s.house (s.station i).house).startStation ≠ some i) (stays : e.status ≠ .runOut) :
      Act s (((s.modQueue (s.station i).house fun q => unbindEntry q i).holdCounter i).readyTest (s.station i).house)
  | endShow (s : State) (h : HouseId) (was : (s.house h).engine.inShow = true) : Act s (s.endShow h)
  | acknowledge (s : State) (h : HouseId) (was : (s.house h).engine = .fault) :
      Act s (s.modHouse h House.acknowledged)
  -- lamps, arc channels and carbon
  | lampOut (s : State) (i : StationId) (new : LampState) (f : Station → Station) (out : new.out = true)
      (leaves : (s.station i).Leaves (f (s.station i)))
      (retry : (f (s.station i)).lamp.retry ≤ (s.station i).lamp.retry + if (s.station i).lamp.state.out then 0 else 1)
      (restrike : (f (s.station i)).lamp.restrike ≤ (s.station i).lamp.restrike) :
      Act s ((s.modStation i f).setLamp i new)
  | requeue (s : State) (i : StationId) (cls : Option StrikeClass) (f : Station → Station)
      (was : (s.station i).lamp.state.sampled = true) (leaves : (s.station i).Leaves (f (s.station i)))
      (retry : (f (s.station i)).lamp.retry ≤ max (s.station i).lamp.retry 2)
      (restrike : (f (s.station i)).lamp.restrike ≤ max (s.station i).lamp.restrike 2)
      (cls_ : cls.isSome = true ∨ (s.station i).lamp.state = .establish ∧ cls = (s.station i).lamp.granted) :
      Act s (((s.modStation i f).setLamp i .queued cls).testGrant)
  | established (s : State) (i : StationId) (was : (s.station i).lamp.state = .striking) :
      Act s (s.setLamp i .establish)
  | burn (s : State) (i : StationId) (was : (s.station i).lamp.state = .establish) : Act s (s.setLamp i .burn)
  | counted (s : State) (i : StationId) (was : (s.station i).lamp.state = .establish)
      (few : (s.station i).lamp.establish + 1 < 15) :
      Act s (s.modLamp i fun l => { l with establish := l.establish + 1 })
  | sampled (s : State) (i : StationId) (v a : Nat) (was : (s.station i).channel.sampleTimer = true) (hv : v ≤ 255)
      (ha : a ≤ 255) :
      Act s (s.modChannel i fun c => { c with vc := some v, ic := some a, status := .live, steps := 0, fsPulses := 0 })
  | burnsOn (s : State) (i : StationId) (f : Station → Station) (was : (s.station i).lamp.state = .burn)
      (burns : (s.station i).BurnsOn (f (s.station i))) : Act s (s.modStation i f)
  | jogs (s : State) (i : StationId) (f : Station → Station) (jogs : (s.station i).Jogs (f (s.station i))) :
      Act s (s.modStation i f)
  | bucket (s : State) (i : StationId) (n : Nat) (was : (s.station i).carbon.openBucket = some n) :
      Act s (s.modCarbon i fun c => { c with window := closeBucket c.window n, openBucket := some 0 })
  | params (s : State) (i : StationId) (p q : Params) (was : (s.station i).channel.params = some p)
      (range : p.inRange → q.inRange) : Act s (s.modChannel i fun c => c.setParams q)
  | rechargeEnd (s : State) (was : s.arbiter.recharge = true) :
      Act s ({ s with arbiter := { s.arbiter with supply := .free, recharge := false } } : State).testGrant
  | orderMode (s : State) (m : OrderMode) : Act s { s with arbiter := { s.arbiter with mode := m } }
  -- house lights, the clock, the fire monitor and the line unit
  | relight (s : State) (h : HouseId) (f : Light → Light)
      (range : (s.house h).light.InRange → (f (s.house h).light).InRange) : Act s (s.modLight h f)
  | clock (s : State) (c : Clock) : Act s { s with clock := c }
  | fire (s : State) (f : Fire) (booth : f.booth = s.fire.booth) : Act s { s with fire := f }
  | boothTrip (s : State) (cause : BoothCause) (was : s.fire.booth = none) : Act s (s.boothTripActions cause)
  | fireClear (s : State) : Act s s.fireClear
  | reported (s : State) : Act s { s with line := { s.line with warnings := [] } }
  | silenced (s : State) : Act s { s with line := { s.line with attention := false } }

/-- A chain of the changes of rows. -/
def Acts (s t : State) : Prop := Relation.ReflTransGen Act s t

theorem Act.acts {s t : State} (h : Act s t) : Acts s t := Relation.ReflTransGen.single h

theorem Acts.refl (s : State) : Acts s s := Relation.ReflTransGen.refl

theorem Acts.trans {s t u : State} (h : Acts s t) (k : Acts t u) : Acts s u := Relation.ReflTransGen.trans h k

theorem Acts.tail {s t u : State} (h : Acts s t) (k : Act t u) : Acts s u := Relation.ReflTransGen.tail h k

theorem Edits.acts {s t : State} (h : Edits s t) : Acts s t :=
  h.keeps (P := Acts s) (fun _ _ he ha => ha.tail (Act.edit he)) (Acts.refl s)

/-- What every change of a row keeps, a chain keeps. -/
theorem Acts.keeps {P : State → Prop} (hP : ∀ s t, Act s t → P s → P t) {s t : State} (h : Acts s t) (hs : P s) :
    P t := by
  unfold Acts at h
  induction h with
  | refl => exact hs
  | tail _ he ih => exact hP _ _ he ih

theorem Acts.ite {s t u : State} {p : Prop} [Decidable p] (ht : p → Acts s t) (hu : ¬p → Acts s u) :
    Acts s (if p then t else u) := by
  split
  · exact ht ‹_›
  · exact hu ‹_›

/-! ### What stations and lamps are given -/

theorem Station.Leaves.refl (a : Station) : a.Leaves a where
  station := rfl
  lamp := rfl
  channel := rfl
  carbon := rfl
  counts := fun _ => ⟨rfl, rfl, rfl, rfl⟩
  steps := Nat.le_max_left _ _
  jog := .inr rfl
  rp := Nat.le_max_left _ _

theorem State.modStation_id (s : State) (i : StationId) : (s.modStation i fun st => st) = s := by
  cases i <;> rfl

/-- A lamp leaves its state for COLD, STUB or LOCKOUT with nothing else at its station changed before. -/
theorem State.lampOut_act (s : State) (i : StationId) {new : LampState} (out : new.out = true) :
    Act s (s.setLamp i new) := by
  have h := Act.lampOut s i new (fun st => st) out (Station.Leaves.refl _) (Nat.le_add_right _ _) (Nat.le_refl _)
  rwa [State.modStation_id] at h

theorem offerStep_some {t : Trim} {rp r : Nat} (h : offerStep t rp = some r) : r ≤ rp := by
  unfold offerStep at h
  split at h
  · cases h; exact Nat.sub_le _ _
  · cases h

/-- No more steps are issued than offered, and the carbon never grows (R126). -/
theorem offerSteps_le (t : Trim) (n rp : Nat) : (offerSteps t n rp).1 ≤ n ∧ (offerSteps t n rp).2.1 ≤ rp := by
  induction n generalizing rp with
  | zero => exact ⟨Nat.le_refl _, Nat.le_refl _⟩
  | succ n ih =>
    unfold offerSteps
    cases hs : offerStep t rp with
    | none => exact ⟨Nat.zero_le _, Nat.le_refl _⟩
    | some r =>
      obtain ⟨hk, hr⟩ := ih r
      exact ⟨Nat.succ_le_succ hk, hr.trans (offerStep_some hs)⟩

theorem stepsDue_le (p : Params) (credit : Nat) : stepsDue p credit ≤ 4 := by
  unfold stepsDue
  cases p.mode with
  | step => dsimp only; split <;> omega
  | burst => exact Nat.min_le_right _ _

theorem creditKept_le (p : Params) (credit : Nat) : creditKept p credit ≤ p.thr - 1 := Nat.min_le_right _ _

theorem sampleValue_le (c : Conversions) : sampleValue c ≤ 255 := by
  have h : ∀ x, convert x ≤ 255 := fun x => Nat.min_le_right _ _
  have := h c.c1; have := h c.c2; have := h c.c3; have := h c.c4
  unfold sampleValue
  omega

theorem countSteps_le {b : Option Nat} {k n : Nat} (h : countSteps b k = some n) : n ≤ 255 := by
  cases b with
  | none => cases h
  | some m => cases h; exact Nat.min_le_right _ _

/-! ### The regulation sample -/

theorem State.pulses_act (s : State) (i : StationId) (n : Nat) :
    Act s (s.modChannel i fun c => { c with fsPulses := n }) :=
  Act.jogs s i _ ⟨rfl, rfl, rfl, fun m h => .inr ⟨m, h, .inl rfl⟩, Nat.le_refl _⟩

theorem State.feedSample_acts (s : State) (i : StationId) (t : Trim) (p : Params) (v : Nat)
    (was : (s.station i).lamp.state = .burn) (hp : (s.station i).channel.params = some p) :
    Acts s (s.feedSample i t p v) := by
  unfold State.feedSample
  dsimp only
  generalize hc : creditAdded p (s.station i).channel.credit v = credit
  obtain ⟨hk, hr⟩ := offerSteps_le t (stepsDue p credit) (s.station i).carbon.rp
  generalize offerSteps t (stepsDue p credit) (s.station i).carbon.rp = o at hk hr
  obtain ⟨issued, rp, withheld⟩ := o
  have few : issued ≤ 4 := hk.trans (stepsDue_le p credit)
  have kept := creditKept_le p credit
  cases withheld with
  | true =>
    have out := Act.lampOut s i .stub (fun st =>
      { st with
          channel := { st.channel with loss := 0, short := 0, credit := creditKept p credit, steps := issued }
          carbon := { st.carbon with rp := rp, openBucket := countSteps st.carbon.openBucket issued } }) rfl
      { station := rfl, lamp := rfl, channel := rfl, carbon := rfl, counts := fun h => absurd was h
        steps := few.trans (Nat.le_max_right _ _), jog := .inr rfl, rp := hr.trans (Nat.le_max_left _ _) }
      (Nat.le_add_right _ _) (Nat.le_refl _)
    exact (out.acts.tail (State.pulses_act _ i issued)).trans (State.engineLamp_edits _ i).acts
  | false =>
    have burns := Act.burnsOn s i (fun st =>
      { st with
          channel := { st.channel with loss := 0, short := 0, credit := creditKept p credit, steps := issued }
          carbon := { st.carbon with rp := rp, openBucket := countSteps st.carbon.openBucket issued } }) was
      { station := rfl, channel := rfl, carbon := rfl, loss := Nat.zero_le _, short := Nat.zero_le _, steps := few
        credit := fun q hq => by
          rw [hp] at hq; cases hq; exact kept.trans (Nat.le_max_right _ _)
        rp := hr
        bucket := ⟨by simp [countSteps], fun n h => .inl (countSteps_le h)⟩ }
    exact burns.acts.tail (State.pulses_act _ i issued)

/-- The counts of a sample without feed, as the lamp then leaves BURN. -/
theorem Station.noFeed_leaves {st : Station} (was : st.lamp.state = .burn) (loss short : Nat) (restrike : Nat) :
    st.Leaves { st with
      channel := { st.channel with loss := loss, short := short, steps := 0, fsPulses := 0 }
      lamp := { st.lamp with restrike := restrike } } where
  station := rfl
  lamp := rfl
  channel := rfl
  carbon := rfl
  counts := fun h => absurd was h
  steps := Nat.zero_le _
  jog := .inr rfl
  rp := Nat.le_max_left _ _

theorem State.modStation_modStation (s : State) (i : StationId) (f g : Station → Station) :
    (s.modStation i f).modStation i g = s.modStation i fun st => g (f st) := by
  cases i <;> rfl

theorem State.noFeed_lockout_acts (s : State) (i : StationId) (was : (s.station i).lamp.state = .burn)
    (loss short : Nat) : Acts s (((s.noFeed i loss short).setLamp i .lockout).engineLamp i) :=
  (Act.lampOut s i .lockout _ rfl (Station.noFeed_leaves was loss short (s.station i).lamp.restrike)
    (Nat.le_add_right _ _) (Nat.le_refl _)).acts.trans (State.engineLamp_edits _ i).acts

theorem State.arcLost_acts (s : State) (i : StationId) (was : (s.station i).lamp.state = .burn) (loss short : Nat) :
    Acts s ((s.noFeed i loss short).arcLost i) := by
  unfold State.arcLost
  dsimp only
  refine Acts.ite (fun h => ?_) fun _ => s.noFeed_lockout_acts i was loss short
  simp only [Bool.and_eq_true, decide_eq_true_eq] at h
  have few : (s.station i).lamp.restrike < 2 := by
    have := h.1.2
    simpa [State.noFeed, State.modChannel] using this
  have leaves := Station.noFeed_leaves was loss short ((s.station i).lamp.restrike + 1)
  have joined := fun cls : StrikeClass => Act.requeue s i (some cls) (fun st => { st with
      channel := { st.channel with loss := loss, short := short, steps := 0, fsPulses := 0 }
      lamp := { st.lamp with restrike := st.lamp.restrike + 1 } }) (by rw [was]; rfl) leaves
      (Nat.le_max_left _ _) (Nat.le_trans few (Nat.le_max_right _ _)) (.inl rfl)
  unfold State.modLamp State.noFeed State.modChannel
  rw [State.modStation_modStation]
  exact (joined _).acts

theorem State.burnSample_acts (s : State) (i : StationId) (t : Trim) (p : Params) (v a : Nat)
    (was : (s.station i).lamp.state = .burn) (hp : (s.station i).channel.params = some p) :
    Acts s (s.burnSample i t p v a) := by
  unfold State.burnSample
  dsimp only
  refine Acts.ite (fun _ => s.feedSample_acts i t p v was hp) fun _ => ?_
  refine Acts.ite (fun _ => s.noFeed_lockout_acts i was _ _) fun hshort => ?_
  refine Acts.ite (fun _ => s.arcLost_acts i was _ _) fun hloss => ?_
  refine (Act.burnsOn s i (fun st => { st with channel := { st.channel with
      loss := if lossSample t v a then (s.station i).channel.loss + 1 else 0
      short := if shortSample v then (s.station i).channel.short + 1 else 0, steps := 0, fsPulses := 0 } }) was
    { station := rfl, channel := rfl, carbon := rfl, loss := ?_, short := ?_, steps := Nat.zero_le _
      credit := fun q _ => Nat.le_max_left _ _, rp := Nat.le_refl _
      bucket := ⟨rfl, fun n h => .inr h⟩ }).acts
  · exact Nat.le_of_lt_succ (Nat.lt_of_not_le hloss)
  · exact Nat.le_of_lt_succ (Nat.lt_of_not_le hshort)

theorem Station.retry_leaves (st : Station) :
    st.Leaves { st with lamp := { st.lamp with retry := st.lamp.retry + 1 } } where
  station := rfl
  lamp := rfl
  channel := rfl
  carbon := rfl
  counts := fun _ => ⟨rfl, rfl, rfl, rfl⟩
  steps := Nat.le_max_left _ _
  jog := .inr rfl
  rp := Nat.le_max_left _ _

theorem State.establishSample_acts (s : State) (i : StationId) (t : Trim) (v a : Nat)
    (was : (s.station i).lamp.state = .establish) : Acts s (s.establishSample i t v a) := by
  have told : ∀ u : State, Acts u (u.engineLamp i) := fun u => (u.engineLamp_edits i).acts
  unfold State.establishSample
  dsimp only
  refine Acts.ite (fun _ => ?_) fun _ => ?_
  · exact Acts.ite (fun h => (Act.counted s i was h).acts) fun _ => (Act.burn s i was).acts.trans (told _)
  · refine Acts.ite (fun h => ?_) fun _ => ?_
    · exact (Act.requeue s i _ (fun st => { st with lamp := { st.lamp with retry := st.lamp.retry + 1 } })
        (by rw [was]; rfl) (Station.retry_leaves _)
        (Nat.le_trans (Nat.le_of_lt_succ h) (Nat.le_max_right _ _)) (Nat.le_max_left _ _) (.inr ⟨was, rfl⟩)).acts
    · exact (Act.lampOut s i .lockout (fun st => { st with lamp := { st.lamp with retry := st.lamp.retry + 1 } })
        rfl (Station.retry_leaves _) (by rw [was]; exact Nat.le_refl _) (Nat.le_refl _)).acts.trans (told _)

/-! ### Answers of the stations' lines -/

/-- What an answer does is a chain of changes of rows. -/
def ActsOnly (a : Answer) : Prop := ∀ s, Acts s (a s).1

theorem refuse_acts (s : State) (c : ErrorCode) : Acts s (refuse s c).1 := Acts.refl s

theorem onStation_acts (n : Int) {a : StationId → Answer} (h : ∀ i, ActsOnly (a i)) : ActsOnly (onStation n a) := by
  intro s
  unfold onStation
  split
  · exact Acts.refl s
  · exact h _ s

theorem onHouse_acts (n : Int) {a : HouseId → Answer} (h : ∀ i, ActsOnly (a i)) : ActsOnly (onHouse n a) := by
  intro s
  unfold onHouse
  split
  · exact Acts.refl s
  · exact h _ s

/-- Checks that all pass have each found nothing. -/
theorem firstRefusal_eq_none {l : List (Bool × ErrorCode)} : firstRefusal l = none ↔ ∀ p ∈ l, p.1 = false := by
  induction l with
  | nil => simp [firstRefusal]
  | cons p l ih =>
    obtain ⟨b, c⟩ := p
    cases b <;> simp [firstRefusal, ih]

theorem checked_acts {l : List (Bool × ErrorCode)} {act : Answer} {s : State}
    (h : (∀ p ∈ l, p.1 = false) → Acts s (act s).1) : Acts s (checked l act s).1 := by
  unfold checked
  split
  · exact Acts.refl s
  · exact h (firstRefusal_eq_none.1 ‹_›)

theorem Condition.normal_of_ne {c : Condition} (h : (c == .resetting) = false) : c = .normal := by
  cases c with
  | normal => rfl
  | resetting => cases h

theorem answerMo_acts (n : Int) (on : Bool) : ActsOnly (answerMo n on) :=
  onStation_acts n fun i s => checked_acts fun _ => by
    cases on with
    | false => exact (Edit.stop s i).edits.acts
    | true =>
      rw [if_pos rfl]
      split
      · exact Acts.refl s
      · exact (s.startMotorThen_edits i ‹_› fun t => Edits.refl t).acts

theorem answerDo_acts (n : Int) (toOpen : Bool) : ActsOnly (answerDo n toOpen) :=
  onStation_acts n fun i s => checked_acts fun _ => by
    cases toOpen with
    | false => exact (s.closeDemand_edits i).acts
    | true =>
      rw [if_pos rfl]
      split
      · exact Acts.refl s
      · exact (s.openDemand_edits i).acts

theorem State.setDoorMode_act (s : State) (i : StationId) (d : Door) (m : DoorMode) :
    Act s (s.modStation i fun st => st.setDoorMode d m) := by
  cases d with
  | ld => exact Act.inputs s i (fun st => { st.ld with mode := m }) (·.md) (·.gh) (·.lt) (·.fb)
  | md => exact Act.inputs s i (·.ld) (fun st => { st.md with mode := m }) (·.gh) (·.lt) (·.fb)

theorem answerIm_acts (n : Int) (d : Door) (m : DoorMode) : ActsOnly (answerIm n d m) :=
  onStation_acts n fun i s => checked_acts fun _ => by
    have moded := (s.setDoorMode_act i d m).acts
    dsimp only
    split
    · cases d with
      | ld => exact moded.trans (State.enforceLd_edits _ i).acts
      | md => exact moded.trans (State.enforceMd_edits _ i).acts
    · exact moded

theorem answerSr_acts (n : Int) : ActsOnly (answerSr n) :=
  onStation_acts n fun i s => checked_acts fun h => by
    simp only [List.mem_cons, List.not_mem_nil, or_false, forall_eq_or_imp, forall_eq, Bool.not_eq_false'] at h
    exact (Act.takeReset s i h.2.1 h.2.2).acts

theorem answerSa_acts (n m : Int) : ActsOnly (answerSa n m) :=
  onStation_acts n fun i => onHouse_acts m fun h s => checked_acts fun hc => by
    simp only [List.mem_cons, List.not_mem_nil, or_false, forall_eq_or_imp, forall_eq, Bool.or_eq_false_iff,
      bne_eq_false_iff_eq, Option.isSome_eq_false_iff, Option.isNone_iff_eq_none] at hc
    obtain ⟨-, ⟨own, other⟩, bound, -⟩ := hc
    exact (Act.assign s i h own other bound).acts

/-! ### Answers of the running orders' lines -/

theorem clampInt_bounds {lo hi : Int} (h : lo ≤ hi) (x : Int) : lo ≤ clampInt lo hi x ∧ clampInt lo hi x ≤ hi := by
  unfold clampInt
  constructor <;> (try split) <;> (try split) <;> omega

theorem clampAction_bounds (level time : Int) :
    (clampAction level time).level ≤ 1000 ∧ (clampAction level time).time ≤ 60000 := by
  obtain ⟨-, h1⟩ := clampInt_bounds (lo := 0) (hi := 1000) (by decide) level
  obtain ⟨-, h2⟩ := clampInt_bounds (lo := 0) (hi := 60000) (by decide) time
  unfold clampAction
  exact ⟨by dsimp only; omega, by dsimp only; omega⟩

theorem givenActions_bounds (fs : List EntryField) :
    ∀ a ∈ [givenMs fs, givenPi fs, givenEn fs], ∀ x ∈ a, x.level ≤ 1000 ∧ x.time ≤ 60000 := by
  have clamped : ∀ (g : EntryField → Option LightAction) (x : LightAction),
      (∀ f x, g f = some x → ∃ l t, x = clampAction l t) → fs.findSome? g = some x →
      x.level ≤ 1000 ∧ x.time ≤ 60000 := by
    intro g x hg hx
    obtain ⟨f, -, hf⟩ := List.exists_of_findSome?_eq_some hx
    obtain ⟨l, t, rfl⟩ := hg f x hf
    exact clampAction_bounds l t
  intro a ha x hx
  simp only [List.mem_cons, List.not_mem_nil, or_false] at ha
  obtain rfl | rfl | rfl := ha <;> refine clamped _ x ?_ hx <;>
    · intro f x hf
      cases f <;> first | (cases hf; exact ⟨_, _, rfl⟩) | cases hf

theorem changeTaken_le {e : EntryArgs} (hlen : 160 ≤ e.length) : changeTaken e + 1 ≤ e.length := by
  unfold changeTaken
  split
  · rename_i c _
    have := (clampInt_bounds (lo := 24) (hi := e.length - 1) (by omega) c).2
    omega
  · omega

theorem motorTaken_le {e : EntryArgs} (hlen : 160 ≤ e.length) : motorTaken e + 24 ≤ changeTaken e := by
  have hc := changeTaken_ge hlen
  unfold motorTaken
  split
  · rename_i m _
    have := (clampInt_bounds (lo := 0) (hi := changeTaken e - 24) (by omega) m).2
    omega
  · omega

/-- The entry that a PA or PI line brings is as the line can leave it (R25 to R27). -/
theorem newEntry_asTaken {e : EntryArgs} (words : entryWordsOk e = true) (ranges : entryRangesOk e = true) :
    (newEntry e).asTaken := by
  simp only [entryWordsOk, Bool.and_eq_true] at words
  simp only [entryRangesOk, Bool.and_eq_true, decide_eq_true_eq] at ranges
  obtain ⟨⟨hlow, hhigh⟩, hfirst⟩ := ranges
  have hc := newEntry_change hlow
  have hm := newEntry_motor hlow
  have h1 := changeTaken_ge hlow
  have h2 := changeTaken_le hlow
  have h3 := motorTaken_le hlow
  have hl : ((newEntry e).length : Int) = e.length := Int.toNat_of_nonneg (by omega)
  refine ⟨words.1, by omega, by omega, ?_, by omega, by omega, by omega, givenActions_bounds e.fields⟩
  show ((givenFirst e.fields).getD 192).toNat ≤ 999
  cases hg : givenFirst e.fields with
  | none => decide
  | some f =>
    simp only [hg, Bool.and_eq_true, decide_eq_true_eq] at hfirst
    simp only [Option.getD_some]
    omega

theorem State.joined_edits (s : State) (h : HouseId) (k : Nat) : Edits s (s.joined h k) :=
  Edits.ite (fun _ => s.testFootage_edits h) fun _ => Edits.refl s

theorem answerPa_acts (n : Int) (e : EntryArgs) : ActsOnly (answerPa n e) := fun s =>
  checked_acts fun words => onHouse_acts n (fun h s => checked_acts fun hc => by
    simp only [List.mem_cons, List.not_mem_nil, or_false, forall_eq, forall_eq_or_imp, Bool.not_eq_false',
      decide_eq_false_iff_not, Nat.not_le] at words hc
    obtain ⟨ranges, room⟩ := hc
    refine (Act.insert s h _ (newEntry e) room (Nat.le_refl _) (newEntry_asTaken words ranges) rfl rfl ?_).acts.trans
      (State.joined_edits _ h _).acts
    simp [boundFrom]) s

theorem answerPi_acts (n p : Int) (e : EntryArgs) : ActsOnly (answerPi n p e) := fun s =>
  checked_acts fun words => onHouse_acts n (fun h s => checked_acts fun hc => by
    simp only [List.mem_cons, List.not_mem_nil, or_false, forall_eq, forall_eq_or_imp, Bool.not_eq_false',
      Bool.or_eq_false_iff, decide_eq_false_iff_not, Nat.not_le, Nat.not_lt] at words hc
    obtain ⟨⟨-, ranges⟩, place, behind, room⟩ := hc
    exact (Act.insert s h _ (newEntry e) room place (newEntry_asTaken words ranges) rfl rfl behind).acts.trans
      (State.joined_edits _ h _).acts) s

theorem answerPd_acts (n p : Int) : ActsOnly (answerPd n p) :=
  onHouse_acts n fun h s => by
    split
    · split
      · exact Acts.refl s
      · rename_i e he
        refine checked_acts fun hc => ?_
        simp only [List.mem_cons, List.not_mem_nil, or_false, forall_eq, Bool.or_eq_false_iff, beq_eq_false_iff_ne,
          Option.isSome_eq_false_iff, Option.isNone_iff_eq_none] at hc
        exact (Act.delete s h _ e he hc.2 hc.1).acts
    · exact Acts.refl s

theorem answerPc_acts (n : Int) : ActsOnly (answerPc n) :=
  onHouse_acts n fun h s => checked_acts fun hc => by
    refine (Act.clear s h ?_).acts
    simp only [List.mem_cons, List.not_mem_nil, or_false, forall_eq] at hc
    revert hc
    cases (s.house h).engine <;> simp

theorem answerPq_acts (n p : Int) : ActsOnly (answerPq n p) :=
  onHouse_acts n fun h s => by
    split
    · split <;> exact Acts.refl s
    · exact Acts.refl s

theorem answerTh_acts (n p : Int) : ActsOnly (answerTh n p) :=
  onStation_acts n fun i s => checked_acts fun hc => by
    simp only [List.mem_cons, List.not_mem_nil, or_false, forall_eq_or_imp, forall_eq] at hc
    have normal := Condition.normal_of_ne hc.2.1
    split
    · exact Acts.refl s
    · rename_i e he
      split
      · exact Acts.refl s
      · exact (Act.thread s i _ e normal he (Bool.eq_false_iff.2 ‹_›)).acts

theorem answerUt_acts (n : Int) : ActsOnly (answerUt n) :=
  onStation_acts n fun i s => checked_acts fun _ => by
    split
    · exact Acts.refl s
    · rename_i e he
      split
      · exact Acts.refl s
      · rename_i hc
        simp only [Bool.or_eq_true, bne_iff_ne, beq_iff_eq, not_or, ne_eq] at hc
        split
        · exact ((Edit.runOutLeaves s i e he ‹_›).edits.trans (Edit.ready _ _).edits).acts
        · exact (Act.unthread s i e he hc.1.2 hc.2 ‹_›).acts

/-! ### Answers of the house engines' lines -/

theorem answerGo_acts (n : Int) : ActsOnly (answerGo n) :=
  onHouse_acts n fun h s => by
    split
    · exact Acts.refl s
    · rename_i hc
      obtain ⟨was, head, -, -⟩ := State.goCheck_ok hc
      exact (s.startSequence_edits was head).acts

theorem answerEn_acts (n : Int) : ActsOnly (answerEn n) :=
  onHouse_acts n fun h s => checked_acts fun hc => by
    simp only [List.mem_cons, List.not_mem_nil, or_false, forall_eq, Bool.not_eq_false'] at hc
    exact (Act.endShow s h hc).acts

theorem answerCo_acts (n : Int) : ActsOnly (answerCo n) :=
  onHouse_acts n fun h s => by
    split
    · exact (State.makeChange_edits (fun t => t.testReel_edits h) s h).acts
    · exact Acts.refl s

/-- A house record changed in no engine state, order or lights. -/
theorem State.note_acts (s : State) (h : HouseId) (f : House → House)
    (noted : (s.house h).Noted (f (s.house h))) : Acts s (s.modHouse h f) := (Edit.note s h f noted).edits.acts

theorem answerHf_acts (n : Int) : ActsOnly (answerHf n) :=
  onHouse_acts n fun h s => by
    split
    · exact Acts.refl s
    · dsimp only
      exact s.note_acts h _ ⟨rfl, rfl, rfl⟩

theorem answerHa_acts (n : Int) : ActsOnly (answerHa n) :=
  onHouse_acts n fun h s => checked_acts fun hc => by
    simp only [List.mem_cons, List.not_mem_nil, or_false, forall_eq_or_imp, forall_eq, bne_eq_false_iff_eq] at hc
    exact (Act.acknowledge s h hc.1).acts

theorem answerHs_acts (n : Int) (arg : Option SettingArg) : ActsOnly (answerHs n arg) :=
  onHouse_acts n fun h s => by
    cases arg with
    | none => exact Acts.refl s
    | some a => dsimp only; exact s.note_acts h _ ⟨rfl, rfl, rfl⟩

/-! ### Answers of the clock, the lamps, the lights and the fire monitor -/

theorem answerAt_acts (n : Int) (arg : AlarmArg) : ActsOnly (answerAt n arg) :=
  onHouse_acts n fun h s => by
    cases arg with
    | off => dsimp only; exact s.note_acts h _ ⟨rfl, rfl, rfl⟩
    | arm hh mm => exact checked_acts fun _ => by dsimp only; exact s.note_acts h _ ⟨rfl, rfl, rfl⟩

theorem answerLs_acts (n : Int) : ActsOnly (answerLs n) :=
  onStation_acts n fun i s => by
    split
    · exact Acts.refl s
    · exact (Edit.strike s i ‹_›).edits.acts

theorem State.endJog_act (s : State) (i : StationId) : Act s (s.endJog i) :=
  Act.jogs s i (fun st => { st with channel := { st.channel with jog := none } })
    ⟨rfl, rfl, rfl, fun _ h => (Option.some_ne_none _ h.symm).elim, Nat.le_refl _⟩

theorem State.consoleExtinguish_acts (s : State) (i : StationId) : Acts s (s.consoleExtinguish i) := by
  unfold State.consoleExtinguish
  cases (s.station i).lamp.state with
  | queued | striking | establish | burn =>
    exact ((Edit.extinguish s i).edits.trans (State.engineLamp_edits _ i)).acts
  | lockout => exact (s.lampOut_act i rfl).acts
  | cold | stub => exact Acts.refl s

theorem answerLx_acts (n : Int) : ActsOnly (answerLx n) :=
  onStation_acts n fun i s => checked_acts fun _ =>
    (s.endJog_act i).acts.trans (State.consoleExtinguish_acts _ i)

theorem State.recordCarbon_act (s : State) (i : StationId) (t : Trim) {rp : Nat} (hrp : rp ≤ 5000) :
    Act s (s.recordCarbon i t rp) := by
  refine Act.lampOut s i _ (fun st =>
    { st with
        carbon := { st.carbon with rp := rp }
        lamp := { st.lamp with retry := 0, restrike := 0 }
        channel := { st.channel with jog := none } }) ?_
    { station := rfl, lamp := rfl, channel := rfl, carbon := rfl, counts := fun _ => ⟨rfl, rfl, rfl, rfl⟩
      steps := Nat.le_max_left _ _, jog := .inl rfl, rp := hrp.trans (Nat.le_max_right _ _) }
    (Nat.zero_le _) (Nat.zero_le _)
  split <;> rfl

theorem clampField_le (word : Text) {lo hi : Int} (h : lo ≤ hi) (x : Int) : (clampField word lo hi x).1 ≤ hi.toNat := by
  have := (clampInt_bounds h x).2
  unfold clampField
  dsimp only
  omega

theorem clampField_ge (word : Text) {lo hi : Int} (h : lo ≤ hi) (x : Int) : lo.toNat ≤ (clampField word lo hi x).1 := by
  have := (clampInt_bounds h x).1
  unfold clampField
  dsimp only
  omega

theorem answerLc_acts (n len : Int) : ActsOnly (answerLc n len) :=
  onStation_acts n fun i s => checked_acts fun _ => by
    dsimp only
    split
    · exact Acts.refl s
    · exact (s.recordCarbon_act i _ (clampField_le _ (by decide) len)).acts

theorem answerLf_acts (n count : Int) : ActsOnly (answerLf n count) :=
  onStation_acts n fun i s => checked_acts fun hc => by
    simp only [List.mem_cons, List.not_mem_nil, or_false, forall_eq_or_imp, forall_eq, bne_eq_false_iff_eq] at hc
    obtain ⟨-, -, -, -, cold⟩ := hc
    refine (Act.jogs s i (fun st => { st with channel := { st.channel with
      jog := some (clampField "COUNT".toList 1 200 count).1 } }) ⟨rfl, rfl, rfl, fun k hk => .inl ⟨?_, ?_, cold⟩, Nat.le_refl _⟩).acts
    all_goals
      cases hk
      first
        | exact clampField_ge "COUNT".toList (lo := 1) (by decide) count
        | exact clampField_le "COUNT".toList (hi := 200) (by decide) count

theorem Trim.params_inRange (t : Trim) : t.params.inRange := by
  cases t <;> (unfold Params.inRange; decide)

theorem changeParams_inRange (t : Trim) (p : Params) (arg : ParamArg) (h : p.inRange) :
    (changeParams t p arg).1.inRange := by
  obtain ⟨v1, v2, d, g1, g2, t1, t2⟩ := h
  cases arg with
  | vset n => exact ⟨clampField_ge "VSET".toList (lo := 60) (hi := 160) (by decide) n,
      clampField_le "VSET".toList (lo := 60) (hi := 160) (by decide) n, d, g1, g2, t1, t2⟩
  | dead n => exact ⟨v1, v2, clampField_le "DEAD".toList (lo := 0) (hi := 20) (by decide) n, g1, g2, t1, t2⟩
  | gain n => exact ⟨v1, v2, d, clampField_ge "GAIN".toList (lo := 1) (hi := 15) (by decide) n,
      clampField_le "GAIN".toList (lo := 1) (hi := 15) (by decide) n, t1, t2⟩
  | thr n => exact ⟨v1, v2, d, g1, g2, clampField_ge "THR".toList (lo := 16) (hi := 1024) (by decide) n,
      clampField_le "THR".toList (lo := 16) (hi := 1024) (by decide) n⟩
  | mode m => exact ⟨v1, v2, d, g1, g2, t1, t2⟩
  | default => exact t.params_inRange

theorem answerLp_acts (n : Int) (arg : ParamArg) : ActsOnly (answerLp n arg) :=
  onStation_acts n fun i s => checked_acts fun _ => by
    dsimp only
    split
    · rename_i t p ht hp
      exact (Act.params s i p _ hp (changeParams_inRange t p arg)).acts
    · exact Acts.refl s

theorem answerSp_acts (mode : Option OrderMode) : ActsOnly (answerSp mode) := fun s => by
  cases mode with
  | none => exact Acts.refl s
  | some m => exact (Act.orderMode s m).acts

theorem State.consoleFade_acts (s : State) (h : HouseId) (level time : Int) :
    Acts s (s.consoleFade h level time).1 := (Edit.fade s h _ _).edits.acts

theorem answerLv_acts (n : Int) (arg : LightArg) : ActsOnly (answerLv n arg) :=
  onHouse_acts n fun h s => by
    cases arg with
    | query => exact Acts.refl s
    | level l => exact s.consoleFade_acts h l 0
    | fade l t => exact s.consoleFade_acts h l t

theorem Light.fadeStart_inRange {l : Light} (hl : l.level ≤ 1000) (level time : Nat) :
    (l.fadeStart level time).InRange := by
  obtain ⟨h1, h2, h3, h4, -, -⟩ := l.fadeStart_bounds level time hl
  exact ⟨h1, h2, h3, h4⟩

theorem Light.restore_inRange (l : Light) : l.restore.InRange :=
  Light.fadeStart_inRange (l := { l with level := 1000 }) (Nat.le_refl _) _ _

theorem answerLr_acts (n : Int) : ActsOnly (answerLr n) :=
  onHouse_acts n fun h s => by
    split
    · exact Acts.refl s
    · split
      · exact Acts.refl s
      · exact (Act.relight s h _ fun _ => Light.restore_inRange _).acts

theorem answerPu_acts : ActsOnly answerPu := fun s =>
  State.forHouses_keeps (Acts s) (fun h t => t.modLight h fun l => { l with panic := .set })
    (fun h t ht => ht.tail (Act.relight t h _ fun hr => hr)) HouseId.all s (Acts.refl s)

theorem answerFq_acts : ActsOnly answerFq := fun s => by
  unfold answerFq
  split
  · exact Acts.refl s
  · exact (Act.fire s { s.fire with capture := .read _, flags := Fire.initial.flags, further := 0 } rfl).acts
  · exact Acts.refl s

theorem State.boothTrip_acts (s : State) (cause : BoothCause) : Acts s (s.boothTrip cause) := by
  have captured := (Edit.capture s cause.capture none).edits.acts
  have booth : (s.captureTrip cause.capture none).fire.booth = s.fire.booth := by
    show (s.fire.captureTrip _).booth = _
    unfold Fire.captureTrip
    split <;> rfl
  refine Acts.ite (fun _ => captured) fun h => captured.tail (Act.boothTrip _ cause ?_)
  rw [booth]
  simpa using h

/-- What an answer makes of the state: a chain of changes of rows, or a booth reset. -/
def Moves (s t : State) : Prop := Acts s t ∨ t = s.boothReset

theorem Moves.keeps {P : State → Prop} (acts : ∀ s t, Act s t → P s → P t) (reset : ∀ s, P s → P s.boothReset)
    {s t : State} (h : Moves s t) (hs : P s) : P t := by
  obtain h | rfl := h
  · exact h.keeps acts hs
  · exact reset s hs

theorem answerRs_moves (s : State) : Moves s (answerRs s).1 := by
  unfold answerRs checked
  split
  · exact .inl (Acts.refl s)
  · exact .inr rfl

/-- The block that owns a console line makes a chain of changes of rows (R173), RS apart. -/
theorem answer_acts {c : Instr} (hc : c ≠ .rs) : ActsOnly (answer c) := by
  cases c with
  | mo n on => exact answerMo_acts n on
  | doDouser n toOpen => exact answerDo_acts n toOpen
  | im n d m => exact answerIm_acts n d m
  | sr n => exact answerSr_acts n
  | sa n m => exact answerSa_acts n m
  | pa n e => exact answerPa_acts n e
  | pi n p e => exact answerPi_acts n p e
  | pd n p => exact answerPd_acts n p
  | pc n => exact answerPc_acts n
  | pq n p => exact answerPq_acts n p
  | th n p => exact answerTh_acts n p
  | ut n => exact answerUt_acts n
  | go n => exact answerGo_acts n
  | en n => exact answerEn_acts n
  | co n => exact answerCo_acts n
  | hf n => exact answerHf_acts n
  | ha n => exact answerHa_acts n
  | hs n arg => exact answerHs_acts n arg
  | ck hh mm ss => exact fun s => checked_acts fun _ => (Act.clock s _).acts
  | atAlarm n arg => exact answerAt_acts n arg
  | ls n => exact answerLs_acts n
  | lx n => exact answerLx_acts n
  | lc n len => exact answerLc_acts n len
  | lf n k => exact answerLf_acts n k
  | lp n arg => exact answerLp_acts n arg
  | sp mode => exact answerSp_acts mode
  | lv n arg => exact answerLv_acts n arg
  | lr n => exact answerLr_acts n
  | pu => exact answerPu_acts
  | fq => exact answerFq_acts
  | fc => exact fun s => checked_acts fun _ => (Act.fireClear s).acts
  | ft => exact fun s => s.boothTrip_acts .console
  | ss => exact fun s => (Act.reported s).acts
  | ak => exact fun s => (Act.silenced s).acts
  | rs => exact absurd rfl hc
  | sq n | lq n => exact onStation_acts n fun _ s => Acts.refl s
  | hq n => exact onHouse_acts n fun _ s => Acts.refl s
  | _ => exact fun s => Acts.refl s

theorem answer_moves (c : Instr) (s : State) : Moves s (answer c s).1 := by
  by_cases hc : c = .rs
  · subst hc
    exact answerRs_moves s
  · exact .inl (answer_acts hc s)

/-! ### Events -/

/-- A command run on `s` ends in a state that a chain of changes of rows leads to. -/
def EndsIn (s : State) (o : Host.Outcome State Fault Refusal) : Prop := ∃ t, o = done t ∧ Acts s t

theorem Acts.ends {s t : State} (h : Acts s t) : EndsIn s (done t) := ⟨t, rfl, h⟩

theorem EndsIn.ite {s : State} {o p : Host.Outcome State Fault Refusal} {c : Prop} [Decidable c] (h : c → EndsIn s o)
    (k : ¬c → EndsIn s p) : EndsIn s (if c then o else p) := by
  split
  · exact h ‹_›
  · exact k ‹_›

theorem EndsIn.unchanged (s : State) : EndsIn s (done s) := (Acts.refl s).ends

/-- The qualified state of one door or trip input recorded (R14, R152). -/
theorem State.recorded_acts (s : State) (i : StationId) (ld md : Station → DoorState) (gh lt fb : Station → Contact) :
    Acts s (s.modStation i fun st => { st with ld := ld st, md := md st, gh := gh st, lt := lt st, fb := fb st }) :=
  (Act.inputs s i ld md gh lt fb).acts

theorem State.ldContact_acts (s : State) (i : StationId) (c : Contact) :
    Acts s (s.modStation i fun st => { st with ld := { st.ld with contact := c } }) :=
  s.recorded_acts i (fun st => { st.ld with contact := c }) (·.md) (·.gh) (·.lt) (·.fb)

theorem State.mdContact_acts (s : State) (i : StationId) (c : Contact) :
    Acts s (s.modStation i fun st => { st with md := { st.md with contact := c } }) :=
  s.recorded_acts i (·.ld) (fun st => { st.md with contact := c }) (·.gh) (·.lt) (·.fb)

theorem State.ghContact_acts (s : State) (i : StationId) (c : Contact) :
    Acts s (s.modStation i fun st => { st with gh := c }) :=
  s.recorded_acts i (·.ld) (·.md) (fun _ => c) (·.lt) (·.fb)

theorem State.ltContact_acts (s : State) (i : StationId) (c : Contact) :
    Acts s (s.modStation i fun st => { st with lt := c }) :=
  s.recorded_acts i (·.ld) (·.md) (·.gh) (fun _ => c) (·.fb)

theorem State.fbContact_acts (s : State) (i : StationId) (c : Contact) :
    Acts s (s.modStation i fun st => { st with fb := c }) :=
  s.recorded_acts i (·.ld) (·.md) (·.gh) (·.lt) (fun _ => c)

theorem execTachPulse_ends (i : StationId) (dir : Direction) (interval : Nat) (s : State) :
    EndsIn s (execTachPulse i dir interval s) := by
  have told : ∀ (t : State) (b : Bool), Acts t (if b then t.engineAtSpeed i else t) :=
    fun t _ => Acts.ite (fun _ => (t.engineAtSpeed_edits i).acts) fun _ => Acts.refl t
  have ended : ∀ (t : State) (p : Prop) [Decidable p], Acts t (if p then t.tail i else t) :=
    fun t _ _ => Acts.ite (fun _ => (t.tail_edits i).acts) fun _ => Acts.refl t
  have moved := (Act.count s i dir).acts.tail (Act.pulse _ i interval)
  unfold execTachPulse
  dsimp only
  split
  · exact (moved.trans (told _ _)).ends
  · exact EndsIn.ite (fun _ => (((moved.trans (told _ _)).trans (State.pulseTests_edits _ i).acts).trans
      (ended _ _)).ends) fun _ => (moved.trans (told _ _)).ends

theorem execRunUpLimit_ends (i : StationId) (s : State) : EndsIn s (execRunUpLimit i s) :=
  EndsIn.ite (fun _ => (((Edit.stop s i).edits.trans (Edit.latch _ _).edits).trans
    (State.engineSlow_edits _ i)).acts.ends) fun _ => EndsIn.unchanged s

theorem execStopTimer_ends (i : StationId) (s : State) : EndsIn s (execStopTimer i s) :=
  EndsIn.ite (fun h => (Act.stopped s i (by
    simp only [Bool.and_eq_true, beq_iff_eq] at h; exact h.2)).acts.ends) fun _ => EndsIn.unchanged s

theorem execLdQualified_ends (i : StationId) (c : Contact) (s : State) : EndsIn s (execLdQualified i c s) := by
  have recorded := s.ldContact_acts i c
  refine EndsIn.ite (fun _ => ?_) fun _ => recorded.ends
  cases (s.station i).ld.mode with
  | enforce => exact (recorded.trans (State.enforceLd_edits _ i).acts).ends
  | advisory => exact (recorded.trans (Edit.latch _ _).edits.acts).ends

theorem execMdQualified_ends (i : StationId) (c : Contact) (s : State) : EndsIn s (execMdQualified i c s) := by
  have recorded := s.mdContact_acts i c
  refine EndsIn.ite (fun _ => ?_) fun _ => recorded.ends
  cases (s.station i).md.mode with
  | enforce => exact (recorded.trans (State.enforceMd_edits _ i).acts).ends
  | advisory => exact (recorded.trans (Edit.latch _ _).edits.acts).ends

theorem execCuClosing_ends (i : StationId) (s : State) : EndsIn s (execCuClosing i s) := by
  have marked := s.note_acts (s.station i).house (fun hs => { hs with reel :=
    { hs.reel with marks := (s.house (s.station i).house).reel.marks + 1 } }) ⟨rfl, rfl, rfl⟩
  unfold execCuClosing
  dsimp only
  split
  · split
    · exact EndsIn.ite (fun _ => marked.ends) fun _ =>
        (marked.trans (State.takeCues_edits (fun t => t.testReel_edits _) _ _ _).acts).ends
    · exact marked.ends
  · exact EndsIn.unchanged s

theorem execCbClosing_ends (h : HouseId) (s : State) : EndsIn s (execCbClosing h s) :=
  EndsIn.ite (fun _ => (State.makeChange_edits (fun t => t.testReel_edits h) s h).acts.ends)
    fun _ => (s.eventStart_edits h).acts.ends

theorem execLampWaitTimeout_ends (h : HouseId) (s : State) : EndsIn s (execLampWaitTimeout h s) := by
  unfold execLampWaitTimeout
  dsimp only
  split
  · rename_i hc
    simp only [Bool.and_eq_true, beq_iff_eq] at hc
    have active := EngineState.active_of_starting hc.2
    split
    · exact ((Edit.extinguish s _).edits.trans (State.enterFault_edits _ _ _ _ ((State.house_of_houses (s.extinguish_houses _) h).symm ▸ active))).acts.ends
    · exact (s.enterFault_edits _ _ _ active).acts.ends
  · exact EndsIn.unchanged s

theorem State.clockSecond_acts (s : State) : Acts s s.clockSecond := by
  have counted := (Act.clock s { s.clock with cycles := 0, time := (s.clock.time + 1) % daySeconds }).acts
  exact (counted.trans (State.freeOrder_edits _ _).acts).trans
    (Edits.forHouses _ _ _ fun h u => u.clockHouse_edits h).acts

theorem execMainsCycle_ends (s : State) : EndsIn s (execMainsCycle s) :=
  EndsIn.ite (fun _ => (Act.clock s _).acts.ends) fun _ => s.clockSecond_acts.ends

theorem execFbOpen_ends (i : StationId) (s : State) : EndsIn s (execFbOpen i s) :=
  (Acts.ite (fun _ => (s.fbContact_acts i .opened).trans (State.stationTrip_edits _ i _ _).acts)
    fun _ => s.fbContact_acts i .opened).ends

theorem Fire.setInput_booth (f : Fire) (b : BoothInput) (c : Contact) : (f.setInput b c).booth = f.booth := by
  cases b <;> rfl

theorem execTripInputQualifiedClosed_ends (input : TripInput) (s : State) :
    EndsIn s (execTripInputQualifiedClosed input s) := by
  cases input with
  | gh i => exact (s.ghContact_acts i .closed).ends
  | lt i => exact (s.ltContact_acts i .closed).ends
  | fb i => exact (s.fbContact_acts i .closed).ends
  | booth b => exact (Act.fire s _ (Fire.setInput_booth _ b _)).acts.ends

theorem EngineState.active_of_inShow {g : EngineState} (h : g.inShow = true) : g.active = true := by
  cases g <;> first | rfl | cases h

theorem execPdChange_ends (h : HouseId) (c : Contact) (s : State) : EndsIn s (execPdChange h c s) := by
  cases c with
  | opened => exact (s.note_acts h _ ⟨rfl, rfl, rfl⟩).ends
  | closed =>
    have noted := s.note_acts h (fun hs => { hs with port := .down }) ⟨rfl, rfl, rfl⟩
    refine (Acts.ite (fun hc => noted.trans (State.enterFault_edits _ _ _ _ ?_).acts) fun _ => noted).ends
    simp only [Bool.and_eq_true, decide_eq_true_eq] at hc
    rw [State.house_modHouse_same]
    exact EngineState.active_of_inShow hc.2

theorem execReleasePulseEnd_ends (h : HouseId) (s : State) : EndsIn s (execReleasePulseEnd h s) := by
  have noted := s.note_acts h (fun hs => { hs with releasePulse := false }) ⟨rfl, rfl, rfl⟩
  exact EndsIn.ite (fun _ => (Acts.ite (fun _ => noted.trans (Edit.latch _ _).edits.acts) fun _ => noted).ends)
    fun _ => EndsIn.unchanged s

theorem execRegulationSample_ends (i : StationId) (volts amps : Conversions) (s : State) :
    EndsIn s (execRegulationSample i volts amps s) := by
  unfold execRegulationSample
  dsimp only
  split
  · rename_i t p ht hp
    split
    · rename_i htimer
      have sampled := (Act.sampled s i _ _ htimer (sampleValue_le volts) (sampleValue_le amps)).acts
      split
      · refine (sampled.trans (State.establishSample_acts _ i _ _ _ ?_)).ends
        simpa [State.modChannel]
      · refine (sampled.trans (State.burnSample_acts _ i _ _ _ _ ?_ ?_)).ends <;> simpa [State.modChannel]
      · exact EndsIn.unchanged s
    · exact EndsIn.unchanged s
  · exact EndsIn.unchanged s

theorem execJogStep_ends (i : StationId) (s : State) : EndsIn s (execJogStep i s) := by
  unfold execJogStep
  dsimp only
  split
  · rename_i n t hn ht
    split
    · rename_i rp hrp
      refine (Act.jogs s i _ ⟨rfl, rfl, rfl, fun k hk => ?_, offerStep_some hrp⟩).acts.ends
      refine .inr ⟨n, hn, ?_⟩
      dsimp only at hk
      split at hk
      · cases hk
      · cases hk
        exact .inr ⟨by omega, Nat.sub_le _ _⟩
    · exact (((s.endJog_act i).acts.tail (State.pulses_act _ i 0)).tail (State.lampOut_act _ i rfl)).trans
        (State.engineLamp_edits _ i).acts |>.ends
  · exact EndsIn.unchanged s

theorem execBucketClose_ends (i : StationId) (s : State) : EndsIn s (execBucketClose i s) := by
  unfold execBucketClose
  dsimp only
  split
  · exact EndsIn.ite (fun _ => ((Act.bucket s i _ ‹_›).acts.trans (State.onScreenCheck_edits _ i).acts).ends)
      fun _ => EndsIn.unchanged s
  · exact EndsIn.unchanged s

/-- A fade update keeps the channel in its ranges (R141). -/
theorem Light.update_inRange {l : Light} (h : l.InRange) : l.update.InRange := by
  obtain ⟨hl, ht, hr, -⟩ := h
  obtain ⟨up, down, -⟩ := l.update_level_between
  refine ⟨?_, ht, (Nat.sub_le _ _).trans hr, ?_⟩
  · obtain hle | hle := Nat.le_total l.level l.target
    · exact (up hle).2.trans ht
    · exact (down hle).2.trans hl
  · show decide (1 < l.remaining) = decide (0 < l.remaining - 1)
    exact decide_eq_decide.2 (by omega)

/-- Every event outside the line unit is a chain of changes of rows; POWER_ON apart. -/
theorem exec_event_ends {c : Instr} (hc : c.isConsole = false) (s : State) :
    EndsIn s (exec c s) ∨ (∃ p, c = .powerOn p) ∨ (∃ frame stop, c = .characterReceived frame stop) ∨
      c = .characterTimeout ∨ c = .replyEnd := by
  cases c with
  | powerOn p => exact .inr (.inl ⟨p, rfl⟩)
  | characterReceived frame stop => exact .inr (.inr (.inl ⟨frame, stop, rfl⟩))
  | characterTimeout => exact .inr (.inr (.inr (.inl rfl)))
  | replyEnd => exact .inr (.inr (.inr (.inr rfl)))
  | tachPulse i dir interval => exact .inl (execTachPulse_ends i dir interval s)
  | runUpLimit i => exact .inl (execRunUpLimit_ends i s)
  | stall i => exact .inl (EndsIn.ite (fun _ => (s.stationTrip_edits i _ _).acts.ends) fun _ => EndsIn.unchanged s)
  | stopTimer i => exact .inl (execStopTimer_ends i s)
  | resetHoldEnd i p =>
    exact .inl (EndsIn.ite (fun h => (Act.resetHoldEnd s i p h).acts.ends) fun _ => EndsIn.unchanged s)
  | ldQualified i c => exact .inl (execLdQualified_ends i c s)
  | mdQualified i c => exact .inl (execMdQualified_ends i c s)
  | cuClosing i => exact .inl (execCuClosing_ends i s)
  | cbClosing h => exact .inl (execCbClosing_ends h s)
  | pdChange h c => exact .inl (execPdChange_ends h c s)
  | ghOpen i => exact .inl ((s.ghContact_acts i .opened).trans (State.stationTrip_edits _ i _ _).acts).ends
  | ltOpen i => exact .inl ((s.ltContact_acts i .opened).trans (State.stationTrip_edits _ i _ _).acts).ends
  | fbOpen i => exact .inl (execFbOpen_ends i s)
  | boothTripInput b =>
    exact .inl ((Act.fire s _ (Fire.setInput_booth _ b .opened)).acts.trans (State.boothTrip_acts _ _)).ends
  | releasePulseEnd h => exact .inl (execReleasePulseEnd_ends h s)
  | mainsCycle => exact .inl (execMainsCycle_ends s)
  | clockSecond => exact .inl s.clockSecond_acts.ends
  | lampWaitTimeout h => exact .inl (execLampWaitTimeout_ends h s)
  | strikePulseEnd i =>
    exact .inl (EndsIn.ite (fun h => (Act.established s i (by
      simp only [Bool.and_eq_true, beq_iff_eq] at h; exact h.2)).acts.ends) fun _ => EndsIn.unchanged s)
  | rechargeEnd => exact .inl (EndsIn.ite (fun h => (Act.rechargeEnd s h).acts.ends) fun _ => EndsIn.unchanged s)
  | regulationSample i volts amps => exact .inl (execRegulationSample_ends i volts amps s)
  | jogStep i => exact .inl (execJogStep_ends i s)
  | bucketClose i => exact .inl (execBucketClose_ends i s)
  | fadeUpdate h =>
    exact .inl (EndsIn.ite (fun _ => (Act.relight s h _ Light.update_inRange).acts.ends) fun _ => EndsIn.unchanged s)
  | tripInputQualifiedClosed input => exact .inl (execTripInputQualifiedClosed_ends input s)
  | _ => cases hc

/-! ### Every step -/

theorem answerLine_moves (l : Line) (s : State) : Moves s (answerLine l s).1 := by
  unfold answerLine
  split
  · exact .inl (Acts.refl s)
  · split
    · exact .inl (Acts.refl s)
    · exact answer_moves _ s

/-- What no part of the line unit bears on. -/
def LineBlind (P : State → Prop) : Prop := ∀ (s : State) (l : LineUnit), P s → P { s with line := l }

/-- What no output pin bears on. -/
def PinsBlind (P : State → Prop) : Prop := ∀ (s : State) (p : Pins), P s → P { s with pins := p }

section
variable {P : State → Prop} (line : LineBlind P) (acts : ∀ s t, Act s t → P s → P t)
  (reset : ∀ s, P s → P s.boothReset)
include line acts reset

theorem takeLine_keeps (s : State) (lead : Text) (l : Line) (hs : P s) : P (s.takeLine lead l) :=
  line _ _ ((answerLine_moves l s).keeps acts reset hs)

theorem receiveCr_keeps (s : State) (hs : P s) : P s.receiveCr := by
  unfold State.receiveCr
  dsimp only
  split
  · exact line s _ hs
  · split
    · exact line s _ hs
    · exact takeLine_keeps line acts reset _ _ _ (line s _ hs)

/-- A property outside the line unit and the pins that POWER_ON brings about and that the changes of rows keep is kept by
every command. -/
theorem exec_keeps (pins : PinsBlind P) (power : ∀ p s t, exec (.powerOn p) s = .next t → P t) {c : Instr}
    {s t : State} (hs : P s) (h : exec c s = .next t) : P t := by
  have of_done : ∀ {o : Host.Outcome State Fault Refusal}, o = .next t → (∃ u, o = done u ∧ P u) → P t := by
    rintro o ho ⟨u, rfl, hu⟩
    cases ho
    exact pins u _ hu
  cases hc : c.isConsole with
  | true =>
    rw [exec_console hc] at h
    refine of_done h ?_
    unfold consoleRow
    split
    · exact ⟨_, rfl, line s _ hs⟩
    · split
      · exact ⟨_, rfl, line s _ hs⟩
      · exact ⟨_, rfl, line _ _ ((answer_moves c s).keeps acts reset hs)⟩
  | false =>
    obtain ⟨u, ho, hu⟩ | ⟨p, rfl⟩ | ⟨frame, stop, rfl⟩ | rfl | rfl := exec_event_ends hc s
    · exact of_done h ⟨u, ho, hu.keeps acts hs⟩
    · exact power p s t h
    · refine of_done h ?_
      show ∃ u, execCharacterReceived frame stop s = done u ∧ P u
      unfold execCharacterReceived
      split
      · exact ⟨_, rfl, line s _ hs⟩
      · split
        · exact ⟨_, rfl, hs⟩
        · split
          · exact ⟨_, rfl, receiveCr_keeps line acts reset s hs⟩
          · exact ⟨_, rfl, line s _ hs⟩
    · refine of_done h ?_
      show ∃ u, execCharacterTimeout s = done u ∧ P u
      unfold execCharacterTimeout
      split
      · exact ⟨_, rfl, line s _ hs⟩
      · exact ⟨_, rfl, hs⟩
    · refine of_done h ?_
      show ∃ u, execReplyEnd s = done u ∧ P u
      unfold execReplyEnd
      dsimp only
      split
      · split
        · exact ⟨_, rfl, takeLine_keeps line acts reset _ _ _ (line s _ hs)⟩
        · split
          · exact ⟨_, rfl, line s _ hs⟩
          · exact ⟨_, rfl, line s _ hs⟩
      · exact ⟨_, rfl, hs⟩

/-- The same of every step, for a property that no waiting command bears on. -/
theorem step_keeps (pins : PinsBlind P) (power : ∀ p s t, exec (.powerOn p) s = .next t → P t)
    (pending : ∀ (s : State) (l : List Instr), P s → P { s with pending := l }) {s t : State} (hs : P s)
    (h : step s = .next t) : P t := by
  unfold step at h
  split at h
  · cases h; exact hs
  · exact exec_keeps line acts reset pins power (pending s _ hs) h

end

end Sys2Proof.Machine

/-!
The invariant of the motors and counters (R5 to R9, R19, R20): each change of `Edit` and `Act` keeps it at every station.
-/

namespace Sys2Proof.Machine

/-! ### Changes of the lamp, the channel and the carbon alone -/

/-- Two station records differ in the lamp, the arc channel and the carbon at most. -/
def Station.SameBody (a b : Station) : Prop := b = { a with lamp := b.lamp, channel := b.channel, carbon := b.carbon }

theorem Station.SameBody.refl (a : Station) : a.SameBody a := rfl

theorem Station.SameBody.trans {a b c : Station} (h : a.SameBody b) (k : b.SameBody c) : a.SameBody c := by
  unfold Station.SameBody at *
  rw [k, h]

theorem Station.extinguished_body (st : Station) : st.SameBody st.extinguished := by
  unfold Station.extinguished
  split <;> rfl

theorem State.setLamp_body (s : State) (i j : StationId) (new : LampState) (cls : Option StrikeClass) :
    (s.station j).SameBody ((s.setLamp i new cls).station j) := by
  rw [State.station_setLamp]
  split
  · rename_i hj; subst hj; rfl
  · rfl

theorem State.extinguish_body (s : State) (i j : StationId) : (s.station j).SameBody ((s.extinguish i).station j) := by
  rw [State.station_extinguish]
  split
  · rename_i hj; subst hj; exact Station.extinguished_body _
  · rfl

theorem State.grantTo_body (s : State) (k j : StationId) : (s.station j).SameBody ((s.grantTo k).station j) :=
  s.setLamp_body k j .striking none

theorem State.testGrant_body (s : State) (j : StationId) : (s.station j).SameBody (s.testGrant.station j) := by
  obtain h | ⟨k, -, -, -, -, h⟩ := s.testGrant_cases <;> rw [h]
  · exact Station.SameBody.refl _
  · exact s.grantTo_body k j

theorem State.modLamp_body (s : State) (i j : StationId) (f : Lamp → Lamp) :
    (s.station j).SameBody ((s.modLamp i f).station j) := by
  unfold State.modLamp
  rw [State.station_modStation]
  split
  · rename_i hj; subst hj; rfl
  · rfl

theorem State.takeStrike_body (s : State) (i j : StationId) : (s.station j).SameBody ((s.takeStrike i).station j) :=
  ((s.modLamp_body i j _).trans (State.setLamp_body _ i j _ _)).trans (State.testGrant_body _ j)

/-! ### The motor of one station -/

/-- What `StationInv` says of one station. -/
def Station.MotorOk (st : Station) : Prop :=
  (st.barred → st.motor.running = false) ∧ st.runUpTimer = decide (st.motor = .runUp) ∧
    st.stallTimer = decide (st.motor = .atSpeed) ∧ st.stopTimer = decide (st.motor = .stopping) ∧
    st.runUpCount ≤ 12 ∧ st.counter ≤ 99999

theorem stationInv_iff (s : State) : StationInv s ↔ ∀ i, (s.station i).MotorOk := Iff.rfl

theorem Station.MotorOk.ofBody {a b : Station} (h : a.MotorOk) (hb : a.SameBody b) : b.MotorOk := by
  rw [hb]; exact h

theorem Station.MotorOk.stopped {st : Station} (h : st.MotorOk) : st.stopped.MotorOk ∧ st.stopped.motor.running = false := by
  obtain ⟨_, h2, h3, h4, h5, h6⟩ := h
  unfold Station.stopped
  cases hm : st.motor <;> rw [hm] at h2 h3 h4
  case runUp => exact ⟨⟨fun _ => rfl, rfl, rfl, rfl, h5, h6⟩, rfl⟩
  case atSpeed => exact ⟨⟨fun _ => rfl, rfl, rfl, rfl, h5, h6⟩, rfl⟩
  all_goals
    refine ⟨⟨fun _ => ?_, ?_, ?_, ?_, h5, h6⟩, ?_⟩ <;> simp_all [Motor.running]

theorem Station.MotorOk.started {st : Station} (h : st.MotorOk) (hb : ¬ st.barred) : st.startMotor.MotorOk := by
  unfold Station.startMotor
  split
  · exact h
  · rename_i hr
    obtain ⟨_, h2, h3, h4, h5, h6⟩ := h
    refine ⟨fun b => absurd b hb, rfl, ?_, rfl, Nat.zero_le _, h6⟩
    rw [h3]
    cases hm : st.motor <;> simp_all [Motor.running]

/-- A start command that is not refused finds a station from which one may be started (R5). -/
theorem State.not_barred_of_startRefusal {s : State} {i : StationId} (h : s.startRefusal i = none) :
    ¬ (s.station i).barred ∧ s.fire.booth = none := by
  have hc := firstRefusal_eq_none.1 h
  simp only [List.mem_cons, List.not_mem_nil, or_false, forall_eq_or_imp, forall_eq, State.tripped,
    Bool.or_eq_false_iff, Bool.not_eq_false', Option.isSome_eq_false_iff, Option.isNone_iff_eq_none] at hc
  obtain ⟨condition, present, ⟨trip, booth⟩, -⟩ := hc
  refine ⟨?_, booth⟩
  rintro (h | h | h)
  · rw [trip] at h; cases h
  · rw [present] at h; cases h
  · rw [h] at condition; cases condition

theorem Station.MotorOk.motorPulse {st : Station} (h : st.MotorOk) (interval : Nat) : (st.motorPulse interval).MotorOk := by
  obtain ⟨h1, h2, h3, h4, h5, h6⟩ := id h
  unfold Station.motorPulse
  cases hm : st.motor <;> rw [hm] at h1 h2 h3 h4 <;> dsimp only
  case runUp =>
    split
    · exact ⟨h1, h2, h3, h4, h5, h6⟩
    · split
      · exact ⟨h1, h2, h3, h4, Nat.zero_le _, h6⟩
      · split
        · exact ⟨h1, h2, h3, h4, by dsimp only; omega, h6⟩
        · exact ⟨fun b => absurd (h1 b) (by decide), rfl, rfl, by rw [h4]; rfl, Nat.le_refl _, h6⟩
  case atSpeed => exact ⟨h1, h2, rfl, h4, h5, h6⟩
  case stopping => exact ⟨h1, h2, h3, rfl, h5, h6⟩
  case stopped => exact h

theorem Station.MotorOk.countPulse {st : Station} (h : st.MotorOk) (bound : Bool) (dir : Direction) :
    (st.countPulse bound dir).MotorOk := by
  obtain ⟨h1, h2, h3, h4, h5, h6⟩ := h
  unfold Station.countPulse
  split
  · cases dir with
    | forward => exact ⟨h1, h2, h3, h4, h5, Nat.min_le_right _ _⟩
    | reverse => exact ⟨h1, h2, h3, h4, h5, (Nat.sub_le _ _).trans h6⟩
  · exact ⟨h1, h2, h3, h4, h5, h6⟩

/-! ### The motors of every station -/

theorem StationInv.ofBody {s t : State} (hs : StationInv s) (hb : ∀ j, (s.station j).SameBody (t.station j)) :
    StationInv t := fun j => Station.MotorOk.ofBody (hs j) (hb j)

theorem StationInv.modStation {s : State} (hs : StationInv s) (i : StationId) (f : Station → Station)
    (hf : (s.station i).MotorOk → (f (s.station i)).MotorOk) : StationInv (s.modStation i f) := by
  intro j
  rw [State.station_modStation]
  split
  · exact hf (hs i)
  · exact hs j

theorem StationInv.holdCounter {s : State} (hs : StationInv s) (i : StationId) : StationInv (s.holdCounter i) :=
  StationInv.modStation hs i (fun st => { st with counterMode := .hold }) fun h => h

theorem StationInv.tripStation {s : State} (hs : StationInv s) (i : StationId) (cause : StationCause) :
    StationInv (s.tripStation i cause) := by
  refine StationInv.ofBody (StationInv.modStation hs i _ fun h => ?_) fun j => State.extinguish_body _ i j
  obtain ⟨⟨-, h2, h3, h4, h5, h6⟩, still⟩ := Station.MotorOk.stopped h
  rw [← Station.stopMotor_eq] at h2 h3 h4 h5 h6 still
  exact ⟨fun _ => still, h2, h3, h4, h5, h6⟩

theorem edit_keeps_stationInv (s t : State) (h : Edit s t) (hs : StationInv s) : StationInv t := by
  cases h with
  | stop i =>
    refine StationInv.modStation hs i _ fun h => ?_
    rw [Station.stopMotor_eq]
    exact (Station.MotorOk.stopped h).1
  | start i allowed =>
    exact StationInv.modStation hs i _ fun h => Station.MotorOk.started h (State.not_barred_of_startRefusal allowed).1
  | shutter i d c => exact StationInv.modStation hs i _ fun h => h
  | mark i m => exact StationInv.modStation hs i _ fun h => h
  | trip i cause => exact StationInv.tripStation hs i cause
  | extinguish i => exact StationInv.ofBody hs fun j => s.extinguish_body i j
  | strike i => exact StationInv.ofBody hs fun j => s.takeStrike_body i j
  | reelOff h i f => exact StationInv.holdCounter (s := s.modQueue _ _) hs i
  | runOutLeaves i e => exact StationInv.holdCounter (s := s.modQueue _ _) hs i
  | _ => exact hs

theorem State.station_holdCounter (s : State) (i j : StationId) :
    (s.holdCounter i).station j = if j = i then { s.station i with counterMode := .hold } else s.station j :=
  State.station_modStation s i j _

theorem StationInv.clearBinding {s : State} (hs : StationInv s) (e : Entry) : StationInv (s.clearBinding e) := by
  unfold State.clearBinding
  split
  · split
    · exact StationInv.holdCounter (edit_keeps_stationInv _ _ (Edit.stop s _) hs) _
    · exact StationInv.holdCounter hs _
  · exact hs

/-- What a loop over a list keeps at each of its steps, it keeps. -/
theorem foldl_keeps {α : Type} {P : State → Prop} (f : State → α → State) (hf : ∀ t a, P t → P (f t a)) (l : List α)
    (s : State) (hs : P s) : P (l.foldl f s) := by
  induction l generalizing s with
  | nil => exact hs
  | cons a l ih => exact ih _ (hf s a hs)

theorem StationInv.edits {s t : State} (hs : StationInv s) (h : Edits s t) : StationInv t :=
  h.keeps edit_keeps_stationInv hs

/-- A house that enters SUSPENDED with no fade at the end of a reset hold (R159): its stations darken, its record changes. -/
theorem State.suspendUnderBoothTrip_eq (s : State) (h : HouseId) :
    s.suspendUnderBoothTrip h = s ∨
      s.fire.booth.isSome = true ∧ (s.house h).engine = .idle ∧ s.mode h ≠ .unused ∧
        s.suspendUnderBoothTrip h = (s.darkenHouse h).modHouse h House.toSuspended := by
  unfold State.suspendUnderBoothTrip
  split
  · rename_i hc
    simp only [Bool.and_eq_true, bne_iff_ne, beq_iff_eq] at hc
    exact .inr ⟨hc.1.1, hc.2, hc.1.2, rfl⟩
  · exact .inl rfl

/-- What the strap read at the end of a reset hold, the changes of `Edit` and the entry to SUSPENDED of an IDLE house
under a booth trip keep, the end of a reset hold keeps (R21, R159). -/
theorem resetHoldEnd_keeps {P : State → Prop} (edit : ∀ s t, Edit s t → P s → P t)
    (suspends : ∀ (s : State) h, s.fire.booth.isSome = true → (s.house h).engine = .idle → P s →
      P (s.modHouse h House.toSuspended)) {s : State} {i : StationId} {p : TrimStraps} (hs : P (s.strapsRead i p)) :
    P (s.resetHoldEnd i p) := by
  unfold State.resetHoldEnd
  split
  · unfold State.madePresent
    dsimp only
    generalize (s.strapsRead i p) = u at hs
    have acted : Edits u ((u.freeOrder (u.presenceActs i)).1.foldl (fun v a => v.presenceAct i a)
        (u.freeOrder (u.presenceActs i)).2) :=
      (u.freeOrder_edits _).trans (Edits.foldl _ (fun v a => v.presenceAct_edits i a) _ _)
    generalize ((u.freeOrder (u.presenceActs i)).1.foldl (fun v a => v.presenceAct i a)
        (u.freeOrder (u.presenceActs i)).2) = v at acted
    have hv := acted.keeps edit hs
    obtain h | ⟨booth, idle, -, h⟩ := v.suspendUnderBoothTrip_eq (u.station i).house <;> rw [h]
    · exact hv
    · have darkened := (v.darkenHouse_edits (u.station i).house).keeps edit hv
      refine suspends _ _ ?_ ?_ darkened
      · rwa [show (v.darkenHouse (u.station i).house).fire = v.fire from (v.darkenAll _).2.2.2.1]
      · rwa [State.house_of_houses (v.darkenHouse_houses _)]
  · exact hs

/-- A booth trip: the stations tripped and their RUN-OUT entries gone, one after another, then the houses suspended, lit and
their ports released (R158). -/
theorem boothTripActions_keeps {P : State → Prop} (edit : ∀ s t, Edit s t → P s → P t)
    (suspends : ∀ (s : State) h, P s → P (s.modHouse h House.toSuspended)) {s : State} {cause : BoothCause}
    (hs : P { s with fire := { s.fire with booth := some cause } }) : P (s.boothTripActions cause) := by
  refine State.forHouses_keeps P _ (fun h t ht => ?_) _ _
    (State.forStations_keeps P _ (fun i t ht => ?_) _ _ hs)
  · have acted := (State.gateAction_edits (if t.mode h = .unused && (t.house h).engine = .idle then t else t.suspend h) h)
    refine acted.keeps edit ?_
    split
    · exact ht
    · unfold State.suspend
      split
      · exact ht
      · exact suspends _ _ (((t.darkenHouse_edits h).trans (State.holdFade_edits _ h)).keeps edit ht)
  · exact ((t.tripBooth_edits i).trans (State.dropRunOut_edits _ i)).keeps edit ht

/-- The end of a show by EN: its stations closed down, the RUN-OUT entry gone, the hold level faded to, the house record
closed (R60). -/
theorem endShow_keeps {P : State → Prop} (edit : ∀ s t, Edit s t → P s → P t)
    (closes : ∀ (s : State) h, P s → P (s.modHouse h fun hs => ({ hs with
      lampWait := false, step := none, regime := none, reel := Reel.clear, queue := stopPlaying hs.queue } : House).toIdle))
    {s : State} {h : HouseId} (hs : P s) : P (s.endShow h) :=
  closes _ _ ((((Edits.forStations s _ _ fun i t => t.closeDown_edits i).trans
    (Edits.forStations _ _ _ fun i t => t.dropRunOut_edits i)).trans (State.holdFade_edits _ h)).keeps edit hs)

/-- A fire clear: the booth trip over, every station untripped, every house out of SUSPENDED (R166). -/
theorem fireClear_keeps {P : State → Prop} (untrips : ∀ (s : State) i, P s → P (s.modStation i fun st => { st with trip := none }))
    (leaves : ∀ (s : State) h, P s → P (s.modHouse h fun hs => { hs.unsuspend with light := hs.light.fireToPanic }))
    {s : State} (hs : P { s with fire := { s.fire with booth := none } }) : P s.fireClear :=
  State.forHouses_keeps P _ (fun h t ht => leaves t h ht) _ _
    (State.forStations_keeps P _ (fun i t ht => untrips t i ht) _ _ hs)

/-- A booth reset: every record at its booth-reset value, the stations newly present under a booth trip tripped, the houses
under a booth trip suspended (R179). -/
theorem boothReset_keeps {P : State → Prop} {s : State}
    (bound : ∀ (t : State) i, P t → P (t.boundByTrip (fun j => (s.station j).present) i))
    (suspends : ∀ (t : State) h, P t → P (t.suspendAtReset h))
    (hs : P { s.readTrimStraps with
      stations := PerStation.build fun i => (s.station i).boothReset s.readTrimStraps.straps i
      houses := PerHouse.build fun h => (s.house h).boothReset
      arbiter := Arbiter.initial
      line := { s.line with warnings := [], rsReply := true, sinceReset := false } }) : P s.boothReset :=
  State.forHouses_keeps P _ (fun h t ht => suspends t h ht) _ _
    (State.forStations_keeps P _ (fun i t ht => bound t i ht) _ _ hs)

theorem StationInv.takeReset {s : State} (hs : StationInv s) (i : StationId) :
    StationInv (s.modStation i Station.takeReset) := by
  refine StationInv.modStation hs i _ fun h => ?_
  obtain ⟨⟨-, h2, h3, h4, -, -⟩, still⟩ := Station.MotorOk.stopped h
  rw [← Station.stopMotor_eq] at h2 h3 h4 still
  exact ⟨fun _ => still, h2, h3, h4, Nat.zero_le _, Nat.zero_le _⟩

theorem StationInv.dropBinding {s : State} (hs : StationInv s) (i : StationId) : StationInv (s.dropBinding i) := by
  unfold State.dropBinding
  split
  · split
    · exact StationInv.holdCounter (s := s.modQueue _ _) hs i
    · exact hs
  · exact hs

theorem State.strapsRead_station (s : State) (i k : StationId) (p : TrimStraps) : (s.strapsRead i p).station k =
    if k = i then { (s.station i).readStraps p with
      condition := .normal, ld := { (s.station i).ld with mode := .enforce }
      md := { (s.station i).md with mode := .enforce } } else s.station k :=
  State.station_modStation _ i k _

theorem StationInv.strapsRead {s : State} (hs : StationInv s) {i : StationId} (p : TrimStraps)
    (was : (s.station i).condition = .resetting) : StationInv (s.strapsRead i p) := by
  unfold State.strapsRead
  refine StationInv.modStation (s := { s with straps := { s.straps with trim := s.straps.trim.set i p } }) hs i
    (fun st => { st.readStraps p with
      condition := .normal, ld := { st.ld with mode := .enforce }, md := { st.md with mode := .enforce } })
    fun h => ?_
  obtain ⟨h1, h2, h3, h4, h5, h6⟩ := h
  exact ⟨fun _ => h1 (.inr (.inr was)), h2, h3, h4, h5, h6⟩

theorem Station.initial_motorOk (trim : Option Trim) (params : Option Params) (house : HouseId) :
    (Station.initial trim params house).MotorOk :=
  ⟨fun _ => rfl, rfl, rfl, rfl, Nat.zero_le _, Nat.zero_le _⟩

theorem StationInv.boothReset (s : State) : StationInv s.boothReset := by
  suffices h : ∀ i, (s.boothReset.station i).MotorOk ∧ (s.boothReset.station i).motor = .stopped from fun i => (h i).1
  refine boothReset_keeps (P := fun t => ∀ i, (t.station i).MotorOk ∧ (t.station i).motor = .stopped)
    (fun t i ht j => ?_) (fun t h ht => ?_) fun i => ?_
  · unfold State.boundByTrip
    split
    · rw [State.station_modStation]
      split
      · obtain ⟨⟨-, h2, h3, h4, h5, h6⟩, still⟩ := ht i
        exact ⟨⟨fun _ => by rw [still]; rfl, h2, h3, h4, h5, h6⟩, still⟩
      · exact ht j
    · exact ht j
  · unfold State.suspendAtReset
    split <;> exact ht
  · unfold State.station
    rw [PerStation.get_build]
    exact ⟨⟨fun _ => rfl, rfl, rfl, rfl, Nat.zero_le _, Nat.zero_le _⟩, rfl⟩

theorem act_keeps_stationInv (s t : State) (h : Act s t) (hs : StationInv s) : StationInv t := by
  cases h with
  | edit h => exact edit_keeps_stationInv s t h hs
  | inputs i => exact StationInv.modStation hs i _ fun h => h
  | count i dir => exact StationInv.modStation hs i _ fun h => Station.MotorOk.countPulse h _ dir
  | pulse i interval => exact StationInv.modStation hs i _ fun h => Station.MotorOk.motorPulse h interval
  | stopped i was =>
    refine StationInv.modStation hs i _ fun h => ?_
    obtain ⟨-, h2, h3, -, h5, h6⟩ := h
    rw [was] at h2 h3
    exact ⟨fun _ => rfl, h2, h3, rfl, h5, h6⟩
  | resetHoldEnd i p was =>
    exact resetHoldEnd_keeps edit_keeps_stationInv (fun _ _ _ _ h => h) (StationInv.strapsRead hs p was)
  | takeReset i => exact StationInv.takeReset (StationInv.dropBinding hs i) i
  | assign i h => exact StationInv.modStation hs i _ fun h => h
  | clear h => exact foldl_keeps (P := StationInv) _ (fun t e ht => StationInv.clearBinding ht e) _ s hs
  | thread i k e =>
    refine StationInv.modStation (s := s.modQueue _ _) hs i
      (fun st => { st with counter := 0, counterMode := .forward }) fun h => ?_
    obtain ⟨h1, h2, h3, h4, h5, -⟩ := h
    exact ⟨h1, h2, h3, h4, h5, Nat.zero_le _⟩
  | unthread i e => exact StationInv.holdCounter (s := s.modQueue _ _) hs i
  | endShow h => exact endShow_keeps edit_keeps_stationInv (fun _ _ h => h) hs
  | lampOut i new f out leaves =>
    refine StationInv.ofBody (StationInv.modStation hs i f fun h => Station.MotorOk.ofBody h leaves.station)
      fun j => State.setLamp_body _ i j _ _
  | requeue i cls f was leaves =>
    exact StationInv.ofBody (StationInv.modStation hs i f fun h => Station.MotorOk.ofBody h leaves.station)
      fun j => (State.setLamp_body _ i j _ _).trans (State.testGrant_body _ j)
  | established i => exact StationInv.ofBody hs fun j => s.setLamp_body i j _ _
  | burn i => exact StationInv.ofBody hs fun j => s.setLamp_body i j _ _
  | counted i => exact StationInv.ofBody hs fun j => s.modLamp_body i j _
  | sampled i => exact StationInv.modStation hs i _ fun h => h
  | burnsOn i f was burns =>
    exact StationInv.modStation hs i f fun h => by rw [burns.station]; exact h
  | jogs i f jogs => exact StationInv.modStation hs i f fun h => by rw [jogs.station]; exact h
  | bucket i n => exact StationInv.modStation hs i _ fun h => h
  | params i p q => exact StationInv.modStation hs i _ fun h => h
  | rechargeEnd => exact StationInv.ofBody hs fun j => State.testGrant_body _ j
  | boothTrip cause =>
    exact boothTripActions_keeps (P := StationInv) edit_keeps_stationInv (fun _ _ h => h) hs
  | fireClear =>
    refine fireClear_keeps (P := StationInv) (fun t i ht => StationInv.modStation ht i _ fun h => ?_) (fun _ _ h => h) hs
    obtain ⟨h1, h2, h3, h4, h5, h6⟩ := h
    exact ⟨fun b => h1 (b.elim (fun h => by cases h) .inr), h2, h3, h4, h5, h6⟩
  | _ => exact hs

theorem powerOn_stationInv (p : Straps) (s t : State) (h : exec (.powerOn p) s = .next t) : StationInv t := by
  cases h
  intro i
  show ((PerStation.build (Station.powerOn p)).get i).MotorOk
  rw [PerStation.get_build]
  exact Station.initial_motorOk _ _ _

/-- Settles O54: the motors and counters by `Edit` and `Act`. -/
theorem motorsStayBarredAndTimed : Obligations.MotorsStayBarredAndTimed := fun _ _ hs h =>
  step_keeps (P := StationInv) (fun _ _ h => h) act_keeps_stationInv
    (fun s _ => StationInv.boothReset s) (fun _ _ h => h) powerOn_stationInv
    (fun _ _ h => h) hs h

end Sys2Proof.Machine

/-!
The invariant of the lamps and the strike supply (R105 to R124), in three parts that each change keeps: each lamp record
agrees with its own state, the arbiter agrees with the lamp states, and no lamp waits for a FREE supply. That a booth trip
has tripped every present station is the fourth.
-/

namespace Sys2Proof.Machine

/-! ### The parts of the invariant -/

/-- A lamp record agrees with its state. -/
def Lamp.Ok (l : Lamp) : Prop :=
  (l.cls.isSome = true ↔ l.state = .queued) ∧ (l.granted.isSome = true ↔ l.state.onSupply = true) ∧
    l.pulseTimer = decide (l.state = .striking) ∧ l.retry ≤ (if l.state.out then 3 else 2) ∧ l.restrike ≤ 2 ∧
    l.establish ≤ (if l.state = .establish then 14 else 0)

/-- What `LampInv` says of one station, the arbiter apart. -/
def Station.LampOk (st : Station) : Prop := (st.barred → st.lamp.state.out = true) ∧ st.lamp.Ok

/-- The arbiter agrees with the lamp states: the queue, the grant and the supply (R108 to R114). -/
def Arbiter.Agrees (a : Arbiter) (lamp : StationId → LampState) : Prop :=
  (∀ i, (i ∈ a.queue ↔ lamp i = .queued) ∧ (a.grant = some i ↔ (lamp i).onSupply = true) ∧ i ∈ a.order) ∧
    a.queue.Nodup ∧ a.order.length = 6 ∧ (a.supply = .granted ↔ a.grant.isSome = true) ∧
    a.recharge = decide (a.supply = .recharge)

/-- No lamp waits for a FREE supply (R109). -/
def Arbiter.Settled (a : Arbiter) : Prop := a.supply = .free → a.queue = []

/-- A station that is present under a booth trip is tripped (R158, R159). -/
def State.TripHeld (s : State) (i : StationId) : Prop :=
  s.fire.booth.isSome = true → (s.station i).present = true → (s.station i).trip.isSome = true

/-- The lamps and the arbiter, a lamp that waits for a FREE supply apart. -/
def LampsAgree (s : State) : Prop :=
  (∀ i, (s.station i).LampOk) ∧ s.arbiter.Agrees fun i => (s.station i).lamp.state

/-- The lamps and the arbiter, the booth trip apart. -/
def LampsOk (s : State) : Prop := LampsAgree s ∧ s.arbiter.Settled

theorem lampInv_iff (s : State) : LampInv s ↔ LampsOk s ∧ ∀ i, s.TripHeld i := by
  constructor
  · rintro ⟨each, nodup, len, supply, recharge, settled, trips⟩
    refine ⟨⟨⟨fun i => ?_, fun i => ?_, nodup, len, supply, recharge⟩, settled⟩, fun i h => trips h i⟩
    · obtain ⟨h1, -, -, h4, h5, h6, h7, h8, h9, -⟩ := each i
      exact ⟨h1, h4, h5, h6, h7, h8, h9⟩
    · obtain ⟨-, h2, h3, -, -, -, -, -, -, h10⟩ := each i
      exact ⟨h2, h3, h10⟩
  · rintro ⟨⟨⟨lamps, arbiter, nodup, len, supply, recharge⟩, settled⟩, trips⟩
    refine ⟨fun i => ?_, nodup, len, supply, recharge, settled, fun h i => trips i h⟩
    obtain ⟨h1, h4, h5, h6, h7, h8, h9⟩ := lamps i
    obtain ⟨h2, h3, h10⟩ := arbiter i
    exact ⟨h1, h2, h3, h4, h5, h6, h7, h8, h9, h10⟩

/-! ### The arbiter at a change of a lamp's state -/

/-- The queue after a change of lamp state: the lamp stands in it exactly if it is QUEUED then (R108). -/
theorem Arbiter.lampMoved_queue {a : Arbiter} {i : StationId} {old : LampState} (new : LampState)
    (nodup : a.queue.Nodup) (stands : i ∈ a.queue ↔ old = .queued) :
    (a.lampMoved i old new).queue.Nodup ∧
      ∀ j, j ∈ (a.lampMoved i old new).queue ↔ if j = i then new = .queued else j ∈ a.queue := by
  have left : ∀ j, j ∈ (if old = .queued then a.queue.erase i else a.queue) ↔ j ≠ i ∧ j ∈ a.queue := by
    intro j
    split
    · exact nodup.mem_erase_iff
    · rename_i h
      refine ⟨fun hj => ⟨?_, hj⟩, fun hj => hj.2⟩
      rintro rfl
      exact h (stands.1 hj)
  have leftNodup : (if old = .queued then a.queue.erase i else a.queue).Nodup := by
    split
    · exact nodup.erase i
    · exact nodup
  have queue : (a.lampMoved i old new).queue =
      if new = .queued then (if old = .queued then a.queue.erase i else a.queue) ++ [i]
      else (if old = .queued then a.queue.erase i else a.queue) := by
    unfold Arbiter.lampMoved; dsimp only; split <;> rfl
  rw [queue]
  split
  · rename_i hn
    refine ⟨List.nodup_append.2 ⟨leftNodup, List.nodup_singleton _, ?_⟩, fun j => ?_⟩
    · rintro x hx y hy rfl
      exact ((left x).1 hx).1 (List.mem_singleton.1 hy)
    · rw [List.mem_append, left, List.mem_singleton]
      by_cases hj : j = i <;> simp [hj, hn]
  · rename_i hn
    refine ⟨leftNodup, fun j => ?_⟩
    rw [left]
    by_cases hj : j = i <;> simp [hj, hn]

/-- A change to a state off the supply, or from one on it, keeps the arbiter in agreement (R108, R114). -/
theorem Arbiter.Agrees.moved {a : Arbiter} {lamp : StationId → LampState} (h : a.Agrees lamp) (i : StationId)
    (new : LampState) (supply : new.onSupply = true → (lamp i).onSupply = true) :
    (a.lampMoved i (lamp i) new).Agrees fun j => if j = i then new else lamp j := by
  obtain ⟨each, nodup, len, granted, recharge⟩ := h
  obtain ⟨nodup', mem⟩ := Arbiter.lampMoved_queue new nodup (each i).1
  have queued : ∀ j, j ∈ (a.lampMoved i (lamp i) new).queue ↔ (if j = i then new else lamp j) = .queued := by
    intro j
    rw [mem]
    split
    · exact Iff.rfl
    · exact (each j).1
  by_cases leaves : ((lamp i).onSupply && !new.onSupply) = true
  · rw [Bool.and_eq_true, Bool.not_eq_true'] at leaves
    have held := (each i).2.1.2 leaves.1
    refine ⟨fun j => ⟨queued j, ?_, ?_⟩, nodup', ?_, ?_, ?_⟩ <;>
      simp only [Arbiter.lampMoved, leaves.1, leaves.2, Bool.not_false, Bool.and_self, if_true]
    · split
      · simp [leaves.2]
      · rename_i hj
        rw [← (each j).2.1, held]
        simp [Ne.symm hj]
    · exact (each j).2.2
    · exact len
    · simp
    · rfl
  · have same : (lamp i).onSupply = new.onSupply := by
      revert supply leaves
      cases (lamp i).onSupply <;> cases new.onSupply <;> simp
    refine ⟨fun j => ⟨queued j, ?_, ?_⟩, nodup', ?_, ?_, ?_⟩ <;>
      simp only [Arbiter.lampMoved, leaves, Bool.false_eq_true, if_false]
    · rw [(each j).2.1]
      split
      · rename_i hj; rw [hj, same]
      · exact Iff.rfl
    · exact (each j).2.2
    · exact len
    · exact granted
    · exact recharge

theorem orderAfter_complete {mode : OrderMode} {order : List StationId} (k : StationId)
    (all : ∀ i, i ∈ order) (len : order.length = 6) :
    (∀ i, i ∈ orderAfter mode order k) ∧ (orderAfter mode order k).length = 6 := by
  cases mode with
  | fixed => exact ⟨all, len⟩
  | rotate =>
    show (∀ i, i ∈ rotateAfter k) ∧ (rotateAfter k).length = 6
    cases k <;> exact ⟨fun i => by cases i <;> decide, rfl⟩

/-- A grant to a QUEUED lamp while the supply is FREE keeps the arbiter in agreement (R109, R110). -/
theorem Arbiter.Agrees.granted {a : Arbiter} {lamp : StationId → LampState} (h : a.Agrees lamp) {k : StationId}
    (waits : lamp k = .queued) (free : a.supply = .free) :
    ({ a.lampMoved k .queued .striking with
        grant := some k, supply := .granted, order := orderAfter a.mode a.order k } : Arbiter).Agrees
      fun j => if j = k then .striking else lamp j := by
  obtain ⟨each, nodup, len, granted, recharge⟩ := h
  obtain ⟨nodup', mem⟩ := Arbiter.lampMoved_queue (old := .queued) .striking nodup (by rw [(each k).1, waits])
  obtain ⟨all', len'⟩ := orderAfter_complete (mode := a.mode) k (fun i => (each i).2.2) len
  have none : a.grant = none := by
    cases hg : a.grant with
    | none => rfl
    | some j => rw [free, hg] at granted; exact absurd (granted.2 rfl) (by decide)
  refine ⟨fun j => ⟨?_, ?_, all' j⟩, nodup', len', by simp, ?_⟩
  · rw [mem]
    by_cases hj : j = k
    · simp [hj]
    · simp only [if_neg hj]; exact (each j).1
  · show some k = some j ↔ _
    by_cases hj : j = k
    · simp [hj, LampState.onSupply]
    · simp only [if_neg hj]
      rw [← (each j).2.1, none]
      simp [Ne.symm hj]
  · show a.recharge = _
    rw [recharge, free]; rfl

/-! ### Lamp records -/

/-- A lamp record at the entry to a state agrees with it. -/
theorem Lamp.Ok.enter {l : Lamp} (h : l.Ok) {new : LampState} {cls : Option StrikeClass} {retry restrike : Nat}
    (class_ : new = .queued → cls.isSome = true) (strike : new = .striking → l.state = .queued)
    (establish : new = .establish → l.state.onSupply = true) (few : retry ≤ if new.out then 3 else 2)
    (few' : restrike ≤ 2) : (({ l with retry := retry, restrike := restrike } : Lamp).enter new cls).Ok := by
  obtain ⟨hcls, hgranted, -⟩ := h
  refine ⟨?_, ?_, rfl, ?_, few', Nat.zero_le _⟩
  · cases new <;> simp [Lamp.enter]
    exact class_ rfl
  · cases new <;> simp [Lamp.enter, LampState.onSupply]
    · exact hcls.2 (strike rfl)
    · exact hgranted.2 (establish rfl)
  · cases new <;> simp_all [Lamp.enter, LampState.out]

theorem Station.LampOk.few {st : Station} (h : st.LampOk) : st.lamp.retry ≤ 3 ∧ st.lamp.restrike ≤ 2 ∧
    (st.lamp.state.out = false → st.lamp.retry ≤ 2 ∧ ¬ st.barred) := by
  obtain ⟨barred, -, -, -, retry, restrike, -⟩ := h
  refine ⟨?_, restrike, fun out => ⟨?_, fun b => ?_⟩⟩
  · split at retry <;> omega
  · rwa [out] at retry
  · rw [barred b] at out; cases out

/-! ### The lamps and the arbiter together -/

theorem LampsAgree.modStation {s : State} (hs : LampsAgree s) (i : StationId) (f : Station → Station)
    (state : (f (s.station i)).lamp.state = (s.station i).lamp.state)
    (ok : (s.station i).LampOk → (f (s.station i)).LampOk) : LampsAgree (s.modStation i f) := by
  obtain ⟨lamps, agrees⟩ := hs
  have states : (fun j => ((s.modStation i f).station j).lamp.state) = fun j => (s.station j).lamp.state := by
    funext j
    rw [State.station_modStation]
    split
    · rename_i hj; rw [hj, state]
    · rfl
  refine ⟨fun j => ?_, ?_⟩
  · rw [State.station_modStation]
    split
    · exact ok (lamps i)
    · exact lamps j
  · rw [states]; exact agrees

theorem LampsOk.modStation {s : State} (hs : LampsOk s) (i : StationId) (f : Station → Station)
    (state : (f (s.station i)).lamp.state = (s.station i).lamp.state)
    (ok : (s.station i).LampOk → (f (s.station i)).LampOk) : LampsOk (s.modStation i f) :=
  ⟨hs.1.modStation i f state ok, hs.2⟩

/-- A change of lamp state, to one off the supply or from one on it, with what came before it at the station. -/
theorem LampsAgree.setLamp {s : State} (hs : LampsAgree s) (i : StationId) {new : LampState}
    {cls : Option StrikeClass} {f : Station → Station}
    (lamp : (f (s.station i)).lamp = { (s.station i).lamp with
      retry := (f (s.station i)).lamp.retry, restrike := (f (s.station i)).lamp.restrike })
    (barred : (f (s.station i)).barred → new.out = true)
    (supply : new.onSupply = true → new = .establish ∧ (s.station i).lamp.state.onSupply = true)
    (class_ : new = .queued → cls.isSome = true)
    (retry : (f (s.station i)).lamp.retry ≤ if new.out then 3 else 2)
    (restrike : (f (s.station i)).lamp.restrike ≤ 2) : LampsAgree ((s.modStation i f).setLamp i new cls) := by
  obtain ⟨lamps, agrees⟩ := hs
  have old : (f (s.station i)).lamp.state = (s.station i).lamp.state := by rw [lamp]
  have states : (fun j => (((s.modStation i f).setLamp i new cls).station j).lamp.state) =
      fun j => if j = i then new else (s.station j).lamp.state := by
    funext j
    rw [State.station_setLamp]
    split
    · rfl
    · rename_i hj; rw [State.station_modStation, if_neg hj]
  refine ⟨fun j => ?_, ?_⟩
  · rw [State.station_setLamp, State.station_modStation, State.station_modStation, if_pos rfl]
    split
    · refine ⟨barred, ?_⟩
      show ((f (s.station i)).lamp.enter new cls).Ok
      rw [lamp]
      refine (lamps i).2.enter class_ ?_ ?_ retry restrike
      · rintro rfl; exact absurd (supply rfl).1 (by decide)
      · rintro rfl; exact (supply rfl).2
    · exact lamps j
  · obtain ⟨-, -, -, -, -, -, arbiter, -⟩ := (s.modStation i f).setLamp_frame i new cls
    rw [states, arbiter, State.station_modStation, if_pos rfl, old]
    exact agrees.moved i new fun h => (supply h).2

/-- A lamp that leaves its state for any but QUEUED leaves no lamp waiting for a FREE supply. -/
theorem Arbiter.Settled.moved {a : Arbiter} (h : a.Settled) (i : StationId) (old : LampState) {new : LampState}
    (hn : new ≠ .queued) : (a.lampMoved i old new).Settled := by
  unfold Arbiter.Settled Arbiter.lampMoved
  dsimp only
  rw [if_neg hn]
  split
  · intro hf; cases hf
  · intro hf
    show (if old = .queued then a.queue.erase i else a.queue) = []
    rw [h hf]
    split <;> rfl

theorem LampsOk.setLamp {s : State} (hs : LampsOk s) (i : StationId) {new : LampState}
    {cls : Option StrikeClass} {f : Station → Station} (queued : new ≠ .queued)
    (lamp : (f (s.station i)).lamp = { (s.station i).lamp with
      retry := (f (s.station i)).lamp.retry, restrike := (f (s.station i)).lamp.restrike })
    (barred : (f (s.station i)).barred → new.out = true)
    (supply : new.onSupply = true → new = .establish ∧ (s.station i).lamp.state.onSupply = true)
    (retry : (f (s.station i)).lamp.retry ≤ if new.out then 3 else 2)
    (restrike : (f (s.station i)).lamp.restrike ≤ 2) : LampsOk ((s.modStation i f).setLamp i new cls) := by
  obtain ⟨agree, settled⟩ := hs
  refine ⟨agree.setLamp i lamp barred supply (fun h => absurd h queued) retry restrike, ?_⟩
  obtain ⟨-, -, -, -, -, -, arbiter, -⟩ := (s.modStation i f).setLamp_frame i new cls
  rw [arbiter]
  exact Arbiter.Settled.moved settled _ _ queued

/-- A change of state with nothing before it. -/
theorem LampsOk.setLamp_only {s : State} (hs : LampsOk s) (i : StationId) {new : LampState}
    {cls : Option StrikeClass} (queued : new ≠ .queued) (barred : (s.station i).barred → new.out = true)
    (supply : new.onSupply = true → new = .establish ∧ (s.station i).lamp.state.onSupply = true)
    (retry : (s.station i).lamp.retry ≤ if new.out then 3 else 2) : LampsOk (s.setLamp i new cls) := by
  have h := LampsOk.setLamp hs i (cls := cls) (f := fun st => st) queued rfl barred supply retry
    (hs.1.1 i).few.2.1
  rwa [State.modStation_id] at h

theorem LampsAgree.grantTo {s : State} (hs : LampsAgree s) {k : StationId} (waits : k ∈ s.arbiter.queue)
    (free : s.arbiter.supply = .free) : LampsAgree (s.grantTo k) := by
  obtain ⟨lamps, agrees⟩ := hs
  have queued : (s.station k).lamp.state = .queued := (agrees.1 k).1.1 waits
  have each : ∀ j, (s.grantTo k).station j = (s.setLamp k .striking).station j := fun _ => rfl
  refine ⟨fun j => ?_, ?_⟩
  · rw [each, State.station_setLamp]
    split
    · obtain ⟨-, few', lit⟩ := (lamps k).few
      obtain ⟨few, open_⟩ := lit (by rw [queued]; rfl)
      refine ⟨fun b => absurd b open_, ?_⟩
      exact (lamps k).2.enter (fun h => by cases h) (fun _ => queued) (fun h => by cases h) few few'
    · exact lamps j
  · have states : (fun j => ((s.grantTo k).station j).lamp.state) =
        fun j => if j = k then .striking else (s.station j).lamp.state := by
      funext j
      rw [each, State.station_setLamp]
      split <;> rfl
    obtain ⟨-, -, -, -, -, -, arbiter, -⟩ := s.setLamp_frame k .striking none
    have h := agrees.granted queued free
    rw [states]
    unfold State.grantTo
    dsimp only
    rw [arbiter, queued]
    exact h

theorem chooseLamp_none {mode : OrderMode} {order queue : List StationId} {urgent : StationId → Bool}
    (all : ∀ i, i ∈ order) (h : chooseLamp mode order queue urgent = none) : queue = [] := by
  have scan : ∀ i, i ∈ scanOrder mode order := by
    cases mode with
    | fixed => exact StationId.mem_all
    | rotate => exact all
  unfold chooseLamp at h
  dsimp only at h
  split at h
  · cases h
  · refine List.eq_nil_iff_forall_not_mem.2 fun k hk => ?_
    have := List.find?_eq_none.1 h k (scan k)
    exact this (List.contains_iff_mem.2 hk)

/-- A test for a grant leaves no lamp waiting for a FREE supply (R109). -/
theorem LampsAgree.testGrant {s : State} (hs : LampsAgree s) : LampsOk s.testGrant := by
  obtain ⟨-, agrees⟩ := id hs
  obtain ⟨each, -, -, -, recharge⟩ := agrees
  unfold State.testGrant
  split
  · rename_i hc
    simp only [Bool.and_eq_true, decide_eq_true_eq, Bool.not_eq_true'] at hc
    split
    · rename_i k hk
      exact ⟨hs.grantTo (chooseLamp_mem hk) hc.1, fun h => by cases h⟩
    · rename_i hk
      exact ⟨hs, fun _ => chooseLamp_none (fun i => (each i).2.2) hk⟩
  · rename_i hc
    refine ⟨hs, fun free => absurd ?_ hc⟩
    rw [recharge, free]
    rfl

/-! ### The changes of `Edit` -/

theorem State.extinguish_eq (s : State) (i : StationId) :
    s.extinguish i = if (s.station i).lamp.state.out then s else s.setLamp i .cold := by
  unfold State.extinguish
  cases (s.station i).lamp.state <;> rfl

theorem LampsOk.extinguish {s : State} (hs : LampsOk s) (i : StationId) : LampsOk (s.extinguish i) := by
  rw [State.extinguish_eq]
  split
  · exact hs
  · exact hs.setLamp_only i (by decide) (fun _ => rfl) (fun h => by cases h) (hs.1.1 i).few.1

theorem LampsOk.tripStation {s : State} (hs : LampsOk s) (i : StationId) (cause : StationCause) :
    LampsOk (s.tripStation i cause) := by
  have lamp : ∀ st : Station, st.stopMotor.lamp = st.lamp := by
    intro st; unfold Station.stopMotor; split <;> rfl
  unfold State.tripStation
  rw [State.extinguish_eq, State.station_modStation, if_pos rfl]
  dsimp only
  split
  · rename_i out
    refine LampsOk.modStation hs i (fun st => { st.stopMotor with
      trip := some cause, demandOpen := false, csOpen := false,
      channel := { st.channel with jog := none, fsPulses := 0 } }) (by rw [lamp]) fun h => ⟨fun _ => out, ?_⟩
    rw [lamp]
    exact h.2
  · refine LampsOk.setLamp hs i (by decide) ?_ (fun _ => rfl) (fun h => by cases h) ?_ ?_ <;> dsimp only <;> rw [lamp]
    · exact (hs.1.1 i).few.1
    · exact (hs.1.1 i).few.2.1

/-- A strike request that is not refused finds a COLD lamp at a station that is not barred (R106). -/
theorem State.cold_of_strikeRefusal {s : State} {i : StationId} (h : s.strikeRefusal i = none) :
    (s.station i).lamp.state = .cold ∧ ¬ (s.station i).barred ∧ s.fire.booth = none := by
  have hc := firstRefusal_eq_none.1 h
  simp only [List.mem_cons, List.not_mem_nil, or_false, forall_eq_or_imp, forall_eq, State.tripped,
    Bool.or_eq_false_iff, Bool.not_eq_false', Option.isSome_eq_false_iff, Option.isNone_iff_eq_none,
    bne_eq_false_iff_eq] at hc
  obtain ⟨condition, ⟨trip, booth⟩, present, cold, -⟩ := hc
  refine ⟨cold, ?_, booth⟩
  rintro (h | h | h)
  · rw [trip] at h; cases h
  · rw [present] at h; cases h
  · rw [h] at condition; cases condition

theorem LampsOk.takeStrike {s : State} (hs : LampsOk s) {i : StationId} (allowed : s.strikeRefusal i = none) :
    LampsOk (s.takeStrike i) := by
  obtain ⟨-, open_, -⟩ := State.cold_of_strikeRefusal allowed
  exact LampsAgree.testGrant (LampsAgree.setLamp hs.1 i rfl (fun b => absurd b open_) (fun h => by cases h)
    (fun _ => rfl) (Nat.zero_le _) (Nat.zero_le _))

theorem edit_keeps_lampsOk (s t : State) (h : Edit s t) (hs : LampsOk s) : LampsOk t := by
  have motor : ∀ st : Station, st.LampOk → st.stopMotor.LampOk ∧ st.startMotor.LampOk := by
    intro st h
    unfold Station.stopMotor Station.startMotor
    constructor <;> split <;> exact h
  have states : ∀ st : Station, st.stopMotor.lamp = st.lamp ∧ st.startMotor.lamp = st.lamp := by
    intro st
    unfold Station.stopMotor Station.startMotor
    constructor <;> split <;> rfl
  cases h with
  | stop i => exact LampsOk.modStation hs i _ (by rw [(states _).1]) fun h => (motor _ h).1
  | start i => exact LampsOk.modStation hs i _ (by rw [(states _).2]) fun h => (motor _ h).2
  | shutter i d c => exact LampsOk.modStation hs i _ rfl fun h => h
  | mark i m => exact LampsOk.modStation hs i _ rfl fun h => h
  | trip i cause => exact LampsOk.tripStation hs i cause
  | extinguish i => exact LampsOk.extinguish hs i
  | strike i allowed => exact LampsOk.takeStrike hs allowed
  | reelOff h i f => exact LampsOk.modStation (s := s.modQueue _ _) hs i (fun st => { st with counterMode := .hold }) rfl fun h => h
  | runOutLeaves i e => exact LampsOk.modStation (s := s.modQueue _ _) hs i (fun st => { st with counterMode := .hold }) rfl fun h => h
  | _ => exact hs

/-! ### The changes of `Act` -/

theorem LampsOk.holdCounter {s : State} (hs : LampsOk s) (i : StationId) : LampsOk (s.holdCounter i) :=
  LampsOk.modStation hs i (fun st => { st with counterMode := .hold }) rfl fun h => h

theorem LampsOk.clearBinding {s : State} (hs : LampsOk s) (e : Entry) : LampsOk (s.clearBinding e) := by
  unfold State.clearBinding
  split
  · split
    · exact LampsOk.holdCounter (edit_keeps_lampsOk _ _ (Edit.stop s _) hs) _
    · exact LampsOk.holdCounter hs _
  · exact hs

theorem LampsOk.dropBinding {s : State} (hs : LampsOk s) (i : StationId) : LampsOk (s.dropBinding i) := by
  unfold State.dropBinding
  split
  · split
    · exact LampsOk.holdCounter (s := s.modQueue _ _) hs i
    · exact hs
  · exact hs

/-- A line or a sample at a station whose lamp is put out, or queued again, leaves it as `Leaves` says; the station stays
barred if it was. -/
theorem Station.Leaves.barred {a b : Station} (h : a.Leaves b) : b.barred ↔ a.barred := by
  rw [h.station]; exact Iff.rfl

theorem Lamp.initial_ok : Lamp.initial.Ok := by unfold Lamp.Ok; decide

theorem LampsOk.takeReset {s : State} (hs : LampsOk s) (i : StationId) (out : (s.station i).lamp.state.out = true) :
    LampsOk (s.modStation i Station.takeReset) := by
  obtain ⟨⟨lamps, agrees⟩, settled⟩ := hs
  have states : ∀ j, (((s.modStation i Station.takeReset).station j).lamp.state = .queued ↔
      (s.station j).lamp.state = .queued) ∧ ((s.modStation i Station.takeReset).station j).lamp.state.onSupply =
      (s.station j).lamp.state.onSupply := by
    intro j
    rw [State.station_modStation]
    split
    · rename_i hj
      subst hj
      show (LampState.stub = .queued ↔ _) ∧ LampState.stub.onSupply = _
      cases h : (s.station j).lamp.state <;> simp_all [LampState.out, LampState.onSupply]
    · exact ⟨Iff.rfl, rfl⟩
  refine ⟨⟨fun j => ?_, fun j => ?_, agrees.2⟩, settled⟩
  · rw [State.station_modStation]
    split
    · exact ⟨fun _ => rfl, Lamp.initial_ok⟩
    · exact lamps j
  · rw [(states j).1, (states j).2]
    exact agrees.1 j

theorem LampsOk.strapsRead {s : State} (hs : LampsOk s) {i : StationId} (p : TrimStraps)
    (was : (s.station i).condition = .resetting) : LampsOk (s.strapsRead i p) := by
  unfold State.strapsRead
  refine LampsOk.modStation (s := { s with straps := { s.straps with trim := s.straps.trim.set i p } }) hs i
    (fun st => { st.readStraps p with
      condition := .normal, ld := { st.ld with mode := .enforce }, md := { st.md with mode := .enforce } })
    rfl fun h => ?_
  exact ⟨fun _ => h.1 (.inr (.inr was)), h.2⟩

theorem Arbiter.initial_agrees {lamp : StationId → LampState} (h : ∀ i, lamp i = .stub) :
    Arbiter.initial.Agrees lamp := by
  refine ⟨fun i => ?_, by decide, rfl, by decide, rfl⟩
  rw [h i]
  cases i <;> decide

theorem Station.initial_lampOk (trim : Option Trim) (params : Option Params) (house : HouseId) :
    (Station.initial trim params house).LampOk := ⟨fun _ => rfl, Lamp.initial_ok⟩

theorem LampsOk.boothReset (s : State) : LampsOk s.boothReset := by
  suffices h : (∀ i, (s.boothReset.station i).lamp = Lamp.initial) ∧ s.boothReset.arbiter = Arbiter.initial by
    obtain ⟨lamps, arbiter⟩ := h
    refine ⟨⟨fun i => ?_, ?_⟩, ?_⟩
    · unfold Station.LampOk
      rw [lamps]
      exact ⟨fun _ => rfl, Lamp.initial_ok⟩
    · rw [arbiter]
      exact Arbiter.initial_agrees fun i => by rw [lamps]; rfl
    · rw [arbiter]
      exact fun _ => rfl
  refine boothReset_keeps (P := fun t => (∀ i, (t.station i).lamp = Lamp.initial) ∧ t.arbiter = Arbiter.initial)
    (fun t i ht => ?_) (fun t h ht => ?_) ⟨fun i => ?_, rfl⟩
  · unfold State.boundByTrip
    split
    · refine ⟨fun j => ?_, ht.2⟩
      rw [State.station_modStation]
      split
      · exact ht.1 i
      · exact ht.1 j
    · exact ht
  · unfold State.suspendAtReset
    split <;> exact ht
  · unfold State.station
    rw [PerStation.get_build]
    rfl

theorem act_keeps_lampsOk (s t : State) (h : Act s t) (hs : LampsOk s) : LampsOk t := by
  cases h with
  | edit h => exact edit_keeps_lampsOk s t h hs
  | inputs i => exact LampsOk.modStation hs i _ rfl fun h => h
  | count i dir =>
    have same : ∀ (st : Station) bound, (st.countPulse bound dir).lamp = st.lamp ∧
        (st.LampOk → (st.countPulse bound dir).LampOk) := by
      intro st bound
      unfold Station.countPulse
      split
      · cases dir <;> exact ⟨rfl, fun h => h⟩
      · exact ⟨rfl, fun h => h⟩
    exact LampsOk.modStation hs i _ (by rw [(same _ _).1]) (same _ _).2
  | pulse i interval =>
    have same : ∀ st : Station, (st.motorPulse interval).lamp = st.lamp ∧
        (st.LampOk → (st.motorPulse interval).LampOk) := by
      intro st
      unfold Station.motorPulse
      repeat' split
      all_goals exact ⟨rfl, fun h => h⟩
    exact LampsOk.modStation hs i _ (by rw [(same _).1]) (same _).2
  | stopped i was => exact LampsOk.modStation hs i _ rfl fun h => h
  | resetHoldEnd i p was =>
    exact resetHoldEnd_keeps edit_keeps_lampsOk (fun _ _ _ _ h => h) (LampsOk.strapsRead hs p was)
  | takeReset i _ out =>
    refine LampsOk.takeReset (LampsOk.dropBinding hs i) i ?_
    have lamp : ((s.dropBinding i).station i).lamp = (s.station i).lamp := by
      unfold State.dropBinding
      split
      · split
        · show (((s.modQueue _ _).holdCounter i).station i).lamp = _
          rw [State.station_holdCounter, if_pos rfl]
          rfl
        · rfl
      · rfl
    rw [lamp, out]
  | assign i h => exact LampsOk.modStation hs i _ rfl fun h => h
  | clear h => exact foldl_keeps (P := LampsOk) _ (fun t e ht => LampsOk.clearBinding ht e) _ s hs
  | thread i k e =>
    exact LampsOk.modStation (s := s.modQueue _ _) hs i
      (fun st => { st with counter := 0, counterMode := .forward }) rfl fun h => h
  | unthread i e => exact LampsOk.holdCounter (s := s.modQueue _ _) hs i
  | endShow h => exact endShow_keeps edit_keeps_lampsOk (fun _ _ h => h) hs
  | lampOut i new f out leaves retry restrike =>
    obtain ⟨few, few', lit⟩ := (hs.1.1 i).few
    refine LampsOk.setLamp hs i ?_ leaves.lamp (fun _ => out) ?_ ?_ (restrike.trans few')
    · rintro rfl; cases out
    · intro h; cases new <;> simp_all [LampState.out, LampState.onSupply]
    · rw [out, if_pos rfl]
      split at retry
      · omega
      · rename_i h
        have := (lit (Bool.eq_false_iff.2 h)).1
        omega
  | requeue i cls f was leaves retry restrike cls_ =>
    obtain ⟨few, few', lit⟩ := (hs.1.1 i).few
    obtain ⟨two, open_⟩ := lit (by revert was; cases (s.station i).lamp.state <;> decide)
    refine LampsAgree.testGrant (LampsAgree.setLamp hs.1 i leaves.lamp (fun b => absurd (leaves.barred.1 b) open_)
      (fun h => by cases h) (fun _ => ?_) ?_ ?_)
    · obtain h | ⟨establish, h⟩ := cls_
      · exact h
      · obtain ⟨-, -, granted, -⟩ := hs.1.1 i
        rw [h, granted, establish]
        rfl
    · exact retry.trans (by rw [max_eq_right two]; decide)
    · exact restrike.trans (by rw [max_eq_right few'])
  | established i was =>
    obtain ⟨-, -, lit⟩ := (hs.1.1 i).few
    obtain ⟨two, open_⟩ := lit (by rw [was]; rfl)
    exact LampsOk.setLamp_only hs i (by decide) (fun b => absurd b open_) (fun _ => ⟨rfl, by rw [was]; rfl⟩) two
  | burn i was =>
    obtain ⟨-, -, lit⟩ := (hs.1.1 i).few
    obtain ⟨two, open_⟩ := lit (by rw [was]; rfl)
    exact LampsOk.setLamp_only hs i (by decide) (fun b => absurd b open_) (fun h => by cases h) two
  | counted i was few =>
    refine LampsOk.modStation hs i (fun st => { st with lamp := { st.lamp with establish := st.lamp.establish + 1 } })
      rfl fun h => ?_
    obtain ⟨h1, h2, h3, h4, h5, h6, -⟩ := h
    refine ⟨h1, h2, h3, h4, h5, h6, ?_⟩
    dsimp only
    rw [if_pos was]
    omega
  | sampled i => exact LampsOk.modStation hs i _ rfl fun h => h
  | burnsOn i f was burns =>
    have same := burns.station
    exact LampsOk.modStation hs i f (by rw [same]) fun h => by rw [same]; exact h
  | jogs i f jogs =>
    have same := jogs.station
    exact LampsOk.modStation hs i f (by rw [same]) fun h => by rw [same]; exact h
  | bucket i n => exact LampsOk.modStation hs i _ rfl fun h => h
  | params i p q => exact LampsOk.modStation hs i _ rfl fun h => h
  | rechargeEnd was =>
    obtain ⟨⟨lamps, each, nodup, len, granted, recharge⟩, -⟩ := hs
    have none : s.arbiter.grant = none := by
      rw [was] at recharge
      have supply := of_decide_eq_true recharge.symm
      rw [supply] at granted
      cases hg : s.arbiter.grant with
      | none => rfl
      | some j => rw [hg] at granted; exact absurd (granted.2 rfl) (by decide)
    refine LampsAgree.testGrant ⟨lamps, each, nodup, len, ?_, rfl⟩
    dsimp only
    rw [none]
    decide
  | boothTrip cause =>
    exact boothTripActions_keeps (P := LampsOk) edit_keeps_lampsOk (fun _ _ h => h) hs
  | fireClear =>
    refine fireClear_keeps (P := LampsOk) (fun t i ht => LampsOk.modStation ht i _ rfl fun h => ?_) (fun _ _ h => h) hs
    exact ⟨fun b => h.1 (b.elim (fun h => by cases h) .inr), h.2⟩
  | _ => exact hs

/-! ### The booth trip -/

/-- What every change of `Edit` leaves of a station: its class, its house and its condition; a trip stands. -/
def Station.Under (a b : Station) : Prop :=
  b.trim = a.trim ∧ b.house = a.house ∧ b.condition = a.condition ∧ (a.trip.isSome = true → b.trip.isSome = true)

theorem Station.Under.refl (a : Station) : a.Under a := ⟨rfl, rfl, rfl, fun h => h⟩

theorem Station.SameBody.under {a b : Station} (h : a.SameBody b) : a.Under b := by
  rw [h]; exact ⟨rfl, rfl, rfl, fun h => h⟩

theorem Station.Under.trans {a b c : Station} (h : a.Under b) (k : b.Under c) : a.Under c :=
  ⟨k.1.trans h.1, k.2.1.trans h.2.1, k.2.2.1.trans h.2.2.1, fun t => k.2.2.2 (h.2.2.2 t)⟩

theorem State.modStation_under (s : State) (i j : StationId) (f : Station → Station)
    (hf : (s.station i).Under (f (s.station i))) : (s.station j).Under ((s.modStation i f).station j) := by
  rw [State.station_modStation]
  split
  · rename_i hj; rw [hj]; exact hf
  · exact Station.Under.refl _

theorem Station.stopMotor_under (st : Station) : st.Under st.stopMotor := by
  unfold Station.stopMotor
  split <;> exact Station.Under.refl _

theorem Edit.under {s t : State} (h : Edit s t) (j : StationId) : (s.station j).Under (t.station j) := by
  cases h with
  | stop i => exact s.modStation_under i j _ (Station.stopMotor_under _)
  | start i =>
    refine s.modStation_under i j _ ?_
    unfold Station.startMotor
    split <;> exact Station.Under.refl _
  | shutter i d c => exact s.modStation_under i j _ (Station.Under.refl _)
  | mark i m => exact s.modStation_under i j _ (Station.Under.refl _)
  | trip i cause =>
    refine (s.modStation_under i j _ ?_).trans (State.extinguish_body _ i j).under
    obtain ⟨trim, house, condition, -⟩ := Station.stopMotor_under (s.station i)
    exact ⟨trim, house, condition, fun _ => rfl⟩
  | extinguish i => exact (s.extinguish_body i j).under
  | strike i => exact (s.takeStrike_body i j).under
  | reelOff h i f =>
    exact (State.modStation_under (s.modQueue _ _) i j (fun st => { st with counterMode := .hold }) (Station.Under.refl _))
  | runOutLeaves i e =>
    exact (State.modStation_under (s.modQueue _ _) i j (fun st => { st with counterMode := .hold }) (Station.Under.refl _))
  | _ => exact Station.Under.refl _

theorem State.testGrant_fire (s : State) : s.testGrant.fire = s.fire := by
  obtain h | ⟨k, -, -, -, -, h⟩ := s.testGrant_cases <;> rw [h]
  exact (s.setLamp_frame k .striking none).2.2.1

/-- No change of `Edit` begins or ends a booth trip. -/
theorem Edit.booth {s t : State} (h : Edit s t) : t.fire.booth = s.fire.booth := by
  cases h with
  | trip i cause => unfold State.tripStation; rw [(State.extinguish_frame _ i).2.2.2.1]; rfl
  | extinguish i => rw [(s.extinguish_frame i).2.2.2.1]
  | strike i =>
    unfold State.takeStrike
    dsimp only
    rw [State.testGrant_fire, (State.setLamp_frame _ i .queued _).2.2.1]
    rfl
  | capture cause i =>
    show (s.fire.captureTrip _).booth = s.fire.booth
    rw [Fire.captureTrip_eq]
    unfold Fire.afterTrip
    split <;> rfl
  | _ => rfl

theorem State.TripHeld.of_same {s t : State} {i : StationId} (hs : s.TripHeld i) (booth : t.fire.booth = s.fire.booth)
    (trim : (t.station i).trim = (s.station i).trim)
    (trip : (s.station i).trip.isSome = true → (t.station i).trip.isSome = true) : t.TripHeld i := by
  intro inForce present
  refine trip (hs (by rwa [← booth]) ?_)
  unfold Station.present at *
  rwa [← trim]

theorem edit_keeps_tripHeld (i : StationId) (s t : State) (h : Edit s t) (hs : s.TripHeld i) : t.TripHeld i :=
  hs.of_same h.booth (h.under i).1 (h.under i).2.2.2

/-- A station that a booth trip meets is tripped (R158). -/
theorem State.tripBooth_tripped (s : State) (i : StationId)
    (present : (s.station i).present = true) : ((s.tripBooth i).station i).trip.isSome = true := by
  unfold State.tripBooth
  split
  · unfold State.tripStation
    have body := State.extinguish_body (s.modStation i fun st => { st.stopMotor with
      trip := some .booth, demandOpen := false, csOpen := false
      channel := { st.channel with jog := none, fsPulses := 0 } }) i i
    exact body.under.2.2.2 (by rw [State.station_modStation, if_pos rfl]; rfl)
  · rename_i h
    rw [present, Bool.true_and] at h
    rw [Option.isSome_iff_ne_none]
    rwa [Option.isNone_iff_eq_none] at h

/-- What each step of a loop over stations brings about for its own and every step keeps, the loop brings about for all,
where a property that every step keeps holds. -/
theorem forStations_each {P : StationId → State → Prop} {Q : State → Prop} {f : StationId → State → State}
    {l : List StationId} (own : ∀ i t, Q t → P i (f i t)) (keeps : ∀ i j t, P j t → P j (f i t))
    (rest : ∀ i t, Q t → Q (f i t)) {s : State} (hs : Q s) {i : StationId} (hi : i ∈ l) : P i (s.forStations l f) := by
  induction l generalizing s with
  | nil => cases hi
  | cons k l ih =>
    show P i ((f k s).forStations l f)
    rcases List.mem_cons.1 hi with rfl | h
    · exact State.forStations_keeps (P i) f (fun j t ht => keeps j i t ht) l _ (own i s hs)
    · exact ih (rest k s hs) h

theorem State.TripHeld.modStation {s : State} {j : StationId} (hs : s.TripHeld j) (i : StationId) (f : Station → Station)
    (trim : (f (s.station i)).trim = (s.station i).trim)
    (trip : (f (s.station i)).trip = (s.station i).trip) : (s.modStation i f).TripHeld j := by
  refine hs.of_same rfl ?_ ?_ <;> rw [State.station_modStation] <;> split
  · rename_i hj; rw [hj, trim]
  · rfl
  · rename_i hj; rw [hj, trip]; exact fun h => h
  · exact fun h => h

theorem State.TripHeld.ofBody {s t : State} {i : StationId} (hs : s.TripHeld i) (fire : t.fire = s.fire)
    (h : (s.station i).SameBody (t.station i)) : t.TripHeld i :=
  hs.of_same (by rw [fire]) h.under.1 h.under.2.2.2

theorem State.setLamp_fire (s : State) (i : StationId) (new : LampState) (cls : Option StrikeClass) :
    (s.setLamp i new cls).fire = s.fire := (s.setLamp_frame i new cls).2.2.1

/-- The acts that come together at a station made present trip it while a booth trip is in force (R159). -/
theorem State.presenceAct_tripHeld {s : State} {i : StationId} {l : List PresenceAct}
    (booth : s.fire.booth.isSome = true → .booth ∈ l) :
    (l.foldl (fun u a => u.presenceAct i a) s).TripHeld i := by
  induction l generalizing s with
  | nil => intro inForce; exact absurd (booth inForce) (by simp)
  | cons a l ih =>
    rw [List.foldl_cons]
    by_cases ha : a = .booth
    · subst ha
      refine foldl_keeps (P := fun t => t.TripHeld i) _
        (fun t a ht => (t.presenceAct_edits i a).keeps (edit_keeps_tripHeld i) ht) l _ ?_
      intro inForce present
      have kept : ∀ u, Edits s u → u.fire.booth = s.fire.booth ∧ (s.station i).Under (u.station i) := fun u hu =>
        hu.keeps (P := fun u => u.fire.booth = s.fire.booth ∧ (s.station i).Under (u.station i))
          (fun _ _ e h => ⟨e.booth.trans h.1, h.2.trans (e.under i)⟩) ⟨rfl, Station.Under.refl _⟩
      obtain ⟨same, trim, -⟩ := kept _ (s.presenceAct_edits i .booth)
      unfold Station.present at present
      rw [same] at inForce
      rw [trim] at present
      show ((s.underBoothTrip i).station i).trip.isSome = true
      unfold State.underBoothTrip
      rw [if_pos inForce]
      exact s.tripBooth_tripped i present
    · refine ih fun inForce => ?_
      have same := (s.presenceAct_edits i a).keeps (P := fun u => u.fire.booth = s.fire.booth)
        (fun _ _ e h => e.booth.trans h) rfl
      rw [same] at inForce
      exact (List.mem_cons.1 (booth inForce)).resolve_left (Ne.symm ha)

theorem State.suspendUnderBoothTrip_tripHeld {s : State} {j : StationId} (hs : s.TripHeld j) (h : HouseId) :
    (s.suspendUnderBoothTrip h).TripHeld j := by
  obtain e | ⟨-, -, -, e⟩ := s.suspendUnderBoothTrip_eq h <;> rw [e]
  · exact hs
  · exact (s.darkenHouse_edits h).keeps (edit_keeps_tripHeld j) hs

theorem State.resetHoldEnd_tripHeld {s : State} (hs : ∀ j, s.TripHeld j) (i j : StationId) (p : TrimStraps) :
    (s.resetHoldEnd i p).TripHeld j := by
  have station := fun k => s.strapsRead_station i k p
  have other : j ≠ i → (s.strapsRead i p).TripHeld j := fun hj =>
    (hs j).of_same rfl (by rw [station, if_neg hj]) (by rw [station, if_neg hj]; exact fun h => h)
  unfold State.resetHoldEnd
  split
  · unfold State.madePresent
    dsimp only
    refine State.suspendUnderBoothTrip_tripHeld ?_ _
    have drawn := (s.strapsRead i p).freeOrder_edits ((s.strapsRead i p).presenceActs i)
    by_cases hj : j = i
    · subst hj
      refine State.presenceAct_tripHeld fun inForce => ?_
      have same := drawn.keeps (P := fun u => u.fire.booth = (s.strapsRead j p).fire.booth)
        (fun _ _ e h => e.booth.trans h) rfl
      rw [same] at inForce
      unfold State.freeOrder
      split
      · unfold State.presenceActs
        simp [inForce]
      · rw [(pickOrder_perm _ _ _).mem_iff]
        unfold State.presenceActs
        simp [inForce]
    · exact foldl_keeps (P := fun t => t.TripHeld j) _
        (fun t a ht => (t.presenceAct_edits i a).keeps (edit_keeps_tripHeld j) ht) _ _
        (drawn.keeps (edit_keeps_tripHeld j) (other hj))
  · rename_i stays
    by_cases hj : j = i
    · subst hj
      intro inForce present
      rw [present] at stays
      have was : (s.station j).present = true := by simpa using stays
      rw [station, if_pos rfl]
      exact hs j inForce was
    · exact other hj

theorem State.boothTripActions_tripHeld (s : State) (cause : BoothCause) (j : StationId) :
    (s.boothTripActions cause).TripHeld j := by
  refine State.forHouses_keeps (fun t => t.TripHeld j) _ (fun h t ht => ?_) _ _
    (forStations_each (P := fun i t => t.TripHeld i) (Q := fun _ => True) (fun i t _ => ?_) (fun i k t ht => ?_)
      (fun _ _ _ => trivial) trivial j.mem_all)
  · have light := State.gateAction_edits (if t.mode h = .unused && (t.house h).engine = .idle then t else t.suspend h) h
    refine light.keeps (edit_keeps_tripHeld j) ?_
    split
    · exact ht
    · unfold State.suspend
      split
      · exact ht
      · exact ((t.darkenHouse_edits h).trans (State.holdFade_edits _ h)).keeps (edit_keeps_tripHeld j) ht
  · refine (State.dropRunOut_edits _ i).keeps (edit_keeps_tripHeld i) fun _ present => t.tripBooth_tripped i ?_
    have trim := (t.tripBooth_edits i).keeps (P := fun u => (u.station i).trim = (t.station i).trim)
      (fun _ _ e h => (e.under i).1.trans h) rfl
    unfold Station.present at *
    rwa [← trim]
  · exact ((t.tripBooth_edits i).trans (State.dropRunOut_edits _ i)).keeps (edit_keeps_tripHeld k) ht

theorem State.fireClear_booth (s : State) : s.fireClear.fire.booth = none :=
  fireClear_keeps (P := fun t => t.fire.booth = none) (fun _ _ h => h) (fun _ _ h => h) rfl

/-- A booth reset's test of one station: its class stands, its trip stands, and it is tripped if the strap read made it
present under a booth trip (R179; log 14). -/
theorem State.boundByTrip_station (t : State) (was : StationId → Bool) (i k : StationId) :
    (t.boundByTrip was i).fire = t.fire ∧ ((t.boundByTrip was i).station k).trim = (t.station k).trim ∧
      ((t.station k).trip.isSome = true → ((t.boundByTrip was i).station k).trip.isSome = true) ∧
      (t.fire.booth.isSome = true → was i = false → (t.station i).present = true →
        ((t.boundByTrip was i).station i).trip.isSome = true) := by
  unfold State.boundByTrip
  split
  · refine ⟨rfl, ?_, ?_, fun _ _ _ => by rw [State.station_modStation, if_pos rfl]; rfl⟩ <;>
      rw [State.station_modStation] <;> split
    · rename_i hk; rw [hk]
    · rfl
    · exact fun _ => rfl
    · exact fun h => h
  · rename_i hc
    refine ⟨rfl, rfl, fun h => h, fun booth out present => ?_⟩
    rw [booth, out, present] at hc
    rw [Option.isSome_iff_ne_none]
    simpa using hc

/-- A booth reset brings the stations that the strap read makes present under a booth trip in force (R179; log 14). -/
theorem State.boothReset_tripHeld {s : State} (hs : ∀ j, s.TripHeld j) (j : StationId) : s.boothReset.TripHeld j := by
  refine State.forHouses_keeps (fun t => t.TripHeld j) _ (fun h t ht => ?_) _ _
    (forStations_each (P := fun i t => t.TripHeld i)
      (Q := fun t => t.fire = s.fire ∧ ∀ k, s.fire.booth.isSome = true → (s.station k).present = true →
        (t.station k).trip.isSome = true) (fun i t ht => ?_) (fun i k t ht => ?_) (fun i t ht => ?_) ?_ j.mem_all)
  · unfold State.suspendAtReset
    split <;> exact ht
  · obtain ⟨fire, was⟩ := ht
    obtain ⟨same, trim, stands, bound⟩ := t.boundByTrip_station (fun j => (s.station j).present) i i
    intro inForce present
    rw [same] at inForce
    have present : (t.station i).trim.isSome = true := trim ▸ present
    cases hw : (s.station i).present with
    | true => exact stands (was i (by rwa [← fire]) hw)
    | false => exact bound inForce hw present
  · obtain ⟨fire, trim, stands, -⟩ := t.boundByTrip_station (fun j => (s.station j).present) i k
    exact ht.of_same (by rw [fire]) trim stands
  · refine ⟨(t.boundByTrip_station _ i i).1.trans ht.1, fun k booth present => ?_⟩
    exact (t.boundByTrip_station _ i k).2.2.1 (ht.2 k booth present)
  · refine ⟨rfl, fun k booth present => ?_⟩
    unfold State.station
    rw [PerStation.get_build]
    exact hs k booth present

theorem act_keeps_tripHeld (s t : State) (h : Act s t) (hs : ∀ j, s.TripHeld j) (j : StationId) : t.TripHeld j := by
  have holdCounter : ∀ (u : State) i, u.TripHeld j → (u.holdCounter i).TripHeld j := fun u i hu =>
    State.TripHeld.modStation hu i (fun st => { st with counterMode := .hold }) rfl rfl
  cases h with
  | edit h => exact edit_keeps_tripHeld j s t h (hs j)
  | inputs i => exact (hs j).modStation i _ rfl rfl
  | count i dir =>
    have same : ∀ (st : Station) bound, (st.countPulse bound dir).trim = st.trim ∧
        (st.countPulse bound dir).trip = st.trip := by
      intro st bound
      unfold Station.countPulse
      split
      · cases dir <;> exact ⟨rfl, rfl⟩
      · exact ⟨rfl, rfl⟩
    exact (hs j).modStation i _ (same _ _).1 (same _ _).2
  | pulse i interval =>
    have same : ∀ st : Station, (st.motorPulse interval).trim = st.trim ∧ (st.motorPulse interval).trip = st.trip := by
      intro st
      unfold Station.motorPulse
      repeat' split
      all_goals exact ⟨rfl, rfl⟩
    exact (hs j).modStation i _ (same _).1 (same _).2
  | stopped i was => exact (hs j).modStation i _ rfl rfl
  | resetHoldEnd i p was => exact State.resetHoldEnd_tripHeld hs i j p
  | takeReset i =>
    have dropped : (s.dropBinding i).TripHeld j := by
      unfold State.dropBinding
      split
      · split
        · exact holdCounter (s.modQueue _ _) i (hs j)
        · exact hs j
      · exact hs j
    refine dropped.modStation i Station.takeReset ?_ ?_ <;> unfold Station.takeReset Station.stopMotor <;> split <;> rfl
  | assign i h => exact (hs j).modStation i _ rfl rfl
  | clear h =>
    refine foldl_keeps (P := fun u => u.TripHeld j) State.clearBinding (fun u e hu => ?_) (s.house h).queue s (hs j)
    unfold State.clearBinding
    split
    · split
      · exact holdCounter _ _ (edit_keeps_tripHeld j _ _ (Edit.stop u _) hu)
      · exact holdCounter _ _ hu
    · exact hu
  | thread i k e =>
    exact State.TripHeld.modStation (s := s.modQueue _ _) (hs j) i
      (fun st => { st with counter := 0, counterMode := .forward }) rfl rfl
  | unthread i e => exact holdCounter (s.modQueue _ _) i (hs j)
  | endShow h => exact endShow_keeps (P := fun u => u.TripHeld j) (edit_keeps_tripHeld j) (fun _ _ h => h) (hs j)
  | lampOut i new f out leaves =>
    refine State.TripHeld.ofBody (State.TripHeld.modStation (hs j) i f ?_ ?_) (State.setLamp_fire _ i _ _)
      (State.setLamp_body _ i j _ _) <;> rw [leaves.station]
  | requeue i cls f was leaves =>
    refine State.TripHeld.ofBody (State.TripHeld.modStation (hs j) i f ?_ ?_)
      ((State.testGrant_fire _).trans (State.setLamp_fire _ i _ _))
      ((State.setLamp_body _ i j _ _).trans (State.testGrant_body _ j)) <;> rw [leaves.station]
  | established i => exact (hs j).ofBody (s.setLamp_fire i _ _) (s.setLamp_body i j _ _)
  | burn i => exact (hs j).ofBody (s.setLamp_fire i _ _) (s.setLamp_body i j _ _)
  | counted i => exact (hs j).ofBody rfl (s.modLamp_body i j _)
  | sampled i => exact (hs j).modStation i _ rfl rfl
  | burnsOn i f was burns => exact (hs j).modStation i f (by rw [burns.station]) (by rw [burns.station])
  | jogs i f jogs => exact (hs j).modStation i f (by rw [jogs.station]) (by rw [jogs.station])
  | bucket i n => exact (hs j).modStation i _ rfl rfl
  | params i p q => exact (hs j).modStation i _ rfl rfl
  | rechargeEnd => exact State.TripHeld.ofBody (hs j) (State.testGrant_fire _) (State.testGrant_body _ j)
  | fire f booth => exact (hs j).of_same booth rfl fun h => h
  | boothTrip cause => exact s.boothTripActions_tripHeld cause j
  | fireClear =>
    intro inForce
    rw [s.fireClear_booth] at inForce
    cases inForce
  | _ => exact hs j

theorem act_keeps_lampInv (s t : State) (h : Act s t) (hs : LampInv s) : LampInv t := by
  rw [lampInv_iff] at *
  exact ⟨act_keeps_lampsOk s t h hs.1, act_keeps_tripHeld s t h hs.2⟩

theorem LampInv.boothReset {s : State} (hs : LampInv s) : LampInv s.boothReset := by
  rw [lampInv_iff] at *
  exact ⟨LampsOk.boothReset s, State.boothReset_tripHeld hs.2⟩

theorem powerOn_station {p : Straps} {s t : State} (h : exec (.powerOn p) s = .next t) (i : StationId) :
    t.station i = Station.powerOn p i ∧ t.arbiter = Arbiter.initial ∧ t.fire = Fire.initial := by
  cases h
  exact ⟨PerStation.get_build _ _, rfl, rfl⟩

theorem powerOn_lampInv (p : Straps) (s t : State) (h : exec (.powerOn p) s = .next t) : LampInv t := by
  have each := powerOn_station h
  rw [lampInv_iff]
  refine ⟨⟨⟨fun i => ?_, ?_⟩, ?_⟩, fun i inForce => ?_⟩
  · rw [(each i).1]
    exact Station.initial_lampOk _ _ _
  · rw [(each .s1).2.1]
    exact Arbiter.initial_agrees fun i => by rw [(each i).1]; rfl
  · rw [(each .s1).2.1]
    exact fun _ => rfl
  · rw [(each i).2.2] at inForce
    cases inForce

/-- Settles O55: the lamps and the arbiter by `Edit` and `Act`, then the stations under a booth trip. -/
theorem strikeSupplyServesOneLamp : Obligations.StrikeSupplyServesOneLamp := fun _ _ hs h =>
  step_keeps (P := LampInv) (fun _ _ h => h) act_keeps_lampInv (fun _ => LampInv.boothReset)
    (fun _ _ h => h) powerOn_lampInv (fun _ _ h => h) hs h

end Sys2Proof.Machine

/-!
The invariant of the arc channels and the carbon (R82 to R92, R125 to R130), station by station, on the invariant of the
lamps.
-/

namespace Sys2Proof.Machine

/-! ### One station -/

/-- An arc record agrees with the lamp's state through every change that leaves the lamp's state, the channel and the
carbon alone. -/
theorem Station.arcInv.of_same {a b : Station} (h : a.arcInv) (lamp : b.lamp.state = a.lamp.state) (trim : b.trim = a.trim)
    (channel : b.channel = a.channel) (carbon : b.carbon = a.carbon) : b.arcInv := by
  unfold Station.arcInv Station.present at *
  rwa [lamp, trim, channel, carbon]

/-- A change of lamp state, with what came before it at the station, leaves the arc records in agreement (R83, R87, R92,
R102, R128, R130). -/
theorem Station.arcInv.enter {a b : Station} (h : a.arcInv) (leaves : a.Leaves b) {new : LampState}
    {cls : Option StrikeClass} (burn : new = .burn → a.lamp.state.sampled = true) :
    ({ b with lamp := b.lamp.enter new cls, channel := b.channel.enter b.lamp.state new
              carbon := b.carbon.enter b.lamp.state new } : Station).arcInv := by
  obtain ⟨timer, status, vc, ic, present, params, steps, jog, live, rp, window, closed, bucket⟩ := h
  obtain ⟨hstation, hlamp, hchannel, hcarbon, hcounts, hsteps, hjog, hrp⟩ := leaves
  have state : b.lamp.state = a.lamp.state := by rw [hlamp]
  have hwindow : b.carbon.window = a.carbon.window ∧ b.carbon.bucketTimer = a.carbon.bucketTimer := by
    rw [hcarbon]; exact ⟨rfl, rfl⟩
  have hpresent : b.present = a.present := by rw [hstation]; rfl
  rw [state]
  refine ⟨?_, ?_, ?_, ?_, ?_, ?_, ?_, ?_, ?_, ?_, ?_, ?_, ?_⟩
  · by_cases hb : new = .burn
    · subst hb
      show b.channel.sampleTimer = true
      rw [hchannel]
      exact timer.trans (burn rfl)
    · cases new <;> first | rfl | exact absurd rfl hb
  · rfl
  · show ∀ v ∈ b.channel.vc, v ≤ 255
    rwa [hchannel]
  · show ∀ v ∈ b.channel.ic, v ≤ 255
    rwa [hchannel]
  · show b.channel.params.isSome = b.present
    rw [hpresent, hchannel]
    exact present
  · show ∀ p ∈ b.channel.params, p.inRange
    rwa [hchannel]
  · exact hsteps.trans (max_le steps (Nat.le_refl _))
  · intro n hn
    simp only [Channel.enter, Option.mem_def] at hn
    split at hn
    · cases hn
    · rename_i stays
      obtain hj | hj := hjog
      · rw [hj] at hn; cases hn
      · rw [hj] at hn
        obtain ⟨one, most, cold⟩ := jog n hn
        rw [cold] at stays
        exact ⟨one, most, by simpa [Lamp.enter] using stays⟩
  · show if new = .burn then _ else _
    by_cases hb : new = .burn
    · rw [if_pos hb]
      subst hb
      simp only [Channel.enter, Carbon.enter, decide_true, Bool.or_true, if_true]
      refine ⟨by decide, by decide, fun p hp => ?_, rfl, trivial⟩
      have := (params p (by rwa [hchannel] at hp)).2.2.2.2.2.1
      omega
    · rw [if_neg hb]
      by_cases was : a.lamp.state = .burn
      · simp [Channel.enter, Carbon.enter, was, hb]
      · rw [if_neg was] at live
        obtain ⟨loss, short, credit, bucket'⟩ := hcounts was
        simp only [Channel.enter, Carbon.enter, was, hb, decide_false, Bool.or_false, Bool.false_eq_true, if_false,
          loss, short, credit, bucket', hwindow]
        exact live
  · show (b.carbon.enter a.lamp.state new).rp ≤ 5000
    have : (b.carbon.enter a.lamp.state new).rp = b.carbon.rp := by unfold Carbon.enter; split <;> [rfl; split <;> rfl]
    rw [this]
    exact hrp.trans (max_le rp (Nat.le_refl _))
  · show (b.carbon.enter a.lamp.state new).window.length ≤ 8
    unfold Carbon.enter
    split
    · exact Nat.zero_le _
    · split
      · exact Nat.zero_le _
      · rwa [hwindow.1]
  · show ∀ n ∈ (b.carbon.enter a.lamp.state new).window, n ≤ 255
    unfold Carbon.enter
    split
    · exact fun n hn => by cases hn
    · split
      · exact fun n hn => by cases hn
      · rwa [hwindow.1]
  · show ∀ n ∈ (b.carbon.enter a.lamp.state new).openBucket, n ≤ 255
    unfold Carbon.enter
    split
    · rintro n ⟨⟩; exact Nat.zero_le _
    · split
      · rintro n ⟨⟩
      · rename_i was
        rwa [(hcounts was).2.2.2]

theorem Station.arcInv.extinguished {st : Station} (h : st.arcInv) : st.extinguished.arcInv := by
  have hc := h.enter (Station.Leaves.refl st) (new := .cold) (cls := none) (fun h => by cases h)
  unfold Station.extinguished
  split
  · exact h
  · rename_i lit
    cases hs : st.lamp.state <;> rw [hs] at lit hc <;> first | exact absurd rfl lit | exact hc

theorem Station.arcInv.burnsOn {a b : Station} (h : a.arcInv) (was : a.lamp.state = .burn) (burns : a.BurnsOn b) :
    b.arcInv := by
  obtain ⟨timer, status, vc, ic, present, params, -, jog, live, rp, window, closed, bucket⟩ := h
  obtain ⟨hstation, hchannel, hcarbon, loss, short, steps, credit, hrp, hopen, hbucket⟩ := burns
  rw [if_pos was] at live
  obtain ⟨-, -, below, opened, bucketTimer⟩ := live
  have state : b.lamp.state = a.lamp.state := by rw [hstation]
  have trim : b.present = a.present := by rw [hstation]; rfl
  have hp : b.channel.params = a.channel.params := by rw [hchannel]
  have hw : b.carbon.window = a.carbon.window := by rw [hcarbon]
  refine ⟨by rw [state, hchannel]; exact timer, by rw [state, hchannel]; exact status, by rw [hchannel]; exact vc,
    by rw [hchannel]; exact ic, by rw [trim, hp]; exact present, by rw [hp]; exact params, steps, ?_, ?_,
    hrp.trans rp, by rw [hw]; exact window, by rw [hw]; exact closed, fun n hn => ?_⟩
  · rw [state, hchannel]; exact jog
  · rw [state, if_pos was, hp]
    refine ⟨loss, short, fun p hp => ?_, by rw [hopen]; exact opened, by rw [hcarbon]; exact bucketTimer⟩
    have := credit p hp
    have := below p hp
    have := (params p hp).2.2.2.2.2.1
    omega
  · obtain few | same := hbucket n hn
    · exact few
    · exact bucket n same

theorem Station.arcInv.jogs {a b : Station} (h : a.arcInv) (jogs : a.Jogs b) : b.arcInv := by
  obtain ⟨timer, status, vc, ic, present, params, steps, jog, live, rp, window, closed, bucket⟩ := h
  obtain ⟨hstation, hchannel, hcarbon, hjog, hrp⟩ := jogs
  have state : b.lamp.state = a.lamp.state := by rw [hstation]
  have trim : b.present = a.present := by rw [hstation]; rfl
  refine ⟨by rw [state, hchannel]; exact timer, by rw [state, hchannel]; exact status, by rw [hchannel]; exact vc,
    by rw [hchannel]; exact ic, by rw [trim, hchannel]; exact present, by rw [hchannel]; exact params,
    by rw [hchannel]; exact steps, fun n hn => ?_, by rw [state, hchannel, hcarbon]; exact live,
    hrp.trans rp, by rw [hcarbon]; exact window, by rw [hcarbon]; exact closed, by rw [hcarbon]; exact bucket⟩
  rw [state]
  obtain h | ⟨m, hm, rfl | ⟨one, few⟩⟩ := hjog n hn
  · exact h
  · exact jog n hm
  · obtain ⟨-, most, cold⟩ := jog m hm
    exact ⟨one, few.trans most, cold⟩

theorem Station.arcInv.sampled {st : Station} (h : st.arcInv) {v a : Nat} (was : st.channel.sampleTimer = true)
    (hv : v ≤ 255) (ha : a ≤ 255) : ({ st with channel := { st.channel with
      vc := some v, ic := some a, status := .live, steps := 0, fsPulses := 0 } } : Station).arcInv := by
  obtain ⟨timer, -, -, -, present, params, -, jog, rest⟩ := h
  refine ⟨timer, ?_, ?_, ?_, present, params, Nat.zero_le _, jog, rest⟩
  · rw [was] at timer
    show SampleStatus.live = _
    rw [if_pos timer.symm]
  · rintro x ⟨⟩; exact hv
  · rintro x ⟨⟩; exact ha

theorem closeBucket_inRange {w : List Nat} {n : Nat} (hw : ∀ m ∈ w, m ≤ 255) (hn : n ≤ 255) :
    (closeBucket w n).length ≤ 8 ∧ ∀ m ∈ closeBucket w n, m ≤ 255 := by
  unfold closeBucket
  refine ⟨by rw [List.length_drop]; omega, fun m hm => ?_⟩
  rcases List.mem_append.1 (List.mem_of_mem_drop hm) with h | h
  · exact hw m h
  · rw [List.mem_singleton.1 h]; exact hn

theorem Station.arcInv.bucket {st : Station} (h : st.arcInv) {n : Nat} (was : st.carbon.openBucket = some n) :
    ({ st with carbon := { st.carbon with window := closeBucket st.carbon.window n, openBucket := some 0 } } :
      Station).arcInv := by
  obtain ⟨timer, status, vc, ic, present, params, steps, jog, live, rp, -, closed, bucket⟩ := h
  obtain ⟨len, each⟩ := closeBucket_inRange closed (bucket n was)
  refine ⟨timer, status, vc, ic, present, params, steps, jog, ?_, rp, len, each, ?_⟩
  · by_cases hb : st.lamp.state = .burn
    · simp only [if_pos hb] at live ⊢
      obtain ⟨loss, short, credit, -, timer⟩ := live
      exact ⟨loss, short, credit, rfl, timer⟩
    · rw [if_neg hb, was] at live
      cases live.2.2.2.2.1
  · rintro x ⟨⟩; exact Nat.zero_le _

/-- New parameters clamp the credit below the new threshold (R97, R99). -/
theorem Station.arcInv.setParams {st : Station} (h : st.arcInv) {p q : Params} (was : st.channel.params = some p)
    (range : p.inRange → q.inRange) : ({ st with channel := st.channel.setParams q } : Station).arcInv := by
  obtain ⟨timer, status, vc, ic, present, params, steps, jog, live, rest⟩ := h
  have inRange := range (params p was)
  refine ⟨timer, status, vc, ic, ?_, ?_, steps, jog, ?_, rest⟩
  · rw [was] at present; exact present
  · rintro x ⟨⟩; exact inRange
  · have credit : (st.channel.setParams q).credit ≤ st.channel.credit ∧
        (st.channel.setParams q).credit ≤ q.thr - 1 := ⟨Nat.min_le_left _ _, Nat.min_le_right _ _⟩
    by_cases hb : st.lamp.state = .burn
    · simp only [if_pos hb] at live ⊢
      obtain ⟨loss, short, -, bucket⟩ := live
      refine ⟨loss, short, ?_, bucket⟩
      rintro x ⟨⟩
      have := inRange.2.2.2.2.2.1
      omega
    · simp only [if_neg hb] at live ⊢
      obtain ⟨loss, short, none, bucket⟩ := live
      exact ⟨loss, short, by omega, bucket⟩

theorem Station.initial_arcInv (trim : Option Trim) (house : HouseId) :
    (Station.initial trim (trim.map Trim.params) house).arcInv := by
  refine ⟨rfl, rfl, by rintro v ⟨⟩, by rintro v ⟨⟩, ?_, ?_, Nat.zero_le _, by rintro v ⟨⟩, ⟨rfl, rfl, rfl, rfl, rfl, rfl⟩,
    Nat.zero_le _, Nat.zero_le _, by rintro v ⟨⟩, by rintro v ⟨⟩⟩
  · show (trim.map Trim.params).isSome = trim.isSome
    rw [Option.isSome_map]
  · intro p hp
    obtain ⟨t, -, rfl⟩ := Option.mem_map.1 hp
    exact t.params_inRange

/-- The records of a station as a reset is taken, and as its straps are read while its lamp is out (R20, R21). -/
theorem Station.arcInv.takeReset {st : Station} (h : st.arcInv) : st.takeReset.arcInv := by
  obtain ⟨-, -, -, -, present, params, -⟩ := h
  have trim : st.takeReset.present = st.present := by
    unfold Station.takeReset Station.stopMotor Station.present; split <;> rfl
  refine ⟨rfl, rfl, by rintro v ⟨⟩, by rintro v ⟨⟩, by rw [trim]; exact present, params, Nat.zero_le _, by rintro v ⟨⟩,
    ⟨rfl, rfl, rfl, rfl, rfl, rfl⟩, Nat.zero_le _, Nat.zero_le _, by rintro v ⟨⟩, by rintro v ⟨⟩⟩

theorem Station.arcInv.readStraps {st : Station} (h : st.arcInv) (out : st.lamp.state.out = true) (p : TrimStraps) :
    (st.readStraps p).arcInv := by
  obtain ⟨timer, status, vc, ic, -, -, steps, jog, live, rest⟩ := h
  have cold : st.lamp.state ≠ .burn := by intro h; rw [h] at out; cases out
  refine ⟨timer, status, vc, ic, ?_, ?_, steps, jog, ?_, rest⟩
  · show ((trimOf p).map Trim.params).isSome = (trimOf p).isSome
    rw [Option.isSome_map]
  · intro q hq
    obtain ⟨t, -, rfl⟩ := Option.mem_map.1 hq
    exact t.params_inRange
  · rw [if_neg cold] at live
    show if st.lamp.state = .burn then _ else _
    rw [if_neg cold]
    exact live

/-! ### Every station -/

/-- The arc channels and the carbon of every station, the lamps apart. -/
def ArcsOk (s : State) : Prop := ∀ i, (s.station i).arcInv

theorem ArcsOk.modStation {s : State} (hs : ArcsOk s) (i : StationId) (f : Station → Station)
    (hf : (s.station i).arcInv → (f (s.station i)).arcInv) : ArcsOk (s.modStation i f) := by
  intro j
  rw [State.station_modStation]
  split
  · exact hf (hs i)
  · exact hs j

/-- A change of the station that touches neither its class nor its lamp, channel or carbon. -/
theorem ArcsOk.modMotor {s : State} (hs : ArcsOk s) (i : StationId) (f : Station → Station)
    (lamp : (f (s.station i)).lamp.state = (s.station i).lamp.state) (trim : (f (s.station i)).trim = (s.station i).trim)
    (channel : (f (s.station i)).channel = (s.station i).channel)
    (carbon : (f (s.station i)).carbon = (s.station i).carbon) : ArcsOk (s.modStation i f) :=
  hs.modStation i f fun h => h.of_same lamp trim channel carbon

theorem ArcsOk.setLamp {s : State} (hs : ArcsOk s) (i : StationId) {f : Station → Station} {new : LampState}
    {cls : Option StrikeClass} (leaves : (s.station i).Leaves (f (s.station i)))
    (burn : new = .burn → (s.station i).lamp.state.sampled = true) : ArcsOk ((s.modStation i f).setLamp i new cls) := by
  intro j
  rw [State.station_setLamp, State.station_modStation, State.station_modStation, if_pos rfl]
  split
  · exact (hs i).enter leaves burn
  · exact hs j

theorem ArcsOk.setLamp_only {s : State} (hs : ArcsOk s) (i : StationId) {new : LampState} {cls : Option StrikeClass}
    (burn : new = .burn → (s.station i).lamp.state.sampled = true) : ArcsOk (s.setLamp i new cls) := by
  have h := hs.setLamp i (f := fun st => st) (cls := cls) (Station.Leaves.refl _) burn
  rwa [State.modStation_id] at h

theorem ArcsOk.testGrant {s : State} (hs : ArcsOk s) : ArcsOk s.testGrant := by
  obtain h | ⟨k, -, -, -, -, h⟩ := s.testGrant_cases <;> rw [h]
  · exact hs
  · exact hs.setLamp_only k (cls := none) (fun h => by cases h)

theorem ArcsOk.extinguish {s : State} (hs : ArcsOk s) (i : StationId) : ArcsOk (s.extinguish i) := by
  intro j
  rw [State.station_extinguish]
  split
  · exact (hs i).extinguished
  · exact hs j

theorem ArcsOk.stopMotor {s : State} (hs : ArcsOk s) (i : StationId) : ArcsOk (s.stopMotor i) := by
  refine hs.modMotor i _ ?_ ?_ ?_ ?_ <;> unfold Station.stopMotor <;> split <;> rfl

theorem ArcsOk.holdCounter {s : State} (hs : ArcsOk s) (i : StationId) : ArcsOk (s.holdCounter i) :=
  hs.modMotor i (fun st => { st with counterMode := .hold }) rfl rfl rfl rfl

theorem ArcsOk.tripStation {s : State} (hs : ArcsOk s) (i : StationId) (cause : StationCause) :
    ArcsOk (s.tripStation i cause) := by
  refine ArcsOk.extinguish (hs.modStation i _ fun h => ?_) i
  have ended : ({ s.station i with channel := { (s.station i).channel with jog := none, fsPulses := 0 } } :
      Station).arcInv := h.jogs ⟨rfl, rfl, rfl, (by rintro n ⟨⟩), Nat.le_refl _⟩
  refine ended.of_same ?_ ?_ rfl ?_ <;> unfold Station.stopMotor <;> split <;> rfl

theorem ArcsOk.takeStrike {s : State} (hs : ArcsOk s) (i : StationId) : ArcsOk (s.takeStrike i) := by
  refine ArcsOk.testGrant (hs.setLamp i (f := fun st => { st with lamp := { st.lamp with retry := 0, restrike := 0 } })
    ?_ fun h => by cases h)
  exact ⟨rfl, rfl, rfl, rfl, fun _ => ⟨rfl, rfl, rfl, rfl⟩, Nat.le_max_left _ _, .inr rfl, Nat.le_max_left _ _⟩

theorem edit_keeps_arcsOk (s t : State) (h : Edit s t) (hs : ArcsOk s) : ArcsOk t := by
  cases h with
  | stop i => exact hs.stopMotor i
  | start i => refine hs.modMotor i _ ?_ ?_ ?_ ?_ <;> unfold Station.startMotor <;> split <;> rfl
  | shutter i d c => exact hs.modMotor i _ rfl rfl rfl rfl
  | mark i m => exact hs.modStation i _ fun h => h
  | trip i cause => exact hs.tripStation i cause
  | extinguish i => exact hs.extinguish i
  | strike i => exact hs.takeStrike i
  | reelOff h i f => exact ArcsOk.holdCounter (s := s.modQueue _ _) hs i
  | runOutLeaves i e => exact ArcsOk.holdCounter (s := s.modQueue _ _) hs i
  | _ => exact hs

theorem ArcsOk.strapsRead {s : State} (hs : ArcsOk s) {i : StationId} (p : TrimStraps)
    (out : (s.station i).lamp.state.out = true) : ArcsOk (s.strapsRead i p) := by
  unfold State.strapsRead
  refine ArcsOk.modStation (s := { s with straps := { s.straps with trim := s.straps.trim.set i p } }) hs i
    (fun st => { st.readStraps p with
      condition := .normal, ld := { st.ld with mode := .enforce }, md := { st.md with mode := .enforce } })
    fun h => ?_
  exact (h.readStraps out p).of_same rfl rfl rfl rfl

theorem ArcsOk.boothReset (s : State) : ArcsOk s.boothReset := by
  refine boothReset_keeps (P := ArcsOk) (fun t i ht => ?_) (fun t h ht => ?_) fun i => ?_
  · unfold State.boundByTrip
    split
    · exact ht.modMotor i _ rfl rfl rfl rfl
    · exact ht
  · unfold State.suspendAtReset
    split <;> exact ht
  · unfold State.station
    rw [PerStation.get_build]
    exact (Station.initial_arcInv (trimOf (s.readTrimStraps.straps.trim.get i)) (StationId.defaultHouse i)).of_same
      rfl rfl rfl rfl

theorem act_keeps_arcsOk (s t : State) (h : Act s t) (lamps : LampInv s) (hs : ArcsOk s) : ArcsOk t := by
  cases h with
  | edit h => exact edit_keeps_arcsOk s t h hs
  | inputs i => exact hs.modMotor i _ rfl rfl rfl rfl
  | count i dir =>
    refine hs.modMotor i _ ?_ ?_ ?_ ?_ <;> unfold Station.countPulse <;> split <;> first | rfl | cases dir <;> rfl
  | pulse i interval =>
    have same : ∀ st : Station, (st.motorPulse interval).lamp = st.lamp ∧ (st.motorPulse interval).trim = st.trim ∧
        (st.motorPulse interval).channel = st.channel ∧ (st.motorPulse interval).carbon = st.carbon := by
      intro st
      unfold Station.motorPulse
      repeat' split
      all_goals exact ⟨rfl, rfl, rfl, rfl⟩
    obtain ⟨lamp, trim, channel, carbon⟩ := same (s.station i)
    exact hs.modMotor i _ (by rw [lamp]) trim channel carbon
  | stopped i was => exact hs.modMotor i _ rfl rfl rfl rfl
  | resetHoldEnd i p was =>
    obtain ⟨⟨⟨each, -⟩, -⟩, -⟩ := (lampInv_iff s).1 lamps
    exact resetHoldEnd_keeps edit_keeps_arcsOk (fun _ _ _ _ h => h)
      (hs.strapsRead p ((each i).1 (.inr (.inr was))))
  | takeReset i =>
    refine ArcsOk.modStation ?_ i Station.takeReset Station.arcInv.takeReset
    unfold State.dropBinding
    split
    · split
      · exact ArcsOk.holdCounter (s := s.modQueue _ _) hs i
      · exact hs
    · exact hs
  | assign i h => exact hs.modMotor i _ rfl rfl rfl rfl
  | clear h =>
    refine foldl_keeps (P := ArcsOk) State.clearBinding (fun u e hu => ?_) (s.house h).queue s hs
    unfold State.clearBinding
    split
    · split
      · exact (hu.stopMotor _).holdCounter _
      · exact hu.holdCounter _
    · exact hu
  | thread i k e =>
    exact ArcsOk.modMotor (s := s.modQueue _ _) hs i (fun st => { st with counter := 0, counterMode := .forward })
      rfl rfl rfl rfl
  | unthread i e => exact ArcsOk.holdCounter (s := s.modQueue _ _) hs i
  | endShow h => exact endShow_keeps edit_keeps_arcsOk (fun _ _ h => h) hs
  | lampOut i new f out leaves =>
    refine hs.setLamp i leaves ?_
    rintro rfl; cases out
  | requeue i cls f was leaves => exact (hs.setLamp i leaves (fun h => by cases h)).testGrant
  | established i was => exact hs.setLamp_only i (fun h => by cases h)
  | burn i was => exact hs.setLamp_only i (fun _ => by rw [was]; rfl)
  | counted i was few => exact hs.modStation i _ fun h => h
  | sampled i v a was hv ha => exact hs.modStation i _ fun h => h.sampled was hv ha
  | burnsOn i f was burns => exact hs.modStation i f fun h => h.burnsOn was burns
  | jogs i f jogs => exact hs.modStation i f fun h => h.jogs jogs
  | bucket i n was => exact hs.modStation i _ fun h => h.bucket was
  | params i p q was range => exact hs.modStation i _ fun h => h.setParams was range
  | rechargeEnd => exact ArcsOk.testGrant (s := { s with arbiter := _ }) hs
  | boothTrip cause => exact boothTripActions_keeps (P := ArcsOk) edit_keeps_arcsOk (fun _ _ h => h) hs
  | fireClear =>
    exact fireClear_keeps (P := ArcsOk) (fun t i ht => ht.modMotor i _ rfl rfl rfl rfl) (fun _ _ h => h) hs
  | _ => exact hs

/-- Settles O58: the arc records by `Edit` and `Act`, with the lamps of O55. -/
theorem arcRecordsStayInRange : Obligations.ArcRecordsStayInRange := fun _ _ hs h =>
  step_keeps (P := ArcInv) (fun _ _ h => h)
    (fun s t h hs => ⟨act_keeps_lampInv s t h hs.1, act_keeps_arcsOk s t h hs.1 hs.2⟩)
    (fun s hs => ⟨LampInv.boothReset hs.1, ArcsOk.boothReset s⟩) (fun _ _ h => h)
    (fun p s t h => ⟨powerOn_lampInv p s t h, fun i => by
      rw [(powerOn_station h i).1]; exact Station.initial_arcInv _ _⟩) (fun _ _ h => h) hs h

end Sys2Proof.Machine

/-!
The running orders and the house lights in their ranges (R24 to R27, R139 to R141): what each change of `Edit` and `Act`
makes of a house keeps both.
-/

namespace Sys2Proof.Machine

/-! ### Running orders and lights of one house -/

/-- A running order as lines can leave it (R24 to R27). -/
def EntriesOk (q : List Entry) : Prop := q.length ≤ 12 ∧ ∀ e ∈ q, e.asTaken

theorem EntriesOk.sublist {p q : List Entry} (h : EntriesOk q) (hp : p.Sublist q) : EntriesOk p :=
  ⟨hp.length_le.trans h.1, fun e he => h.2 e (hp.subset he)⟩

theorem EntriesOk.map {q : List Entry} (h : EntriesOk q) {f : Entry → Entry}
    (hf : ∀ e, e.asTaken → (f e).asTaken) : EntriesOk (q.map f) := by
  refine ⟨by rw [List.length_map]; exact h.1, fun e he => ?_⟩
  obtain ⟨x, hx, rfl⟩ := List.mem_map.1 he
  exact hf x (h.2 x hx)

theorem EntriesOk.setStatus {q : List Entry} (h : EntriesOk q) (i : StationId) (st : EntryStatus) :
    EntriesOk (setStatus q i st) :=
  h.map fun e he => by split <;> exact he

theorem EntriesOk.unbindEntry {q : List Entry} (h : EntriesOk q) (i : StationId) : EntriesOk (unbindEntry q i) :=
  h.map fun e he => by split <;> exact he

theorem EntriesOk.stopPlaying {q : List Entry} (h : EntriesOk q) : EntriesOk (stopPlaying q) :=
  h.map fun e he => by split <;> exact he

theorem EntriesOk.dropEntry {q : List Entry} (h : EntriesOk q) (i : StationId) : EntriesOk (dropEntry q i) :=
  h.sublist List.eraseP_sublist

/-- A house keeps its running order and its light channel in their ranges. -/
def House.Ranged (a b : House) : Prop :=
  (EntriesOk a.queue → EntriesOk b.queue) ∧ (a.light.InRange → b.light.InRange)

/-- A house record with the running order and the light channel of another. -/
def House.SameShow (a b : House) : Prop := b.queue = a.queue ∧ b.light = a.light

theorem House.SameShow.ranged {a b : House} (h : a.SameShow b) : a.Ranged b :=
  ⟨fun e => h.1 ▸ e, fun l => h.2 ▸ l⟩

theorem House.Ranged.refl (a : House) : a.Ranged a := ⟨fun h => h, fun h => h⟩

theorem House.Ranged.trans {a b c : House} (h : a.Ranged b) (k : b.Ranged c) : a.Ranged c :=
  ⟨fun e => k.1 (h.1 e), fun l => k.2 (h.2 l)⟩

theorem House.readyTest_sameShow (a : House) : a.SameShow a.readyTest := by
  unfold House.readyTest; split <;> exact ⟨rfl, rfl⟩

theorem House.toIdle_sameShow (a : House) : a.SameShow a.toIdle :=
  House.readyTest_sameShow ({ a with engine := .idle, hold := .none } : House)

theorem House.emptyTest_sameShow (a : House) : a.SameShow a.emptyTest := by
  unfold House.emptyTest
  split
  · split
    · exact a.toIdle_sameShow
    · exact ⟨rfl, rfl⟩
  · split
    · exact a.toIdle_sameShow
    · exact ⟨rfl, rfl⟩
  · exact ⟨rfl, rfl⟩

theorem House.unsuspend_sameShow (a : House) : a.SameShow a.unsuspend := by
  unfold House.unsuspend
  split
  · dsimp only
    split
    · exact ⟨rfl, rfl⟩
    · split
      · exact ⟨rfl, rfl⟩
      · exact House.toIdle_sameShow ({ a with showRunning := false } : House)
  · exact ⟨rfl, rfl⟩

theorem House.acknowledged_sameShow (a : House) : a.SameShow a.acknowledged := by
  unfold House.acknowledged
  split
  · exact House.toIdle_sameShow ({ a with fault := none } : House)
  · exact ⟨rfl, rfl⟩

/-! ### Every house -/

/-- Every house keeps its running order and its light channel in their ranges. -/
def State.Ranged (s t : State) : Prop := ∀ k, (s.house k).Ranged (t.house k)

theorem State.Ranged.refl (s : State) : s.Ranged s := fun _ => House.Ranged.refl _

theorem State.Ranged.trans {s t u : State} (h : s.Ranged t) (k : t.Ranged u) : s.Ranged u := fun j => (h j).trans (k j)

theorem State.ranged_of_houses {s t : State} (h : t.houses = s.houses) : s.Ranged t := fun k => by
  rw [State.house_of_houses h]; exact House.Ranged.refl _

theorem State.modHouse_ranged (s : State) (h : HouseId) (f : House → House) (hf : (s.house h).Ranged (f (s.house h))) :
    s.Ranged (s.modHouse h f) := by
  intro k
  rw [State.house_modHouse]
  split
  · rename_i hk; rw [hk]; exact hf
  · exact House.Ranged.refl _

theorem State.modQueue_ranged (s : State) (h : HouseId) (f : List Entry → List Entry)
    (hf : EntriesOk (s.house h).queue → EntriesOk (f (s.house h).queue)) : s.Ranged (s.modQueue h f) :=
  s.modHouse_ranged h _ ⟨hf, fun h => h⟩

theorem State.removeEntry_ranged (s : State) (i : StationId) : s.Ranged (s.removeEntry i) :=
  s.modQueue_ranged _ _ fun h => h.dropEntry i

theorem State.readyTest_ranged (s : State) (h : HouseId) : s.Ranged (s.readyTest h) :=
  s.modHouse_ranged h _ (House.readyTest_sameShow _).ranged

theorem House.toSuspended_ranged (a : House) : a.Ranged a.toSuspended :=
  ⟨fun h => h.stopPlaying, fun h => h⟩

theorem Edit.ranged {s t : State} (h : Edit s t) : s.Ranged t := by
  cases h with
  | trip i cause => exact State.ranged_of_houses (s.tripStation_houses i cause)
  | extinguish i => exact State.ranged_of_houses (s.extinguish_houses i)
  | strike i => exact State.ranged_of_houses (s.takeStrike_houses i)
  | note h f noted => exact s.modHouse_ranged h f (House.SameShow.ranged ⟨noted.2.1, noted.2.2⟩)
  | fade h level time =>
    exact s.modHouse_ranged h _ ⟨fun h => h, fun l => Light.fadeStart_inRange l.1 level time⟩
  | fireLayer h => exact s.modHouse_ranged h _ ⟨fun h => h, fun l => l⟩
  | cue h f _ _ queue light => exact s.modHouse_ranged h f (House.SameShow.ranged ⟨queue, light⟩)
  | begin h f i _ _ _ queue light => exact s.modHouse_ranged h f (House.SameShow.ranged ⟨queue, light⟩)
  | picture h f i _ _ queue light =>
    exact s.modHouse_ranged h f ⟨fun e => queue ▸ e.setStatus i .playing, fun l => light ▸ l⟩
  | change h out inc => exact s.modQueue_ranged h _ fun e => (e.setStatus out _).setStatus inc _
  | fault h f _ _ queue light => exact s.modHouse_ranged h f ⟨fun e => queue ▸ e.stopPlaying, fun l => light ▸ l⟩
  | reelOff h i f _ _ ended =>
    exact (s.removeEntry_ranged i).trans
      (State.modHouse_ranged _ h f (House.SameShow.ranged ⟨ended.1, ended.2.1⟩))
  | runOutLeaves i e => exact s.removeEntry_ranged i
  | ready h => exact s.readyTest_ranged h
  | _ => exact State.Ranged.refl s

theorem State.clearBinding_houses (s : State) (e : Entry) : (s.clearBinding e).houses = s.houses := by
  unfold State.clearBinding
  split
  · split <;> rfl
  · rfl

theorem Light.initial_inRange : Light.initial.InRange := by unfold Light.InRange; decide

theorem Act.ranged {s t : State} (h : Act s t) : s.Ranged t := by
  have edit : ∀ u v : State, Edit u v → s.Ranged u → s.Ranged v := fun _ _ e h => h.trans e.ranged
  have suspends : ∀ (u : State) h, s.Ranged u → s.Ranged (u.modHouse h House.toSuspended) := fun u h hu =>
    hu.trans (u.modHouse_ranged h _ (House.toSuspended_ranged _))
  cases h with
  | edit h => exact h.ranged
  | resetHoldEnd i p was => exact resetHoldEnd_keeps edit (fun u h _ _ => suspends u h) (State.Ranged.refl s)
  | takeReset i =>
    refine State.Ranged.trans ?_ (State.readyTest_ranged _ _)
    show s.Ranged (s.dropBinding i)
    unfold State.dropBinding
    split
    · split
      · exact s.removeEntry_ranged i
      · exact s.modQueue_ranged _ _ fun h => h.unbindEntry i
    · exact State.Ranged.refl s
  | insert h k e room place taken =>
    refine (s.modQueue_ranged h _ fun ok => ⟨?_, fun x hx => ?_⟩).trans (State.readyTest_ranged _ _)
    · rw [List.length_insertIdx]
      split <;> omega
    · rcases List.eq_or_mem_of_mem_insertIdx hx with rfl | hx
      · exact taken
      · exact ok.2 x hx
  | delete h k e =>
    refine (s.modQueue_ranged h _ fun ok => ok.sublist (List.eraseIdx_sublist _ _)).trans
      (State.modHouse_ranged _ h _ ?_)
    exact (House.readyTest_sameShow _).ranged.trans (House.emptyTest_sameShow _).ranged
  | clear h =>
    have houses : ((s.house h).queue.foldl State.clearBinding s).houses = s.houses :=
      foldl_keeps (P := fun u => u.houses = s.houses) _ (fun u e hu => (u.clearBinding_houses e).trans hu) _ s rfl
    refine (State.ranged_of_houses houses).trans (State.modHouse_ranged _ h _ ?_)
    have emptied : ∀ a : House, a.Ranged ({ a with queue := [] } : House) := fun a =>
      ⟨fun _ => ⟨Nat.zero_le _, fun e he => by cases he⟩, fun l => l⟩
    exact (emptied _).trans ((House.readyTest_sameShow _).ranged.trans (House.emptyTest_sameShow _).ranged)
  | thread i k e condition entry =>
    refine State.Ranged.trans ?_ (State.readyTest_ranged _ _)
    refine s.modQueue_ranged (s.station i).house (fun q => q.set k { e with status := .threaded, bound := some i })
      fun ok => ⟨by rw [List.length_set]; exact ok.1, fun x hx => ?_⟩
    rcases List.mem_or_eq_of_mem_set hx with hx | rfl
    · exact ok.2 x hx
    · exact ok.2 e (List.mem_of_getElem? entry)
  | unthread i e =>
    refine State.Ranged.trans ?_ (State.readyTest_ranged _ _)
    exact s.modQueue_ranged (s.station i).house (fun q => unbindEntry q i) fun ok => ok.unbindEntry i
  | endShow h =>
    refine endShow_keeps edit (fun u h hu => hu.trans (u.modHouse_ranged h _ ?_)) (State.Ranged.refl s)
    refine House.Ranged.trans (b := { u.house h with
      lampWait := false, step := none, regime := none, reel := Reel.clear, queue := stopPlaying (u.house h).queue })
      ⟨fun h => h.stopPlaying, fun l => l⟩ (House.toIdle_sameShow _).ranged
  | acknowledge h => exact s.modHouse_ranged h _ (House.acknowledged_sameShow _).ranged
  | lampOut i new => exact State.ranged_of_houses (State.setLamp_houses _ i new _)
  | requeue i cls => exact State.ranged_of_houses ((State.testGrant_houses _).trans (State.setLamp_houses _ i _ _))
  | established i => exact State.ranged_of_houses (State.setLamp_houses _ i _ _)
  | burn i => exact State.ranged_of_houses (State.setLamp_houses _ i _ _)
  | rechargeEnd => exact State.ranged_of_houses (State.testGrant_houses _)
  | relight h f range => exact s.modHouse_ranged h _ ⟨fun h => h, range⟩
  | boothTrip cause => exact boothTripActions_keeps edit suspends (State.Ranged.refl s)
  | fireClear =>
    refine fireClear_keeps (P := s.Ranged) (fun u i hu => hu)
      (fun u h hu => hu.trans (u.modHouse_ranged h _ ?_)) (State.Ranged.refl s)
    refine ⟨fun e => (u.house h).unsuspend_sameShow.1 ▸ e, fun l => ?_⟩
    show (u.house h).light.fireToPanic.InRange
    unfold Light.fireToPanic
    split <;> exact l
  | _ => exact State.Ranged.refl s

theorem State.boothReset_ranged (s : State) : s.Ranged s.boothReset := by
  refine boothReset_keeps (P := s.Ranged) (fun u i hu => ?_) (fun u h hu => ?_) fun k => ?_
  · unfold State.boundByTrip
    split <;> exact hu
  · unfold State.suspendAtReset
    split
    · exact hu.trans (u.modHouse_ranged h _ (House.Ranged.refl _))
    · exact hu
  · unfold State.house
    rw [PerHouse.get_build]
    exact ⟨fun _ => ⟨Nat.zero_le _, fun e he => by cases he⟩, fun _ => Light.initial_inRange⟩

theorem powerOn_houses {p : Straps} {s t : State} (h : exec (.powerOn p) s = .next t) (k : HouseId) :
    t.house k = House.initial := by
  cases h
  exact PerHouse.get_build _ _

/-- Settles O56: each change of `Edit` and `Act` keeps both ranges at every house. -/
theorem ordersAndLightsStayInRange : Obligations.OrdersAndLightsStayInRange := by
  refine ⟨fun _ _ hs h => ?_, fun _ _ hs h => ?_⟩
  · refine step_keeps (P := EntriesInv) (fun _ _ h => h) (fun s t h hs k => (h.ranged k).1 (hs k))
      (fun s hs k => (s.boothReset_ranged k).1 (hs k)) (fun _ _ h => h)
      (fun p s t h k => ?_) (fun _ _ h => h) hs h
    rw [powerOn_houses h]
    exact ⟨Nat.zero_le _, fun e he => by cases he⟩
  · refine step_keeps (P := LightInv) (fun _ _ h => h) (fun s t h hs k => (h.ranged k).2 (hs k))
      (fun s hs k => (s.boothReset_ranged k).2 (hs k)) (fun _ _ h => h)
      (fun p s t h k => ?_) (fun _ _ h => h) hs h
    rw [powerOn_houses h]
    exact Light.initial_inRange

end Sys2Proof.Machine

/-!
The invariant of the bindings, the entry statuses and the engine states (R35, R36, R41). A running order in it has one of
three shapes: it is empty, or one entry, or two entries and others behind them that are WAITING and unbound. What each
change makes of these shapes is said first; then what it makes of the engine state; then of the stations' bindings.
-/

namespace Sys2Proof.Machine

/-! ### Running orders -/

/-- An entry is bound exactly when it is not WAITING (R35). -/
def Entry.Ok (e : Entry) : Prop := e.bound.isSome = true ↔ e.status ≠ .waiting

/-- An entry behind position 2. -/
def Entry.Waits (e : Entry) : Prop := e.bound = none ∧ e.status = .waiting

/-- The two entries at the front: each to a station of its own; RUN-OUT only at position 1, and PLAYING at position 2
only behind it. -/
def Entry.Before (a b : Entry) : Prop :=
  a.Ok ∧ b.Ok ∧ (∀ i, a.bound = some i → b.bound ≠ some i) ∧ b.status ≠ .runOut ∧
    (b.status = .playing → a.status = .runOut)

/-- The bindings and statuses of a running order (R35, R36). -/
def QueueOk : List Entry → Prop
  | [] => True
  | [a] => a.Ok
  | a :: b :: rest => a.Before b ∧ ∀ e ∈ rest, e.Waits

theorem mem_boundStations {q : List Entry} {i : StationId} : i ∈ boundStations q ↔ ∃ e ∈ q, e.bound = some i :=
  List.mem_filterMap

theorem boundStations_waits {q : List Entry} (h : ∀ e ∈ q, e.Waits) : boundStations q = [] :=
  List.filterMap_eq_nil_iff.2 fun e he => (h e he).1

theorem Entry.Waits.ok {e : Entry} (h : e.Waits) : e.Ok := by
  obtain ⟨bound, status⟩ := h
  simp [Entry.Ok, bound, status]

theorem boundStations_nodup_iff (a b : Entry) {rest : List Entry} (h : ∀ e ∈ rest, e.Waits) :
    (boundStations (a :: b :: rest)).Nodup ↔ ∀ i, a.bound = some i → b.bound ≠ some i := by
  have rest := boundStations_waits h
  unfold boundStations at *
  cases ha : a.bound <;> cases hb : b.bound <;> simp [ha, hb, rest]
  exact ⟨fun h k => h k.symm, fun h k => h k.symm⟩

theorem Entry.Ok.waits_of_unbound {e : Entry} (h : e.Ok) (bound : e.bound = none) : e.Waits := by
  refine ⟨bound, ?_⟩
  by_contra hs
  have := h.2 hs
  rw [bound] at this
  cases this

/-- What `OrderInv` says of a running order by itself. -/
theorem queueOk_iff (q : List Entry) : QueueOk q ↔
    (∀ e ∈ q, (e.bound.isSome = true ↔ e.status ≠ .waiting)) ∧ (∀ e ∈ q.drop 2, e.bound = none) ∧
      (boundStations q).Nodup ∧ (∀ e ∈ q.drop 1, e.status ≠ .runOut) ∧
      ∀ e ∈ q.drop 1, e.status = .playing → ∃ r ∈ q.head?, r.status = .runOut := by
  rcases q with _ | ⟨a, _ | ⟨b, rest⟩⟩
  · simp [QueueOk, boundStations]
  · have : (boundStations [a]).Nodup := by
      unfold boundStations
      cases ha : a.bound <;> simp [ha]
    simp [QueueOk, Entry.Ok, this]
  · show a.Before b ∧ (∀ e ∈ rest, e.Waits) ↔ _
    simp only [List.drop_succ_cons, List.drop_zero, List.head?_cons, List.mem_cons, forall_eq_or_imp, Option.mem_def,
      Option.some.injEq]
    constructor
    · rintro ⟨⟨ha, hb, apart, stays, plays⟩, waits⟩
      refine ⟨⟨ha, hb, fun e he => (waits e he).ok⟩, fun e he => (waits e he).1,
        (boundStations_nodup_iff a b waits).2 apart, ⟨stays, fun e he => ?_⟩, fun h => ⟨a, rfl, plays h⟩,
        fun e he h => ?_⟩
      · rw [(waits e he).2]; decide
      · rw [(waits e he).2] at h; cases h
    · rintro ⟨⟨ha, hb, hrest⟩, unbound, nodup, ⟨stays, -⟩, plays, -⟩
      have waits : ∀ e ∈ rest, e.Waits := fun e he => Entry.Ok.waits_of_unbound (hrest e he) (unbound e he)
      refine ⟨⟨ha, hb, (boundStations_nodup_iff a b waits).1 nodup, stays, fun h => ?_⟩, waits⟩
      obtain ⟨r, rfl, hr⟩ := plays h
      exact hr

theorem map_waits {q : List Entry} (h : ∀ e ∈ q, e.Waits) {f : Entry → Entry} (hf : ∀ e, e.Waits → f e = e) :
    q.map f = q := by
  conv_rhs => rw [← List.map_id q]
  exact List.map_congr_left fun e he => hf e (h e he)

/-- A change of entries that leaves the WAITING ones alone acts on the two entries at the front. -/
theorem QueueOk.map {q : List Entry} (h : QueueOk q) {f : Entry → Entry} (waits : ∀ e, e.Waits → f e = e)
    (ok : ∀ e ∈ q, e.Ok → (f e).Ok) (before : ∀ a ∈ q, ∀ b ∈ q, a.Before b → (f a).Before (f b)) :
    QueueOk (q.map f) := by
  rcases q with _ | ⟨a, _ | ⟨b, rest⟩⟩
  · trivial
  · exact ok a (by simp) h
  · rw [List.map_cons, List.map_cons, map_waits h.2 waits]
    exact ⟨before a (by simp) b (by simp) h.1, h.2⟩

theorem QueueOk.entry {q : List Entry} (h : QueueOk q) {e : Entry} (he : e ∈ q) : e.Ok :=
  ((queueOk_iff q).1 h).1 e he

/-- Two entries bound to one station are one (R36). -/
theorem QueueOk.bound_inj {q : List Entry} (h : QueueOk q) {x y : Entry} {i : StationId} (hx : x ∈ q) (hy : y ∈ q)
    (bx : x.bound = some i) (by_ : y.bound = some i) : x = y := by
  rcases q with _ | ⟨a, _ | ⟨b, rest⟩⟩
  · cases hx
  · rw [List.mem_singleton.1 hx, List.mem_singleton.1 hy]
  · obtain ⟨⟨-, -, apart, -⟩, waits⟩ := h
    have front : ∀ e ∈ a :: b :: rest, e.bound = some i → e = a ∨ e = b := by
      intro e he be
      rcases List.mem_cons.1 he with rfl | he
      · exact .inl rfl
      · rcases List.mem_cons.1 he with rfl | he
        · exact .inr rfl
        · rw [(waits e he).1] at be; cases be
    rcases front x hx bx with rfl | rfl <;> rcases front y hy by_ with rfl | rfl
    · rfl
    · exact absurd by_ (apart i bx)
    · exact absurd bx (apart i by_)
    · rfl

theorem entryOf_eq_some {q : List Entry} {i : StationId} {e : Entry} (h : entryOf q i = some e) :
    e ∈ q ∧ e.bound = some i :=
  ⟨List.mem_of_find?_eq_some h, by simpa using List.find?_some h⟩

theorem entryOf_eq_none {q : List Entry} {i : StationId} : entryOf q i = none ↔ i ∉ boundStations q := by
  unfold entryOf
  rw [List.find?_eq_none, mem_boundStations]
  simp

theorem QueueOk.entryOf_eq {q : List Entry} (h : QueueOk q) {i : StationId} {e : Entry} (he : e ∈ q)
    (be : e.bound = some i) : entryOf q i = some e := by
  cases hx : entryOf q i with
  | none => exact absurd (mem_boundStations.2 ⟨e, he, be⟩) (entryOf_eq_none.1 hx)
  | some x =>
    obtain ⟨hx, bx⟩ := entryOf_eq_some hx
    rw [h.bound_inj hx he bx be]

/-! ### Changes of a running order -/

/-- What is left of a running order as entries leave it (R24). -/
theorem QueueOk.sublist {p q : List Entry} (h : QueueOk q) (hp : p.Sublist q) : QueueOk p := by
  obtain ⟨ok, front, nodup, stays, plays⟩ := (queueOk_iff q).1 h
  refine (queueOk_iff p).2 ⟨fun e he => ok e (hp.subset he), fun e he => front e ((hp.drop 2).subset he),
    nodup.sublist (hp.filterMap _), fun e he => stays e ((hp.drop 1).subset he), fun e he playing => ?_⟩
  have behind := (hp.drop 1).subset he
  rcases q with _ | ⟨a, l⟩
  · cases behind
  · rcases List.sublist_cons_iff.1 hp with hl | ⟨r, rfl, -⟩
    · have bound := (ok e (hp.subset (List.mem_of_mem_drop he))).2 (by rw [playing]; decide)
      rw [front e ((hl.drop 1).subset he)] at bound
      cases bound
    · exact plays e behind playing

theorem QueueOk.dropEntry {q : List Entry} (h : QueueOk q) (i : StationId) : QueueOk (dropEntry q i) :=
  h.sublist List.eraseP_sublist

theorem mem_dropEntry {q : List Entry} {i : StationId} {e : Entry} (h : QueueOk q) :
    e ∈ dropEntry q i ↔ e ∈ q ∧ e.bound ≠ some i := by
  refine ⟨fun he => ⟨List.mem_of_mem_eraseP he, fun be => ?_⟩, fun ⟨he, be⟩ =>
    (List.mem_eraseP_of_neg (by simpa using be)).2 he⟩
  obtain ⟨a, l₁, l₂, before, ha, hq, hd⟩ := List.exists_of_eraseP (p := fun e : Entry => e.bound == some i)
    (List.mem_of_mem_eraseP he) (by simpa using be)
  have bound : a.bound = some i := by simpa using ha
  obtain ⟨-, -, nodup, -⟩ := (queueOk_iff q).1 h
  unfold Machine.dropEntry at he
  rw [hd] at he
  rw [hq] at nodup
  rcases List.mem_append.1 he with he | he
  · exact absurd (by simpa using be) (before e he)
  · unfold boundStations at nodup
    rw [List.filterMap_append, List.filterMap_cons_some bound] at nodup
    have := (List.nodup_cons.1 (List.nodup_append.1 nodup).2.1).1
    exact this (mem_boundStations.2 ⟨e, he, be⟩)

/-- What `OrderInv` says of the running order and the engine state of one house, its stations apart. -/
structure OrderOk (engine : EngineState) (q : List Entry) : Prop where
  queue : QueueOk q
  plays : (∃ e ∈ q, e.status = .playing) ↔ engine.showing = true
  runOut : ∀ e ∈ q, e.status = .runOut → engine ∉ [.idle, .ready, .starting, .suspended]
  ready : engine = .ready → ∃ e ∈ q.head?, e.bound.isSome = true
  idle : engine = .idle → ∀ e ∈ q.head?, e.bound = none
  starting : engine = .starting → ∃ e ∈ q.head?, e.status = .threaded

theorem headBound_iff (hs : House) : hs.headBound = true ↔ ∃ e ∈ hs.queue.head?, e.bound.isSome = true := by
  unfold House.headBound
  cases hs.queue <;> simp

/-- At most one entry of a running order is PLAYING (R35). -/
theorem QueueOk.countP_playing {q : List Entry} (h : QueueOk q) (b : Bool) :
    (q.countP fun e => e.status == .playing) = (if b then 1 else 0) ↔ ((∃ e ∈ q, e.status = .playing) ↔ b = true) := by
  have few : (q.countP fun e => e.status == .playing) ≤ 1 := by
    rcases q with _ | ⟨a, _ | ⟨c, rest⟩⟩
    · exact Nat.zero_le _
    · exact List.countP_le_length
    · obtain ⟨⟨-, -, -, -, plays⟩, waits⟩ := h
      have none : (rest.countP fun e => e.status == .playing) = 0 :=
        List.countP_eq_zero.2 fun e he => by rw [(waits e he).2]; decide
      rw [List.countP_cons, List.countP_cons, none]
      by_cases hc : c.status = .playing
      · rw [plays hc, hc]; decide
      · rw [if_neg (by simpa using hc)]
        split <;> omega
  have some_ : (∃ e ∈ q, e.status = .playing) ↔ 0 < q.countP fun e => e.status == .playing := by
    rw [List.countP_pos_iff]
    simp
  rw [some_]
  cases b <;> simp only [Bool.false_eq_true, if_false, if_true, iff_false, iff_true] <;> omega

theorem orderOk_iff (hs : House) : OrderOk hs.engine hs.queue ↔
    (∀ e ∈ hs.queue, (e.bound.isSome = true ↔ e.status ≠ .waiting)) ∧
    (∀ e ∈ hs.queue.drop 2, e.bound = none) ∧
    (boundStations hs.queue).Nodup ∧
    (∀ e ∈ hs.queue.drop 1, e.status ≠ .runOut) ∧
    (hs.queue.countP fun e => e.status == .playing) = (if hs.engine.showing then 1 else 0) ∧
    (∀ e ∈ hs.queue.drop 1, e.status = .playing → ∃ r ∈ hs.queue.head?, r.status = .runOut) ∧
    (∀ e ∈ hs.queue, e.status = .runOut → hs.engine ∉ [.idle, .ready, .starting, .suspended]) ∧
    (hs.engine = .ready → hs.headBound = true) ∧
    (hs.engine = .idle → hs.headBound = false) ∧
    (hs.engine = .starting → ∃ e ∈ hs.queue.head?, e.status = .threaded) := by
  have unbound : hs.headBound = false ↔ ∀ e ∈ hs.queue.head?, e.bound = none := by
    rw [← Bool.not_eq_true, headBound_iff]
    push Not
    simp
  constructor
  · rintro ⟨queue, plays, runOut, ready, idle, starting⟩
    obtain ⟨h1, h2, h4, h5, h7⟩ := (queueOk_iff _).1 queue
    exact ⟨h1, h2, h4, h5, (queue.countP_playing _).2 plays, h7, runOut, fun h => (headBound_iff hs).2 (ready h),
      fun h => unbound.2 (idle h), starting⟩
  · rintro ⟨h1, h2, h4, h5, count, h7, runOut, ready, idle, starting⟩
    have queue := (queueOk_iff _).2 ⟨h1, h2, h4, h5, h7⟩
    exact ⟨queue, (queue.countP_playing _).1 count, runOut, fun h => (headBound_iff hs).1 (ready h),
      fun h => unbound.1 (idle h), starting⟩

/-- The bindings as the stations have them: every bound station is one that may be bound there, and a counter is in HOLD
exactly at a station with no entry (R36, R37). -/
def Seated (s : State) : Prop :=
  (∀ h, ∀ i ∈ boundStations (s.house h).queue, s.bindable h i) ∧
    ∀ i, (s.station i).counterMode = .hold ↔ s.boundEntry i = none

theorem orderInv_iff (s : State) : OrderInv s ↔ (∀ h, OrderOk (s.house h).engine (s.house h).queue) ∧ Seated s := by
  constructor
  · rintro ⟨houses, counters⟩
    refine ⟨fun h => ?_, fun h => ?_, counters⟩
    · obtain ⟨h1, h2, -, rest⟩ := houses h
      exact (orderOk_iff _).2 ⟨h1, h2, rest⟩
    · exact (houses h).2.2.1
  · rintro ⟨orders, bindable, counters⟩
    refine ⟨fun h => ?_, counters⟩
    obtain ⟨h1, h2, rest⟩ := (orderOk_iff _).1 (orders h)
    exact ⟨h1, h2, bindable h, rest⟩

/-! ### Engine states and running orders -/

theorem mem_stopPlaying {q : List Entry} {e : Entry} (h : e ∈ stopPlaying q) :
    e.status ≠ .playing ∧ ∃ x ∈ q, e.bound = x.bound ∧ (e.status = .runOut → x.status = .runOut) := by
  obtain ⟨x, hx, rfl⟩ := List.mem_map.1 h
  split
  · exact ⟨nofun, x, hx, rfl, nofun⟩
  · exact ⟨‹_›, x, hx, rfl, fun h => h⟩

theorem QueueOk.stopPlaying {q : List Entry} (h : QueueOk q) : QueueOk (stopPlaying q) := by
  refine h.map (fun e he => if_neg (by rw [he.2]; decide)) (fun e _ he => ?_) fun a _ b _ hab => ?_
  · split
    · rename_i hp
      exact ⟨fun _ => nofun, fun _ => he.2 (by rw [hp]; decide)⟩
    · exact he
  · obtain ⟨ha, hb, apart, stays, plays⟩ := hab
    have ok : ∀ e : Entry, e.Ok → (if e.status = .playing then { e with status := .threaded } else e).Ok := by
      intro e he
      split
      · rename_i hp
        exact ⟨fun _ => nofun, fun _ => he.2 (by rw [hp]; decide)⟩
      · exact he
    refine ⟨ok a ha, ok b hb, fun i => ?_, ?_, ?_⟩
    · intro hi
      have : a.bound = some i := by split at hi <;> exact hi
      split <;> exact apart i this
    · split
      · exact nofun
      · exact stays
    · intro hp
      split at hp
      · cases hp
      · rename_i h; exact absurd hp h

/-- A running order with no entry PLAYING or RUN-OUT and the test of R41 made. -/
theorem House.toIdle_ordered {hs : House} (queue : QueueOk hs.queue) (still : ∀ e ∈ hs.queue, e.status ≠ .playing)
    (left : ∀ e ∈ hs.queue, e.status ≠ .runOut) : OrderOk hs.toIdle.engine hs.toIdle.queue := by
  have engine : hs.toIdle.engine = if hs.headBound then .ready else .idle := rfl
  have unbound : hs.headBound = false → ∀ e ∈ hs.queue.head?, e.bound = none := by
    rw [← Bool.not_eq_true, headBound_iff]
    push Not
    simp
  rw [hs.toIdle_sameShow.1, engine]
  cases hb : hs.headBound with
  | true =>
    exact ⟨queue, iff_of_false (fun ⟨e, he, hp⟩ => still e he hp) (by decide), fun e he hr => absurd hr (left e he),
      fun _ => (headBound_iff hs).1 hb, nofun, nofun⟩
  | false =>
    exact ⟨queue, iff_of_false (fun ⟨e, he, hp⟩ => still e he hp) (by decide), fun e he hr => absurd hr (left e he),
      nofun, fun _ => unbound hb, nofun⟩

/-- The test of R41 mends what a change of the head did to a READY or IDLE house. -/
theorem House.readyTest_ordered {hs : House} (queue : QueueOk hs.queue)
    (plays : (∃ e ∈ hs.queue, e.status = .playing) ↔ hs.engine.showing = true)
    (runOut : ∀ e ∈ hs.queue, e.status = .runOut → hs.engine ∉ [.idle, .ready, .starting, .suspended])
    (starting : hs.engine = .starting → ∃ e ∈ hs.queue.head?, e.status = .threaded) :
    OrderOk hs.readyTest.engine hs.readyTest.queue := by
  have rests : hs.engine = .idle ∨ hs.engine = .ready → OrderOk hs.readyTest.engine hs.readyTest.queue := by
    intro h
    have same : hs.readyTest.engine = hs.toIdle.engine ∧ hs.readyTest.queue = hs.toIdle.queue := by
      unfold House.readyTest House.toIdle
      rcases h with h | h <;> rw [h] <;> exact ⟨rfl, rfl⟩
    rw [same.1, same.2]
    refine House.toIdle_ordered queue (fun e he hp => ?_) fun e he hr => ?_
    · have := plays.1 ⟨e, he, hp⟩
      rcases h with h | h <;> rw [h] at this <;> cases this
    · have := runOut e he hr
      rcases h with h | h <;> rw [h] at this <;> exact this (by decide)
  by_cases h : hs.engine = .idle ∨ hs.engine = .ready
  · exact rests h
  · have same : hs.readyTest = hs := by
      unfold House.readyTest
      split
      · exact absurd (.inl ‹_›) h
      · exact absurd (.inr ‹_›) h
      · rfl
    rw [same]
    exact ⟨queue, plays, runOut, fun hr => absurd (.inr hr) h, fun hi => absurd (.inl hi) h, starting⟩

theorem OrderOk.still {engine : EngineState} {q : List Entry} (h : OrderOk engine q) (hs : engine.showing = false) :
    ∀ e ∈ q, e.status ≠ .playing := fun e he hp => by
  have := h.plays.1 ⟨e, he, hp⟩
  rw [hs] at this
  cases this

/-- Entry to FAULT (R63). -/
theorem OrderOk.fault {engine : EngineState} {q : List Entry} (h : OrderOk engine q) : OrderOk .fault (stopPlaying q) :=
  ⟨h.queue.stopPlaying, iff_of_false (fun ⟨_, he, hp⟩ => (mem_stopPlaying he).1 hp) (by decide),
    fun _ _ _ => by decide, nofun, nofun, nofun⟩

/-- Entry to SUSPENDED of a house whose RUN-OUT entries are gone (R66). -/
theorem OrderOk.suspended {engine : EngineState} {q : List Entry} (h : OrderOk engine q)
    (left : ∀ e ∈ q, e.status ≠ .runOut) : OrderOk .suspended (stopPlaying q) := by
  refine ⟨h.queue.stopPlaying, iff_of_false (fun ⟨_, he, hp⟩ => (mem_stopPlaying he).1 hp) (by decide),
    fun e he hr => ?_, nofun, nofun, nofun⟩
  obtain ⟨-, x, hx, -, was⟩ := mem_stopPlaying he
  exact absurd (was hr) (left x hx)

/-- The end of a show, of a house whose RUN-OUT entries are gone (R60, R67). -/
theorem OrderOk.closed {hs : House} (queue : QueueOk hs.queue) (left : ∀ e ∈ hs.queue, e.status ≠ .runOut)
    (other : House) (hq : other.queue = Machine.stopPlaying hs.queue) :
    OrderOk other.toIdle.engine other.toIdle.queue := by
  refine House.toIdle_ordered (hq ▸ queue.stopPlaying) (fun e he => ?_) fun e he hr => ?_ <;> rw [hq] at he
  · exact (mem_stopPlaying he).1
  · obtain ⟨-, x, hx, -, was⟩ := mem_stopPlaying he
    exact left x hx (was hr)

/-- The head of a STARTING house: THREADED, with no entry PLAYING or RUN-OUT in the order (R41). -/
theorem OrderOk.started {q : List Entry} (h : OrderOk .starting q) :
    ∃ a l, q = a :: l ∧ a.status = .threaded ∧ ∀ e ∈ l, e.status ≠ .playing ∧ e.status ≠ .runOut := by
  obtain ⟨a, ha, threaded⟩ := h.starting rfl
  rcases q with _ | ⟨b, l⟩
  · cases ha
  · cases ha
    exact ⟨a, l, rfl, threaded, fun e he => ⟨h.still rfl e (List.mem_cons_of_mem a he),
      fun hr => h.runOut e (List.mem_cons_of_mem a he) hr (by decide)⟩⟩

theorem mem_setStatus {q : List Entry} {i : StationId} {st : EntryStatus} {e : Entry} (h : e ∈ setStatus q i st) :
    ∃ x ∈ q, e.bound = x.bound ∧ (x.bound = some i ∧ e.status = st ∨ x.bound ≠ some i ∧ e = x) := by
  obtain ⟨x, hx, rfl⟩ := List.mem_map.1 h
  split
  · rename_i hb; exact ⟨x, hx, rfl, .inl ⟨hb, rfl⟩⟩
  · rename_i hb; exact ⟨x, hx, rfl, .inr ⟨hb, rfl⟩⟩

theorem setStatus_waits {q : List Entry} (h : ∀ e ∈ q, e.Waits) (i : StationId) (st : EntryStatus) :
    setStatus q i st = q :=
  map_waits h fun e he => if_neg (by rw [he.1]; simp)

theorem Entry.Ok.withStatus {e : Entry} (bound : e.bound.isSome = true) {st : EntryStatus} (h : st ≠ .waiting) :
    ({ e with status := st } : Entry).Ok := ⟨fun _ => h, fun _ => bound⟩

/-- The picture: the head of a STARTING house becomes PLAYING (R48). -/
theorem OrderOk.picture {q : List Entry} {i : StationId} (h : OrderOk .starting q)
    (head : q.head?.bind (·.bound) = some i) : OrderOk .playing (setStatus q i .playing) := by
  obtain ⟨a, l, rfl, threaded, others⟩ := h.started
  have ha : a.bound = some i := head
  have queue := h.queue
  have isSome : a.bound.isSome = true := by rw [ha]; rfl
  have form : setStatus (a :: l) i .playing = { a with status := .playing } :: l := by
    show (if a.bound = some i then _ else a) :: setStatus l i .playing = _
    rw [if_pos ha]
    congr 1
    conv_rhs => rw [← List.map_id l]
    refine List.map_congr_left fun e he => if_neg fun be => ?_
    rcases l with _ | ⟨b, rest⟩
    · cases he
    · obtain ⟨⟨-, -, apart, -⟩, waits⟩ := queue
      rcases List.mem_cons.1 he with rfl | he
      · exact apart i ha be
      · rw [(waits e he).1] at be; cases be
  rw [form]
  refine ⟨?_, iff_of_true ⟨_, List.mem_cons_self, rfl⟩ rfl, fun _ _ _ => by decide, nofun,
    nofun, nofun⟩
  rcases l with _ | ⟨b, rest⟩
  · exact Entry.Ok.withStatus isSome (by decide)
  · obtain ⟨⟨-, hb, apart, stays, -⟩, waits⟩ := queue
    exact ⟨⟨Entry.Ok.withStatus isSome (by decide), hb, apart, stays,
      fun hp => absurd hp (others b List.mem_cons_self).1⟩, waits⟩

/-- The change of the picture from the head to the entry behind it (R55). -/
theorem OrderOk.change {engine : EngineState} {q : List Entry} {out inc : StationId} (h : OrderOk engine q)
    (showing : engine.showing = true) (playing : (q.find? fun e => e.status == .playing).bind (·.bound) = some out)
    (next : ((playingIndex q).bind fun k => q[k + 1]?).bind (·.bound) = some inc) :
    OrderOk engine (setStatus (setStatus q out .runOut) inc .playing) := by
  have queue := h.queue
  obtain ⟨c, hc, hinc⟩ := Option.bind_eq_some_iff.1 next
  obtain ⟨k, hk, hc⟩ := Option.bind_eq_some_iff.1 hc
  rcases q with _ | ⟨a, _ | ⟨b, rest⟩⟩
  · cases hc
  · cases hc
  · obtain ⟨⟨ha, hb, apart, stays, behind⟩, waits⟩ := queue
    obtain rfl : k = 0 := by
      cases k with
      | zero => rfl
      | succ k =>
        rw [(waits c (List.mem_of_getElem? hc)).1] at hinc
        cases hinc
    obtain rfl : b = c := by simpa using hc
    have hp : a.status = .playing := by
      obtain ⟨_, hp, _⟩ := List.findIdx?_eq_some_iff_getElem.1 hk
      simpa using hp
    have hout : a.bound = some out := by
      rw [List.find?_cons_of_pos (by simpa using hp)] at playing
      exact playing
    have differ : out ≠ inc := by
      rintro rfl
      exact apart out hout hinc
    have form : setStatus (setStatus (a :: b :: rest) out .runOut) inc .playing =
        { a with status := .runOut } :: { b with status := .playing } :: rest := by
      have : setStatus (a :: b :: rest) out .runOut = { a with status := .runOut } :: b :: rest := by
        show (if a.bound = some out then _ else a) :: (if b.bound = some out then _ else b) :: setStatus rest out _ = _
        rw [if_pos hout, if_neg (apart out hout), setStatus_waits waits]
      rw [this]
      show (if a.bound = some inc then _ else _) :: (if b.bound = some inc then _ else b) :: setStatus rest inc _ = _
      rw [if_neg (by rw [hout]; simpa using differ), if_pos hinc, setStatus_waits waits]
    rw [form]
    refine ⟨⟨⟨Entry.Ok.withStatus (by rw [hout]; rfl) (by decide), Entry.Ok.withStatus (by rw [hinc]; rfl) (by decide),
      apart, nofun, fun _ => rfl⟩, waits⟩, iff_of_true ⟨_, List.mem_cons_of_mem _ List.mem_cons_self, rfl⟩ showing,
      fun _ _ _ => ?_, ?_, ?_, ?_⟩
    all_goals revert showing; cases engine <;> simp [EngineState.showing]

/-- At most one entry is PLAYING (R35). -/
theorem QueueOk.playing_inj {q : List Entry} (h : QueueOk q) {x y : Entry} (hx : x ∈ q) (hy : y ∈ q)
    (px : x.status = .playing) (py : y.status = .playing) : x = y := by
  rcases q with _ | ⟨a, _ | ⟨b, rest⟩⟩
  · cases hx
  · rw [List.mem_singleton.1 hx, List.mem_singleton.1 hy]
  · obtain ⟨⟨-, -, -, -, plays⟩, waits⟩ := h
    have front : ∀ e ∈ a :: b :: rest, e.status = .playing → e = a ∨ e = b := by
      intro e he hp
      rcases List.mem_cons.1 he with rfl | he
      · exact .inl rfl
      · rcases List.mem_cons.1 he with rfl | he
        · exact .inr rfl
        · rw [(waits e he).2] at hp; cases hp
    rcases front x hx px with rfl | rfl <;> rcases front y hy py with rfl | rfl
    · rfl
    · rw [plays py] at px; cases px
    · rw [plays px] at py; cases py
    · rfl

/-- A RUN-OUT entry stands at position 1 (R35). -/
theorem QueueOk.runOut_head {q : List Entry} (h : QueueOk q) {e : Entry} (he : e ∈ q) (hr : e.status = .runOut) :
    ∃ l, q = e :: l := by
  obtain ⟨-, -, -, stays, -⟩ := (queueOk_iff q).1 h
  rcases q with _ | ⟨a, l⟩
  · cases he
  · rcases List.mem_cons.1 he with rfl | he
    · exact ⟨l, rfl⟩
    · exact absurd hr (stays e he)

/-- A RUN-OUT entry leaves (R40). -/
theorem OrderOk.runOutLeaves {engine : EngineState} {q : List Entry} (h : OrderOk engine q) {i : StationId} {e : Entry}
    (he : e ∈ q) (be : e.bound = some i) (hr : e.status = .runOut) : OrderOk engine (dropEntry q i) := by
  have busy := h.runOut e he hr
  refine ⟨h.queue.dropEntry i, ?_, fun x hx hx' => ?_, ?_, ?_, ?_⟩
  · rw [← h.plays]
    refine exists_congr fun x => ?_
    rw [mem_dropEntry h.queue]
    refine ⟨fun ⟨⟨hx, _⟩, hp⟩ => ⟨hx, hp⟩, fun ⟨hx, hp⟩ => ⟨⟨hx, fun bx => ?_⟩, hp⟩⟩
    rw [h.queue.bound_inj hx he bx be, hr] at hp
    cases hp
  · exact h.runOut x ((mem_dropEntry h.queue).1 hx).1 hx'
  all_goals intro he; rw [he] at busy; exact absurd (by decide) busy

/-- The reel on screen ends: its entry, the one that is PLAYING, leaves (R58, R59). -/
theorem OrderOk.ended {engine ended : EngineState} {q : List Entry} (h : OrderOk engine q) {i : StationId} {e : Entry}
    (he : e ∈ q) (be : e.bound = some i) (hp : e.status = .playing)
    (none_ : dropEntry q i = [] → ended = .idle) (some_ : dropEntry q i ≠ [] → ended = .interval ∨ ended = .hold) :
    OrderOk ended (dropEntry q i) := by
  have queue := h.queue.dropEntry i
  have still : ∀ x ∈ dropEntry q i, x.status ≠ .playing := by
    intro x hx hx'
    obtain ⟨hx, bx⟩ := (mem_dropEntry h.queue).1 hx
    have this := h.queue.playing_inj he hx hp hx'
    exact bx (this ▸ be)
  rcases hd : dropEntry q i with _ | ⟨a, l⟩
  · rw [none_ hd]
    exact ⟨trivial, by simp [EngineState.showing], by simp, nofun, by simp, nofun⟩
  · rw [← hd]
    have := some_ (by rw [hd]; simp)
    refine ⟨queue, iff_of_false (fun ⟨x, hx, hp⟩ => still x hx hp) ?_, fun _ _ _ => ?_, ?_, ?_, ?_⟩
    all_goals rcases this with h | h <;> rw [h] <;> nofun

theorem boundStations_map {q : List Entry} {f : Entry → Entry} (hf : ∀ e, (f e).bound = e.bound) :
    boundStations (q.map f) = boundStations q := by
  unfold boundStations
  rw [List.filterMap_map]
  congr 1
  funext e
  exact hf e

theorem boundStations_setStatus (q : List Entry) (i : StationId) (st : EntryStatus) :
    boundStations (setStatus q i st) = boundStations q :=
  boundStations_map fun e => by split <;> rfl

theorem boundStations_stopPlaying (q : List Entry) : boundStations (stopPlaying q) = boundStations q :=
  boundStations_map fun e => by split <;> rfl

theorem mem_boundStations_dropEntry {q : List Entry} (h : QueueOk q) (i j : StationId) :
    j ∈ boundStations (dropEntry q i) ↔ j ≠ i ∧ j ∈ boundStations q := by
  simp only [mem_boundStations, mem_dropEntry h]
  constructor
  · rintro ⟨e, ⟨he, be⟩, bj⟩
    refine ⟨?_, e, he, bj⟩
    rintro rfl
    exact be bj
  · rintro ⟨hj, e, he, bj⟩
    exact ⟨e, ⟨he, by rw [bj]; simpa using hj⟩, bj⟩

/-! ### The stations and their bindings -/

/-- A station that keeps what its binding rests on. -/
def Station.SameSeat (a b : Station) : Prop :=
  b.house = a.house ∧ b.trim = a.trim ∧ b.condition = a.condition ∧ (b.counterMode = .hold ↔ a.counterMode = .hold)

theorem Station.SameSeat.refl (a : Station) : a.SameSeat a := ⟨rfl, rfl, rfl, Iff.rfl⟩

theorem Station.SameBody.seat {a b : Station} (h : a.SameBody b) : a.SameSeat b := by
  rw [h]; exact Station.SameSeat.refl _

theorem Station.SameSeat.trans {a b c : Station} (h : a.SameSeat b) (k : b.SameSeat c) : a.SameSeat c :=
  ⟨k.1.trans h.1, k.2.1.trans h.2.1, k.2.2.1.trans h.2.2.1, k.2.2.2.trans h.2.2.2⟩

theorem State.modStation_seat (s : State) (i : StationId) (f : Station → Station)
    (hf : (s.station i).SameSeat (f (s.station i))) (j : StationId) :
    (s.station j).SameSeat ((s.modStation i f).station j) := by
  rw [State.station_modStation]
  split
  · rename_i hj; rw [hj]; exact hf
  · exact Station.SameSeat.refl _

theorem State.boundEntry_eq_none {s : State} {i : StationId} :
    s.boundEntry i = none ↔ i ∉ boundStations (s.house (s.station i).house).queue := entryOf_eq_none

/-- A station is bound in its own house alone (R36). -/
theorem Seated.house {s : State} (hs : Seated s) {h : HouseId} {i : StationId}
    (hi : i ∈ boundStations (s.house h).queue) : (s.station i).house = h := (hs.1 h i hi).1

/-- Some stations lose their bindings, their counters in HOLD; the others keep theirs. -/
theorem Seated.leave {s t : State} (hs : Seated s) (gone : StationId → Prop)
    (queues : ∀ h j, j ∈ boundStations (t.house h).queue ↔ ¬gone j ∧ j ∈ boundStations (s.house h).queue)
    (stays : ∀ j, ¬gone j → (s.station j).SameSeat (t.station j))
    (held : ∀ j, gone j → (t.station j).counterMode = .hold) : Seated t := by
  obtain ⟨bindable, counters⟩ := hs
  refine ⟨fun h j hj => ?_, fun j => ?_⟩
  · obtain ⟨stay, was⟩ := (queues h j).1 hj
    obtain ⟨house, trim, condition, -⟩ := stays j stay
    obtain ⟨own, present, normal⟩ := bindable h j was
    refine ⟨house.trans own, ?_, condition.trans normal⟩
    unfold Station.present at *
    rw [trim]; exact present
  · rw [State.boundEntry_eq_none, queues]
    by_cases hg : gone j
    · exact iff_of_true (held j hg) fun h => h.1 hg
    · obtain ⟨house, -, -, mode⟩ := stays j hg
      rw [mode, house, counters, State.boundEntry_eq_none]
      exact not_congr (by simp [hg])

theorem Seated.keep {s t : State} (hs : Seated s)
    (queues : ∀ h j, j ∈ boundStations (t.house h).queue ↔ j ∈ boundStations (s.house h).queue)
    (stays : ∀ j, (s.station j).SameSeat (t.station j)) : Seated t :=
  hs.leave (fun _ => False) (fun h j => by simp [queues]) (fun j _ => stays j) fun _ => False.elim

/-- The invariant through a change that leaves every running order and engine state alone. -/
theorem OrderInv.of_houses {s t : State} (hs : OrderInv s)
    (houses : ∀ h, (t.house h).engine = (s.house h).engine ∧ (t.house h).queue = (s.house h).queue)
    (stays : ∀ j, (s.station j).SameSeat (t.station j)) : OrderInv t := by
  rw [orderInv_iff] at *
  refine ⟨fun h => ?_, hs.2.keep (fun h j => ?_) stays⟩
  · rw [(houses h).1, (houses h).2]; exact hs.1 h
  · rw [(houses h).2]

theorem OrderInv.modStation {s : State} (hs : OrderInv s) (i : StationId) (f : Station → Station)
    (hf : (s.station i).SameSeat (f (s.station i))) : OrderInv (s.modStation i f) :=
  hs.of_houses (fun _ => ⟨rfl, rfl⟩) (s.modStation_seat i f hf)

/-- The invariant through a change of one house that unbinds no station. -/
theorem OrderInv.modHouse {s : State} (hs : OrderInv s) (h : HouseId) (f : House → House)
    (ordered : OrderOk (s.house h).engine (s.house h).queue → OrderOk (f (s.house h)).engine (f (s.house h)).queue)
    (bound : ∀ j, j ∈ boundStations (f (s.house h)).queue ↔ j ∈ boundStations (s.house h).queue) :
    OrderInv (s.modHouse h f) := by
  rw [orderInv_iff] at *
  refine ⟨fun k => ?_, hs.2.keep (fun k j => ?_) fun j => Station.SameSeat.refl _⟩ <;> rw [State.house_modHouse] <;> split
  · exact ordered (hs.1 h)
  · exact hs.1 k
  · rename_i hk; rw [hk]; exact bound j
  · exact Iff.rfl

/-- The invariant through a change that takes one station from its house, if it was bound there. -/
theorem OrderInv.detach {s t : State} (hs : OrderInv s) (i : StationId)
    (ordered : OrderOk (t.house (s.station i).house).engine (t.house (s.station i).house).queue)
    (bound : ∀ j, j ∈ boundStations (t.house (s.station i).house).queue ↔
      j ≠ i ∧ j ∈ boundStations (s.house (s.station i).house).queue)
    (other : ∀ k, k ≠ (s.station i).house → t.house k = s.house k)
    (stays : ∀ j, j ≠ i → (s.station j).SameSeat (t.station j))
    (held : (t.station i).counterMode = .hold) : OrderInv t := by
  rw [orderInv_iff] at *
  refine ⟨fun k => ?_, hs.2.leave (· = i) (fun k j => ?_) stays fun j hj => hj ▸ held⟩ <;>
    by_cases hk : k = (s.station i).house
  · rw [hk]; exact ordered
  · rw [other k hk]; exact hs.1 k
  · rw [hk]; exact bound j
  · rw [other k hk]
    refine ⟨fun hj => ⟨?_, hj⟩, fun hj => hj.2⟩
    rintro rfl
    exact hk (hs.2.house hj).symm

theorem State.removeEntry_house (s : State) (i : StationId) (k : HouseId) : (s.removeEntry i).house k =
    if k = (s.station i).house then
      { s.house (s.station i).house with queue := dropEntry (s.house (s.station i).house).queue i }
    else s.house k :=
  s.house_modHouse (s.station i).house k fun hs => { hs with queue := dropEntry hs.queue i }

/-- A bound entry leaves its running order, and its house makes of it what it makes (R40). -/
theorem OrderInv.entryLeaves {s : State} (hs : OrderInv s) (i : StationId) (f : House → House)
    (queue : (f ((s.removeEntry i).house (s.station i).house)).queue =
      ((s.removeEntry i).house (s.station i).house).queue)
    (ordered : OrderOk (f ((s.removeEntry i).house (s.station i).house)).engine
      (dropEntry (s.house (s.station i).house).queue i)) :
    OrderInv ((s.removeEntry i).modHouse (s.station i).house f) := by
  have front := (((orderInv_iff s).1 hs).1 (s.station i).house).queue
  have left : (((s.removeEntry i).modHouse (s.station i).house f).house (s.station i).house).queue =
      dropEntry (s.house (s.station i).house).queue i := by
    rw [State.house_modHouse_same, queue, State.removeEntry_house, if_pos rfl]
  refine hs.detach i ?_ (fun j => ?_) (fun k hk => ?_) (fun j hj => ?_) ?_
  · rw [left, State.house_modHouse_same]; exact ordered
  · rw [left]; exact mem_boundStations_dropEntry front i j
  · rw [State.house_modHouse_other _ _ hk, State.removeEntry_house, if_neg hk]
  · show (s.station j).SameSeat (((s.modQueue _ _).holdCounter i).station j)
    rw [State.station_holdCounter, if_neg hj]
    exact Station.SameSeat.refl _
  · show (((s.modQueue _ _).holdCounter i).station i).counterMode = _
    rw [State.station_holdCounter, if_pos rfl]

theorem State.modHouse_id (s : State) (h : HouseId) : (s.modHouse h fun hs => hs) = s := by
  cases h <;> rfl

/-! ### The changes of `Edit` -/

theorem EngineState.showing_of_active {e : EngineState} (h : e.showing = true) :
    e ∉ [.idle, .ready, .starting, .suspended] := by
  cases e <;> simp_all [EngineState.showing]

/-- A running order stands through a change between two engine states that show a picture. -/
theorem OrderOk.showing {a b : EngineState} {q : List Entry} (h : OrderOk a q) (ha : a.showing = true)
    (hb : b.showing = true) : OrderOk b q := by
  have off := EngineState.showing_of_active hb
  refine ⟨h.queue, iff_of_true (h.plays.2 ha) hb, fun _ _ _ => off, ?_, ?_, ?_⟩ <;> rintro rfl <;> cases hb

/-- A house whose head is THREADED begins a show (R45). -/
theorem OrderOk.begin {engine : EngineState} {q : List Entry} (h : OrderOk engine q)
    (was : engine.startable = true) {a : Entry} (ha : a ∈ q.head?) (threaded : a.status = .threaded) :
    OrderOk .starting q := by
  have still := h.still (by cases engine <;> first | rfl | cases was)
  refine ⟨h.queue, iff_of_false (fun ⟨e, he, hp⟩ => still e he hp) nofun, fun e he hr => ?_, nofun, nofun,
    fun _ => ⟨a, ha, threaded⟩⟩
  obtain ⟨l, rfl⟩ := h.queue.runOut_head he hr
  cases ha
  rw [threaded] at hr
  cases hr

theorem House.threadedHead_eq_some {hs : House} {i : StationId} (h : hs.threadedHead = some i) :
    ∃ a ∈ hs.queue.head?, a.status = .threaded := by
  unfold House.threadedHead at h
  split at h
  · cases h
  · rename_i e l hq
    split at h
    · rename_i he
      exact ⟨e, by rw [hq]; rfl, he⟩
    · cases h

theorem House.startStation_eq_some {hs : House} {i : StationId} (h : hs.startStation = some i) :
    hs.engine = .starting ∧ hs.queue.head?.bind (·.bound) = some i := by
  unfold House.startStation at h
  split at h
  · exact ⟨‹_›, h⟩
  · cases h

theorem House.onScreen_eq_some {hs : House} {i : StationId} (h : hs.onScreen = some i) :
    hs.engine.showing = true ∧ (hs.queue.find? fun e => e.status == .playing).bind (·.bound) = some i := by
  unfold House.onScreen at h
  split at h
  · exact ⟨‹_›, h⟩
  · cases h

theorem House.incoming_eq_some {hs : House} {i : StationId} (h : hs.incoming = some i) :
    ((playingIndex hs.queue).bind fun k => hs.queue[k + 1]?).bind (·.bound) = some i := by
  unfold House.incoming at h
  split at h
  · exact h
  · cases h

theorem edit_keeps_orderInv (s t : State) (h : Edit s t) (hs : OrderInv s) : OrderInv t := by
  obtain ⟨orders, seated⟩ := (orderInv_iff s).1 hs
  have unbinds : ∀ {q q' : List Entry}, boundStations q' = boundStations q →
      ∀ j, j ∈ boundStations q' ↔ j ∈ boundStations q := fun h j => by rw [h]
  cases h with
  | stop i =>
    refine hs.modStation i _ ?_
    unfold Station.stopMotor
    split <;> exact Station.SameSeat.refl _
  | start i =>
    refine hs.modStation i _ ?_
    unfold Station.startMotor
    split <;> exact Station.SameSeat.refl _
  | shutter i d c => exact hs.modStation i _ (Station.SameSeat.refl _)
  | mark i m => exact hs.modStation i _ (Station.SameSeat.refl _)
  | trip i cause =>
    refine hs.of_houses (fun h => by rw [State.house_of_houses (s.tripStation_houses i cause)]; exact ⟨rfl, rfl⟩)
      fun j => (s.modStation_seat i _ ?_ j).trans (State.extinguish_body _ i j).seat
    unfold Station.stopMotor
    split <;> exact Station.SameSeat.refl _
  | extinguish i =>
    exact hs.of_houses (fun h => by rw [State.house_of_houses (s.extinguish_houses i)]; exact ⟨rfl, rfl⟩)
      fun j => (s.extinguish_body i j).seat
  | strike i =>
    exact hs.of_houses (fun h => by rw [State.house_of_houses (s.takeStrike_houses i)]; exact ⟨rfl, rfl⟩)
      fun j => (s.takeStrike_body i j).seat
  | note h f noted =>
    obtain ⟨engine, queue, -⟩ := noted
    exact hs.modHouse h f (fun ok => by rw [engine, queue]; exact ok) (unbinds (by rw [queue]))
  | fade h level time => exact hs.modHouse h _ (fun ok => ok) fun _ => Iff.rfl
  | fireLayer h => exact hs.modHouse h _ (fun ok => ok) fun _ => Iff.rfl
  | cue h f was shows queue =>
    exact hs.modHouse h f (fun ok => by rw [queue]; exact ok.showing was shows) (unbinds (by rw [queue]))
  | begin h f i was head starts queue =>
    obtain ⟨a, ha, threaded⟩ := House.threadedHead_eq_some head
    exact hs.modHouse h f (fun ok => by rw [starts, queue]; exact ok.begin was ha threaded) (unbinds (by rw [queue]))
  | picture h f i was plays queue =>
    obtain ⟨starting, head⟩ := House.startStation_eq_some was
    refine hs.modHouse h f (fun ok => ?_) (unbinds (by rw [queue, boundStations_setStatus]))
    rw [starting] at ok
    rw [plays, queue]
    exact ok.picture head
  | change h out inc was next =>
    obtain ⟨showing, playing⟩ := House.onScreen_eq_some was
    exact hs.modHouse h _ (fun ok => ok.change showing playing (House.incoming_eq_some next))
      (unbinds (by rw [boundStations_setStatus, boundStations_setStatus]))
  | fault h f was faults queue =>
    exact hs.modHouse h f (fun ok => by rw [faults, queue]; exact ok.fault)
      (unbinds (by rw [queue, boundStations_stopPlaying]))
  | reelOff h i f own was ended =>
    obtain ⟨-, playing⟩ := House.onScreen_eq_some was
    obtain ⟨e, he, be⟩ := Option.bind_eq_some_iff.1 playing
    subst own
    obtain ⟨queue, -, none_, some_⟩ := ended
    have left : ((s.removeEntry i).house (s.station i).house).queue = dropEntry (s.house (s.station i).house).queue i := by
      rw [State.removeEntry_house, if_pos rfl]
    rw [left] at none_ some_
    exact hs.entryLeaves i f queue ((orders _).ended (List.mem_of_find?_eq_some he) be
      (by simpa using List.find?_some he) none_ some_)
  | runOutLeaves i e bound status =>
    obtain ⟨he, be⟩ := entryOf_eq_some bound
    have left := hs.entryLeaves i (fun a => a) rfl (by
      rw [State.removeEntry_house, if_pos rfl]
      exact (orders _).runOutLeaves he be status)
    rwa [State.modHouse_id] at left
  | ready h =>
    exact hs.modHouse h _ (fun ok => House.readyTest_ordered ok.queue ok.plays ok.runOut ok.starting)
      (unbinds (by rw [House.readyTest_queue]))
  | _ => exact hs

/-! ### The changes of rows to one running order -/

theorem QueueOk.of_waits {q : List Entry} (h : ∀ e ∈ q, e.Waits) : QueueOk q := by
  refine (queueOk_iff q).2 ⟨fun e he => (h e he).ok, fun e he => (h e (List.mem_of_mem_drop he)).1,
    by rw [boundStations_waits h]; exact List.nodup_nil, fun e he => ?_, fun e he hp => ?_⟩
  · rw [(h e (List.mem_of_mem_drop he)).2]; nofun
  · rw [(h e (List.mem_of_mem_drop he)).2] at hp; cases hp

/-- A WAITING entry joins where no entry behind it is bound (R29, R31). -/
theorem QueueOk.insertIdx {q : List Entry} (h : QueueOk q) {k : Nat} {e : Entry} (he : e.Waits)
    (behind : boundFrom q k = false) : QueueOk (q.insertIdx k e) := by
  have free : ∀ x ∈ q.drop k, x.Waits := fun x hx =>
    (h.entry (List.mem_of_mem_drop hx)).waits_of_unbound (by
      have := List.any_eq_false.1 behind x hx
      simpa using this)
  have before : ∀ a : Entry, a.Ok → a.Before e := fun a ha =>
    ⟨ha, he.ok, fun _ _ => by rw [he.1]; nofun, by rw [he.2]; nofun, by rw [he.2]; nofun⟩
  match k, q with
  | 0, q =>
    refine QueueOk.of_waits fun x hx => ?_
    rcases List.mem_cons.1 hx with rfl | hx
    · exact he
    · exact free x hx
  | k + 1, [] => simp [QueueOk]
  | 1, [a] => exact ⟨before a h, by simp⟩
  | 1, a :: b :: rest =>
    exact ⟨before a h.1.1, fun x hx => free x hx⟩
  | k + 2, [a] => exact h
  | k + 2, a :: b :: rest =>
    refine ⟨h.1, fun x hx => ?_⟩
    rcases List.eq_or_mem_of_mem_insertIdx hx with rfl | hx
    · exact he
    · exact h.2 x hx

/-- A station is threaded with the first unbound entry (R37, R38). -/
theorem QueueOk.thread {q : List Entry} (h : QueueOk q) {k : Nat} {e : Entry} (entry : q[k]? = some e)
    (waiting : e.status = .waiting) {i : StationId} (free : i ∉ boundStations q) (front : k ≤ 1) :
    QueueOk (q.set k { e with status := .threaded, bound := some i }) := by
  have ok : ({ e with status := .threaded, bound := some i } : Entry).Ok := ⟨fun _ => nofun, fun _ => rfl⟩
  have apart : ∀ x ∈ q, x.bound ≠ some i := fun x hx bx => free (mem_boundStations.2 ⟨x, hx, bx⟩)
  rcases q with _ | ⟨a, _ | ⟨b, rest⟩⟩
  · cases entry
  · match k, front with
    | 0, _ => exact ok
    | 1, _ => cases entry
  · obtain ⟨⟨ha, hb, -, stays, plays⟩, waits⟩ := h
    match k, front with
    | 0, _ =>
      obtain rfl : a = e := by simpa using entry
      refine ⟨⟨ok, hb, ?_, stays, fun hp => absurd (plays hp) (by rw [waiting]; nofun)⟩, waits⟩
      rintro j ⟨⟩
      exact apart b (by simp)
    | 1, _ =>
      refine ⟨⟨ha, ok, fun j hj hj' => ?_, nofun, nofun⟩, waits⟩
      cases hj'
      exact apart a (by simp) hj

/-- A station's entry, neither PLAYING nor RUN-OUT, is WAITING again (R35, R39). -/
theorem QueueOk.unbindEntry {q : List Entry} (h : QueueOk q) {i : StationId}
    (stays : ∀ e ∈ q, e.bound = some i → e.status ≠ .runOut) : QueueOk (unbindEntry q i) := by
  have ok : ∀ e : Entry, e.Ok → (if e.bound = some i then { e with status := .waiting, bound := none } else e).Ok := by
    intro e he
    split
    · exact ⟨nofun, fun h => absurd rfl h⟩
    · exact he
  refine h.map (fun e he => if_neg (by rw [he.1]; nofun)) (fun e _ he => ok e he) fun a ha b _ hab => ?_
  obtain ⟨oka, okb, apart, left, plays⟩ := hab
  refine ⟨ok a oka, ok b okb, fun j => ?_, ?_, ?_⟩
  · split
    · nofun
    · intro hj
      split
      · nofun
      · exact apart j hj
  · split
    · nofun
    · exact left
  · intro hp
    have hp : b.status = .playing := by split at hp <;> [cases hp; exact hp]
    rw [if_neg fun hb => stays a ha hb (plays hp)]
    exact plays hp

theorem mem_unbindEntry {q : List Entry} {i : StationId} {e : Entry} (h : e ∈ unbindEntry q i) :
    e.Waits ∨ e ∈ q ∧ e.bound ≠ some i := by
  obtain ⟨x, hx, rfl⟩ := List.mem_map.1 h
  split
  · exact .inl ⟨rfl, rfl⟩
  · exact .inr ⟨hx, ‹_›⟩

theorem mem_unbindEntry_of_ne {q : List Entry} {i : StationId} {e : Entry} (he : e ∈ q) (be : e.bound ≠ some i) :
    e ∈ unbindEntry q i :=
  List.mem_map.2 ⟨e, he, if_neg be⟩

theorem mem_boundStations_unbindEntry (q : List Entry) (i j : StationId) :
    j ∈ boundStations (unbindEntry q i) ↔ j ≠ i ∧ j ∈ boundStations q := by
  simp only [mem_boundStations]
  constructor
  · rintro ⟨e, he, bj⟩
    obtain ⟨none_, -⟩ | ⟨hq, be⟩ := mem_unbindEntry he
    · rw [none_] at bj; cases bj
    · refine ⟨?_, e, hq, bj⟩
      rintro rfl
      exact be bj
  · rintro ⟨hj, e, he, bj⟩
    exact ⟨e, mem_unbindEntry_of_ne he (by rw [bj]; simpa using hj), bj⟩

/-- An entry that is unbound while it is neither PLAYING nor RUN-OUT nor the head of a STARTING house: the order stands,
its READY or IDLE house to take the test of R41. -/
theorem OrderOk.unbind {hs : House} (h : OrderOk hs.engine hs.queue) {i : StationId} {e : Entry}
    (he : entryOf hs.queue i = some e) (still : e.status ≠ .playing) (stays : e.status ≠ .runOut)
    (start : hs.startStation ≠ some i) (other : House) (engine : other.engine = hs.engine)
    (queue : other.queue = Machine.unbindEntry hs.queue i) :
    OrderOk other.readyTest.engine other.readyTest.queue := by
  obtain ⟨hmem, be⟩ := entryOf_eq_some he
  have own : ∀ x ∈ hs.queue, x.bound = some i → x = e := fun x hx bx => h.queue.bound_inj hx hmem bx be
  refine House.readyTest_ordered ?_ ?_ (fun x hx hr => ?_) fun hst => ?_
  · rw [queue]
    exact h.queue.unbindEntry fun x hx bx => own x hx bx ▸ stays
  · rw [queue, engine, ← h.plays]
    constructor
    · rintro ⟨x, hx, hp⟩
      obtain ⟨-, waiting⟩ | ⟨hq, -⟩ := mem_unbindEntry hx
      · rw [waiting] at hp; cases hp
      · exact ⟨x, hq, hp⟩
    · rintro ⟨x, hx, hp⟩
      exact ⟨x, mem_unbindEntry_of_ne hx fun bx => still (own x hx bx ▸ hp), hp⟩
  · rw [queue] at hx
    rw [engine]
    obtain ⟨-, waiting⟩ | ⟨hq, -⟩ := mem_unbindEntry hx
    · rw [waiting] at hr; cases hr
    · exact h.runOut x hq hr
  · rw [engine] at hst
    obtain ⟨a, ha, threaded⟩ := h.starting hst
    rw [queue]
    unfold House.startStation at start
    rw [if_pos hst] at start
    cases hq : hs.queue with
    | nil => rw [hq] at ha; cases ha
    | cons b l =>
      rw [hq] at ha start
      cases ha
      have stays : a.bound ≠ some i := start
      exact ⟨a, by simp [Machine.unbindEntry, stays], threaded⟩

theorem House.emptyTest_ordered {hs : House} (h : OrderOk hs.engine hs.queue) :
    OrderOk hs.emptyTest.engine hs.emptyTest.queue := by
  have empty : hs.queue.isEmpty = true → OrderOk hs.toIdle.engine hs.toIdle.queue := by
    intro he
    rw [List.isEmpty_iff] at he
    exact House.toIdle_ordered h.queue (by simp [he]) (by simp [he])
  unfold House.emptyTest
  split
  · split
    · exact empty ‹_›
    · exact h
  · split
    · exact empty ‹_›
    · exact h
  · exact h

/-! ### The changes of rows -/

/-- The invariant through a change that binds one station in its house. -/
theorem OrderInv.attach {s t : State} (hs : OrderInv s) (i : StationId)
    (ordered : OrderOk (t.house (s.station i).house).engine (t.house (s.station i).house).queue)
    (bound : ∀ j, j ∈ boundStations (t.house (s.station i).house).queue ↔
      j = i ∨ j ∈ boundStations (s.house (s.station i).house).queue)
    (other : ∀ k, k ≠ (s.station i).house → t.house k = s.house k)
    (stays : ∀ j, j ≠ i → (s.station j).SameSeat (t.station j))
    (seat : t.bindable (s.station i).house i) (runs : (t.station i).counterMode ≠ .hold) : OrderInv t := by
  rw [orderInv_iff] at *
  obtain ⟨orders, bindable, counters⟩ := hs
  refine ⟨fun k => ?_, fun k j hj => ?_, fun j => ?_⟩
  · by_cases hk : k = (s.station i).house
    · rw [hk]; exact ordered
    · rw [other k hk]; exact orders k
  · by_cases hji : j = i
    · subst hji
      by_cases hk : k = (s.station j).house
      · rw [hk]; exact seat
      · rw [other k hk] at hj
        exact absurd (bindable k j hj).1.symm hk
    · have was : j ∈ boundStations (s.house k).queue := by
        by_cases hk : k = (s.station i).house
        · rw [hk] at hj ⊢
          exact ((bound j).1 hj).resolve_left hji
        · rwa [other k hk] at hj
      obtain ⟨house, trim, condition, -⟩ := stays j hji
      obtain ⟨own, present, normal⟩ := bindable k j was
      refine ⟨house.trans own, ?_, condition.trans normal⟩
      unfold Station.present at *
      rw [trim]; exact present
  · rw [State.boundEntry_eq_none]
    by_cases hji : j = i
    · subst hji
      refine iff_of_false runs fun h => h ?_
      rw [seat.1]
      exact (bound j).2 (.inl rfl)
    · obtain ⟨house, -, -, mode⟩ := stays j hji
      rw [mode, house, counters, State.boundEntry_eq_none]
      refine not_congr ?_
      by_cases hk : (s.station j).house = (s.station i).house
      · rw [hk, bound]
        simp [hji]
      · rw [other _ hk]

/-- What a station loses with its binding (R20, R39): its entry RUN-OUT leaves, any other is WAITING again. -/
theorem OrderInv.unseat {s : State} (hs : OrderInv s) (i : StationId) (f : Station → Station)
    (held : (f ((s.dropBinding i).station i)).counterMode = .hold) (still : ∀ e, s.boundEntry i = some e → e.status ≠ .playing)
    (start : (s.house (s.station i).house).startStation ≠ some i) :
    OrderInv (((s.dropBinding i).modStation i f).readyTest (s.station i).house) := by
  have ok := ((orderInv_iff s).1 hs).1 (s.station i).house
  have station : ∀ j, j ≠ i → (s.station j).SameSeat ((((s.dropBinding i).modStation i f).readyTest
      (s.station i).house).station j) := by
    intro j hj
    show (s.station j).SameSeat (((s.dropBinding i).modStation i f).station j)
    rw [State.station_modStation, if_neg hj]
    unfold State.dropBinding
    split
    · split
      · show (s.station j).SameSeat (((s.modQueue _ _).holdCounter i).station j)
        rw [State.station_holdCounter, if_neg hj]
        exact Station.SameSeat.refl _
      · exact Station.SameSeat.refl _
    · exact Station.SameSeat.refl _
  have own : (((s.dropBinding i).modStation i f).readyTest (s.station i).house).house (s.station i).house =
      ((s.dropBinding i).house (s.station i).house).readyTest := State.house_modHouse_same _ _ _
  have engine : ((s.dropBinding i).house (s.station i).house).engine = (s.house (s.station i).house).engine := by
    unfold State.dropBinding
    split
    · split
      · rw [State.removeEntry_house, if_pos rfl]
      · unfold State.modQueue; rw [State.house_modHouse_same]
    · rfl
  refine hs.detach i ?_ (fun j => ?_) (fun k hk => ?_) station ?_
  · rw [own]
    unfold State.dropBinding
    cases hb : s.boundEntry i with
    | none => exact House.readyTest_ordered ok.queue ok.plays ok.runOut ok.starting
    | some e =>
      dsimp only
      split
      · rename_i hr
        obtain ⟨he, be⟩ := entryOf_eq_some hb
        have left := ok.runOutLeaves he be hr
        rw [State.removeEntry_house, if_pos rfl]
        exact House.readyTest_ordered (hs := { s.house (s.station i).house with
          queue := dropEntry (s.house (s.station i).house).queue i }) left.queue left.plays left.runOut left.starting
      · rename_i hr
        refine ok.unbind hb (still e hb) hr start _ ?_ ?_ <;> unfold State.modQueue <;> rw [State.house_modHouse_same]
  · rw [own, House.readyTest_queue]
    unfold State.dropBinding
    cases hb : s.boundEntry i with
    | none =>
      refine ⟨fun hj => ⟨?_, hj⟩, fun hj => hj.2⟩
      rintro rfl
      exact (State.boundEntry_eq_none.1 hb) hj
    | some e =>
      dsimp only
      split
      · rw [State.removeEntry_house, if_pos rfl]
        exact mem_boundStations_dropEntry ok.queue i j
      · unfold State.modQueue
        rw [State.house_modHouse_same]
        exact mem_boundStations_unbindEntry _ i j
  · show ((((s.dropBinding i).modStation i f).modHouse _ _).house k) = _
    rw [State.house_modHouse_other _ _ hk]
    show (s.dropBinding i).house k = _
    unfold State.dropBinding
    split
    · split
      · rw [State.removeEntry_house, if_neg hk]
      · exact State.house_modHouse_other _ _ hk
    · rfl
  · show (((s.dropBinding i).modStation i f).station i).counterMode = _
    rw [State.station_modStation, if_pos rfl]
    exact held

/-- A station that plays no role in its house is not the start-sequence station, and its entry is not PLAYING (R43). -/
theorem State.not_engaged {s : State} (hs : OrderInv s) {i : StationId} (h : s.engaged i = false) :
    (s.house (s.station i).house).startStation ≠ some i ∧ ∀ e, s.boundEntry i = some e → e.status ≠ .playing := by
  have ok := ((orderInv_iff s).1 hs).1 (s.station i).house
  unfold State.engaged at h
  simp only [Bool.or_eq_false_iff, beq_eq_false_iff_ne] at h
  obtain ⟨⟨start, screen⟩, -⟩ := h
  refine ⟨start, fun e he hp => screen ?_⟩
  obtain ⟨hq, be⟩ := entryOf_eq_some he
  unfold House.onScreen House.playing
  rw [if_pos (ok.plays.1 ⟨e, hq, hp⟩)]
  cases hf : (s.house (s.station i).house).queue.find? fun e => e.status == .playing with
  | none => exact absurd (by simpa using hp) (List.find?_eq_none.1 hf e hq)
  | some x =>
    have same := ok.queue.playing_inj (List.mem_of_find?_eq_some hf) hq (by simpa using List.find?_some hf) hp
    rw [same]
    exact be

/-- What a booth trip, or EN, leaves of a station's entry: it is not RUN-OUT (R40, R60, R155). -/
def NotRunOut (i : StationId) (s : State) : Prop :=
  ∀ h, ∀ e ∈ (s.house h).queue, e.bound = some i → e.status ≠ .runOut

theorem NotRunOut.of_houses {s t : State} {i : StationId} (hs : NotRunOut i s) (h : t.houses = s.houses) :
    NotRunOut i t := fun k => by rw [State.house_of_houses h]; exact hs k

theorem NotRunOut.dropRunOut {s : State} {i : StationId} (hs : NotRunOut i s) (k : StationId) :
    NotRunOut i (s.dropRunOut k) := by
  unfold State.dropRunOut
  split
  · split
    · intro h e he
      rw [State.removeEntry_house] at he
      split at he
      · exact hs _ e (List.mem_of_mem_eraseP he)
      · exact hs h e he
    · exact hs
  · exact hs

theorem State.dropRunOut_notRunOut {s : State} (hs : OrderInv s) (i : StationId) : NotRunOut i (s.dropRunOut i) := by
  obtain ⟨orders, seated⟩ := (orderInv_iff s).1 hs
  have entry : ∀ h, ∀ e ∈ (s.house h).queue, e.bound = some i → (s.station i).house = h ∧ s.boundEntry i = some e := by
    intro h e he be
    have own := seated.house (mem_boundStations.2 ⟨e, he, be⟩)
    refine ⟨own, ?_⟩
    unfold State.boundEntry
    rw [own]
    exact (orders h).queue.entryOf_eq he be
  intro h e he be hr
  unfold State.dropRunOut at he
  cases hb : s.boundEntry i with
  | none =>
    rw [hb] at he
    rw [(entry h e he be).2] at hb
    cases hb
  | some x =>
    rw [hb] at he
    dsimp only at he
    split at he
    · rw [State.removeEntry_house] at he
      split at he
      · exact ((mem_dropEntry (orders _).queue).1 he).2 be
      · rename_i hh
        exact hh (entry h e he be).1.symm
    · rename_i hx
      obtain ⟨-, h'⟩ := entry h e he be
      rw [hb] at h'
      cases h'
      exact hx hr

theorem OrderInv.left {s : State} (hs : OrderInv s) {h : HouseId}
    (left : ∀ i, (s.station i).house = h → NotRunOut i s) : ∀ e ∈ (s.house h).queue, e.status ≠ .runOut := by
  obtain ⟨orders, seated⟩ := (orderInv_iff s).1 hs
  intro e he hr
  have bound := ((orders h).queue.entry he).2 (by rw [hr]; nofun)
  obtain ⟨i, hi⟩ := Option.isSome_iff_exists.1 bound
  exact left i (seated.house (mem_boundStations.2 ⟨e, he, hi⟩)) h e he hi hr

theorem OrderInv.edits {s t : State} (hs : OrderInv s) (h : Edits s t) : OrderInv t := h.keeps edit_keeps_orderInv hs

theorem State.tripBooth_houses (s : State) (i : StationId) : (s.tripBooth i).houses = s.houses := by
  unfold State.tripBooth
  split
  · exact s.tripStation_houses i .booth
  · rfl

theorem OrderInv.endShow {s : State} (hs : OrderInv s) (h : HouseId) : OrderInv (s.endShow h) := by
  unfold State.endShow
  dsimp only
  have closed := hs.edits (Edits.forStations s (s.stationsOf h) _ fun i t => t.closeDown_edits i)
  have house : ∀ i, ((s.forStations (s.stationsOf h) fun i t => t.closeDown i).station i).house = (s.station i).house := by
    intro i
    exact (Edits.forStations s (s.stationsOf h) _ fun i t => t.closeDown_edits i).keeps
      (P := fun t => (t.station i).house = (s.station i).house) (fun _ _ e k => (e.under i).2.1.trans k) rfl
  generalize (s.forStations (s.stationsOf h) fun i t => t.closeDown i) = t at closed house
  have dropped := closed.edits (Edits.forStations t (s.stationsOf h) _ fun i t => t.dropRunOut_edits i)
  have own : ∀ i, ((t.forStations (s.stationsOf h) fun i t => t.dropRunOut i).station i).house = (s.station i).house := by
    intro i
    exact (Edits.forStations t (s.stationsOf h) _ fun i t => t.dropRunOut_edits i).keeps
      (P := fun u => (u.station i).house = (s.station i).house) (fun _ _ e k => (e.under i).2.1.trans k) (house i)
  have left := dropped.left (h := h) fun i hi => forStations_each (P := NotRunOut) (Q := OrderInv)
    (fun i u hu => State.dropRunOut_notRunOut hu i) (fun i j u hu => NotRunOut.dropRunOut hu i)
    (fun i u hu => hu.edits (u.dropRunOut_edits i)) closed
    (List.mem_filter.2 ⟨i.mem_all, by simpa using (own i).symm.trans hi⟩)
  generalize (t.forStations (s.stationsOf h) fun i t => t.dropRunOut i) = u at dropped left
  have faded := dropped.edits (u.holdFade_edits h)
  have queue : ((u.holdFade h).house h).queue = (u.house h).queue := by
    unfold State.holdFade State.fade State.modLight
    rw [State.house_modHouse_same]
  refine faded.modHouse h _ (fun ok => ?_) fun j => ?_
  · exact OrderOk.closed ok.queue (by rw [queue]; exact left) _ rfl
  · rw [(House.toIdle_sameShow _).1]
    show j ∈ boundStations (stopPlaying _) ↔ _
    rw [boundStations_stopPlaying]

theorem OrderInv.suspends {s : State} (hs : OrderInv s) {h : HouseId}
    (left : ∀ e ∈ (s.house h).queue, e.status ≠ .runOut) : OrderInv (s.modHouse h House.toSuspended) :=
  hs.modHouse h _ (fun ok => ok.suspended left) fun j => by
    show j ∈ boundStations (stopPlaying _) ↔ _
    rw [boundStations_stopPlaying]

/-- A booth trip: the RUN-OUT entries leave before the houses are suspended (R155, R158). -/
theorem OrderInv.boothTripActions {s : State} (hs : OrderInv s) (cause : BoothCause) :
    OrderInv (s.boothTripActions cause) := by
  unfold State.boothTripActions
  dsimp only
  have start : OrderInv { s with fire := { s.fire with booth := some cause } } := hs
  generalize ({ s with fire := { s.fire with booth := some cause } } : State) = t at start
  have step : ∀ (u : State) i, Edits u ((u.tripBooth i).dropRunOut i) := fun u i =>
    (u.tripBooth_edits i).trans (State.dropRunOut_edits _ i)
  have dropped := start.edits (Edits.forStations t StationId.all _ fun i u => step u i)
  have left : ∀ i, NotRunOut i (t.forStations StationId.all fun i u => (u.tripBooth i).dropRunOut i) := fun i =>
    forStations_each (P := NotRunOut) (Q := OrderInv)
      (fun i u hu => State.dropRunOut_notRunOut (hu.edits (u.tripBooth_edits i)) i)
      (fun i j u hu => NotRunOut.dropRunOut (hu.of_houses (u.tripBooth_houses i)) i)
      (fun i u hu => hu.edits (step u i)) start i.mem_all
  generalize (t.forStations StationId.all fun i u => (u.tripBooth i).dropRunOut i) = u at dropped left
  have keepsLeft : ∀ (v : State) i h (f : House → House), NotRunOut i v →
      (∀ e ∈ (f (v.house h)).queue, e.bound = some i → e.status = .runOut → ∃ x ∈ (v.house h).queue, x.bound = some i ∧
        x.status = .runOut) → NotRunOut i (v.modHouse h f) := by
    intro v i h f hv hf k e he be hr
    rw [State.house_modHouse] at he
    split at he
    · obtain ⟨x, hx, bx, rx⟩ := hf e he be hr
      exact hv h x hx bx rx
    · exact hv k e he be hr
  suffices both : OrderInv (u.forHouses HouseId.all fun h u => u.tripBoothHouse h) ∧
      ∀ i, NotRunOut i (u.forHouses HouseId.all fun h u => u.tripBoothHouse h) from both.1
  refine State.forHouses_keeps (fun v => OrderInv v ∧ ∀ i, NotRunOut i v) _ (fun h v hv => ?_) _ _ ⟨dropped, left⟩
  obtain ⟨inv, left⟩ := hv
  unfold State.tripBoothHouse
  dsimp only
  have lit : ∀ w : State, OrderInv w ∧ (∀ i, NotRunOut i w) →
      OrderInv (w.gateAction h) ∧ ∀ i, NotRunOut i (w.gateAction h) := fun w hw =>
    ⟨hw.1.edits (w.gateAction_edits h), fun i =>
      keepsLeft _ i h (fun hs => { hs with releasePulse := true }) (keepsLeft w i h (fun hs => { hs with
        light := { hs.light with fire := .set } }) (hw.2 i) fun e he be hr => ⟨e, he, be, hr⟩)
        fun e he be hr => ⟨e, he, be, hr⟩⟩
  refine lit _ ?_
  split
  · exact ⟨inv, left⟩
  · unfold State.suspend
    split
    · exact ⟨inv, left⟩
    · have dark := inv.edits ((v.darkenHouse_edits h).trans (State.holdFade_edits _ h))
      have leftDark : ∀ i, NotRunOut i ((v.darkenHouse h).holdFade h) := fun i =>
        keepsLeft (v.darkenHouse h) i h (fun hs => { hs with light := hs.light.fadeStart _ _ })
          ((left i).of_houses (v.darkenHouse_houses h)) fun e he be hr => ⟨e, he, be, hr⟩
      refine ⟨dark.suspends (dark.left fun i _ => leftDark i), fun i => keepsLeft _ i h _ (leftDark i) ?_⟩
      intro e he be hr
      obtain ⟨-, x, hx, bx, rx⟩ := mem_stopPlaying he
      exact ⟨x, hx, bx ▸ be, rx hr⟩

/-- PC: every entry leaves, and every station bound in the order loses its binding (R33). -/
theorem State.clearBindings_station (l : List Entry) (s : State) (j : StationId) :
    (s.station j).house = ((l.foldl State.clearBinding s).station j).house ∧
      (j ∉ boundStations l → (s.station j).SameSeat ((l.foldl State.clearBinding s).station j)) ∧
      (j ∈ boundStations l → ((l.foldl State.clearBinding s).station j).counterMode = .hold) := by
  have one : ∀ (u : State) (e : Entry), (u.station j).house = ((u.clearBinding e).station j).house ∧
      (e.bound ≠ some j → (u.station j).SameSeat ((u.clearBinding e).station j)) ∧
      (((u.station j).counterMode = .hold ∨ e.bound = some j) → ((u.clearBinding e).station j).counterMode = .hold) := by
    intro u e
    unfold State.clearBinding
    cases hb : e.bound with
    | none => exact ⟨rfl, fun _ => Station.SameSeat.refl _, fun h => h.resolve_right nofun⟩
    | some i =>
      dsimp only
      rw [State.station_holdCounter]
      have stop : ∀ k, (u.station k).SameSeat ((if e.status = .runOut then u.stopMotor i else u).station k) := by
        intro k
        split
        · refine u.modStation_seat i _ ?_ k
          unfold Station.stopMotor
          split <;> exact Station.SameSeat.refl _
        · exact Station.SameSeat.refl _
      split
      · rename_i hj
        subst hj
        exact ⟨(stop j).1.symm, fun h => absurd rfl h, fun _ => rfl⟩
      · rename_i hj
        refine ⟨(stop j).1.symm, fun _ => stop j, fun h => ?_⟩
        rw [(stop j).2.2.2]
        exact h.resolve_right fun h => hj (by simpa using h.symm)
  induction l generalizing s with
  | nil => exact ⟨rfl, fun _ => Station.SameSeat.refl _, fun h => by cases h⟩
  | cons e l ih =>
    obtain ⟨house, stays, held⟩ := one s e
    obtain ⟨house', stays', held'⟩ := ih (s.clearBinding e)
    have bound : j ∈ boundStations (e :: l) ↔ e.bound = some j ∨ j ∈ boundStations l := by
      simp [mem_boundStations]
    refine ⟨house.trans house', fun h => ?_, fun h => ?_⟩
    · rw [bound, not_or] at h
      exact (stays h.1).trans (stays' h.2)
    · by_cases hl : j ∈ boundStations l
      · exact held' hl
      · rw [List.foldl_cons, (stays' hl).2.2.2]
        exact held (.inr ((bound.1 h).resolve_right hl))

theorem OrderInv.clear {s : State} (hs : OrderInv s) (h : HouseId)
    (was : (s.house h).engine ∈ [.idle, .ready, .hold, .interval]) :
    OrderInv (((s.house h).queue.foldl State.clearBinding s).modHouse h fun hs =>
      ({ hs with queue := [] } : House).readyTest.emptyTest) := by
  have houses : ((s.house h).queue.foldl State.clearBinding s).houses = s.houses :=
    foldl_keeps (P := fun u => u.houses = s.houses) _ (fun u e hu => (u.clearBinding_houses e).trans hu) _ s rfl
  have station := (s.house h).queue.foldl State.clearBinding s |>.station
  have seat := State.clearBindings_station (s.house h).queue s
  rw [orderInv_iff] at *
  obtain ⟨orders, seated⟩ := hs
  have empty : ∀ a : House, (({ a with queue := [] } : House).readyTest.emptyTest).queue = [] := fun a => by
    rw [(House.emptyTest_sameShow _).1, House.readyTest_queue]
  refine ⟨fun k => ?_, seated.leave (· ∈ boundStations (s.house h).queue) (fun k j => ?_)
    (fun j hj => (seat j).2.1 hj) fun j hj => (seat j).2.2 hj⟩ <;>
    rw [State.house_modHouse, State.house_of_houses houses, State.house_of_houses houses] <;> split
  · have off : (s.house h).engine.showing = false ∧ (s.house h).engine ≠ .starting := by
      simp only [List.mem_cons, List.not_mem_nil, or_false] at was
      rcases was with h | h | h | h <;> rw [h] <;> exact ⟨rfl, nofun⟩
    refine House.emptyTest_ordered (House.readyTest_ordered (hs := { s.house h with queue := [] }) trivial
      (iff_of_false (by simp) (by rw [off.1]; nofun)) (by simp) fun hst => absurd hst off.2)
  · exact orders k
  · rw [empty]
    rename_i hk
    rw [hk]
    exact iff_of_false (by simp [boundStations]) fun h => h.1 h.2
  · rename_i hk
    refine ⟨fun hj => ⟨fun hh => ?_, hj⟩, fun hj => hj.2⟩
    exact hk ((seated.house hj).symm.trans (seated.house hh))

theorem OrderInv.insert {s : State} (hs : OrderInv s) (h : HouseId) {k : Nat} {e : Entry}
    (place : k ≤ (s.house h).queue.length) (waits : e.Waits) (behind : boundFrom (s.house h).queue k = false) :
    OrderInv ((s.modQueue h fun q => q.insertIdx k e).readyTest h) := by
  unfold State.readyTest State.modQueue
  rw [State.modHouse_modHouse]
  have mem : ∀ x, x ∈ (s.house h).queue.insertIdx k e ↔ x = e ∨ x ∈ (s.house h).queue := fun x =>
    List.mem_insertIdx place
  refine hs.modHouse h _ (fun ok => ?_) fun j => ?_
  · refine House.readyTest_ordered (hs := { s.house h with queue := (s.house h).queue.insertIdx k e })
      (ok.queue.insertIdx waits behind) ?_ (fun x hx hr => ?_) fun hst => ?_
    · rw [← ok.plays]
      refine ⟨?_, fun ⟨x, hx, hp⟩ => ⟨x, (mem x).2 (.inr hx), hp⟩⟩
      rintro ⟨x, hx, hp⟩
      obtain rfl | hx := (mem x).1 hx
      · rw [waits.2] at hp; cases hp
      · exact ⟨x, hx, hp⟩
    · obtain rfl | hx := (mem x).1 hx
      · rw [waits.2] at hr; cases hr
      · exact ok.runOut x hx hr
    · obtain ⟨a, ha, threaded⟩ := ok.starting hst
      cases k with
      | zero =>
        have bound := (ok.queue.entry (List.mem_of_mem_head? ha)).2 (by rw [threaded]; nofun)
        have free := List.any_eq_false.1 behind a (List.mem_of_mem_head? ha)
        exact absurd bound free
      | succ k =>
        refine ⟨a, ?_, threaded⟩
        cases hq : (s.house h).queue with
        | nil => rw [hq] at ha; cases ha
        | cons b l => rw [hq] at ha; exact ha
  · rw [House.readyTest_queue, mem_boundStations, mem_boundStations]
    constructor
    · rintro ⟨x, hx, bx⟩
      obtain rfl | hx := (mem x).1 hx
      · rw [waits.1] at bx; cases bx
      · exact ⟨x, hx, bx⟩
    · rintro ⟨x, hx, bx⟩
      exact ⟨x, (mem x).2 (.inr hx), bx⟩

theorem OrderInv.delete {s : State} (hs : OrderInv s) (h : HouseId) {k : Nat} {e : Entry}
    (entry : (s.house h).queue[k]? = some e) (unbound : e.bound = none) (was : (s.house h).engine ≠ .starting) :
    OrderInv ((s.modQueue h fun q => q.eraseIdx k).modHouse h fun hs => hs.readyTest.emptyTest) := by
  unfold State.modQueue
  rw [State.modHouse_modHouse]
  have sub := List.eraseIdx_sublist (s.house h).queue k
  have kept : ∀ x ∈ (s.house h).queue, x.bound ≠ none → x ∈ (s.house h).queue.eraseIdx k := by
    intro x hx bx
    obtain ⟨m, hm, rfl⟩ := List.getElem_of_mem hx
    refine List.mem_eraseIdx_iff_getElem.2 ⟨m, hm, ?_, rfl⟩
    rintro rfl
    rw [List.getElem?_eq_getElem hm, Option.some.injEq] at entry
    exact bx (entry ▸ unbound)
  refine hs.modHouse h _ (fun ok => ?_) fun j => ?_
  · refine House.emptyTest_ordered (House.readyTest_ordered
      (hs := { s.house h with queue := (s.house h).queue.eraseIdx k }) (ok.queue.sublist sub) ?_
      (fun x hx => ok.runOut x (sub.subset hx)) fun hst => absurd hst was)
    rw [← ok.plays]
    refine ⟨fun ⟨x, hx, hp⟩ => ⟨x, sub.subset hx, hp⟩, fun ⟨x, hx, hp⟩ => ⟨x, kept x hx fun bx => ?_, hp⟩⟩
    have := (ok.queue.entry hx).2 (by rw [hp]; nofun)
    rw [bx] at this
    cases this
  · rw [(House.emptyTest_sameShow _).1, House.readyTest_queue, mem_boundStations, mem_boundStations]
    exact ⟨fun ⟨x, hx, bx⟩ => ⟨x, sub.subset hx, bx⟩, fun ⟨x, hx, bx⟩ => ⟨x, kept x hx (by rw [bx]; nofun), bx⟩⟩

/-- The conditions of TH, as they hold when it is taken (R37). -/
theorem State.threadBlocked_eq_false {s : State} {i : StationId} {k : Nat} {e : Entry}
    (h : s.threadBlocked i k e = false) :
    (s.station i).present = true ∧ s.boundEntry i = none ∧ e.status = .waiting ∧ k ≤ 1 := by
  unfold State.threadBlocked at h
  simp only [Bool.or_eq_false_iff, Bool.not_eq_false', bne_eq_false_iff_eq, decide_eq_false_iff_not, not_lt,
    Option.isSome_eq_false_iff, Option.isNone_iff_eq_none] at h
  obtain ⟨⟨⟨⟨⟨present, -⟩, unbound⟩, waiting⟩, front⟩, -⟩ := h
  exact ⟨present, unbound, waiting, front⟩

theorem State.house_modQueue (s : State) (h k : HouseId) (f : List Entry → List Entry) : (s.modQueue h f).house k =
    if k = h then { s.house h with queue := f (s.house h).queue } else s.house k :=
  s.house_modHouse h k fun hs => { hs with queue := f hs.queue }

theorem State.house_readyTest (s : State) (h k : HouseId) :
    (s.readyTest h).house k = if k = h then (s.house h).readyTest else s.house k :=
  s.house_modHouse h k House.readyTest

theorem State.house_threadCounter (s : State) (i : StationId) (k : HouseId) : (s.threadCounter i).house k = s.house k :=
  rfl

theorem State.station_threadCounter (s : State) (i j : StationId) : (s.threadCounter i).station j =
    if j = i then { s.station i with counter := 0, counterMode := .forward } else s.station j :=
  State.station_modStation s i j _

theorem OrderInv.thread {s : State} (hs : OrderInv s) {i : StationId} {k : Nat} {e : Entry}
    (condition : (s.station i).condition = .normal) (entry : (s.house (s.station i).house).queue[k]? = some e)
    (open_ : s.threadBlocked i k e = false) :
    OrderInv (((s.modQueue (s.station i).house fun q =>
      q.set k { e with status := .threaded, bound := some i }).threadCounter i).readyTest (s.station i).house) := by
  obtain ⟨present, unbound, waiting, front⟩ := State.threadBlocked_eq_false open_
  have ok := ((orderInv_iff s).1 hs).1 (s.station i).house
  have free := State.boundEntry_eq_none.1 unbound
  generalize hH : (s.station i).house = H at *
  have own : (((s.modQueue H fun q => q.set k { e with status := .threaded, bound := some i }).threadCounter i).readyTest
      H).house H = ({ s.house H with queue := (s.house H).queue.set k { e with status := .threaded, bound := some i } } :
        House).readyTest := by
    rw [State.house_readyTest, if_pos rfl, State.house_threadCounter, State.house_modQueue, if_pos rfl]
  have mem : ∀ x, x ∈ (s.house H).queue → x ≠ e →
      x ∈ (s.house H).queue.set k { e with status := .threaded, bound := some i } := by
    intro x hx hne
    obtain ⟨m, hm, rfl⟩ := List.getElem_of_mem hx
    have hmk : k ≠ m := by
      rintro rfl
      rw [List.getElem?_eq_getElem hm, Option.some.injEq] at entry
      exact hne entry
    exact List.mem_iff_getElem.2 ⟨m, by rw [List.length_set]; exact hm, by rw [List.getElem_set_ne hmk]⟩
  have new : ({ e with status := .threaded, bound := some i } : Entry) ∈
      (s.house H).queue.set k { e with status := .threaded, bound := some i } :=
    List.mem_set (by
      by_contra hk
      rw [List.getElem?_eq_none (by omega)] at entry
      cases entry) _
  subst hH
  refine hs.attach i ?_ (fun j => ?_) (fun m hm => ?_) (fun j hj => ?_) ?_ ?_
  · rw [own]
    refine House.readyTest_ordered (ok.queue.thread entry waiting free front) ?_ (fun x hx hr => ?_) fun hst => ?_
    · rw [← ok.plays]
      constructor
      · rintro ⟨x, hx, hp⟩
        rcases List.mem_or_eq_of_mem_set hx with hx | rfl
        · exact ⟨x, hx, hp⟩
        · cases hp
      · rintro ⟨x, hx, hp⟩
        refine ⟨x, mem x hx ?_, hp⟩
        rintro rfl
        rw [waiting] at hp; cases hp
    · rcases List.mem_or_eq_of_mem_set hx with hx | rfl
      · exact ok.runOut x hx hr
      · cases hr
    · obtain ⟨a, ha, threaded⟩ := ok.starting hst
      refine ⟨a, ?_, threaded⟩
      cases hq : (s.house (s.station i).house).queue with
      | nil => rw [hq] at ha; cases ha
      | cons b l =>
        rw [hq] at ha entry
        cases ha
        cases k with
        | zero =>
          obtain rfl : a = e := by simpa using entry
          rw [threaded] at waiting; cases waiting
        | succ k => rfl
  · rw [own, House.readyTest_queue, mem_boundStations, mem_boundStations]
    constructor
    · rintro ⟨x, hx, bx⟩
      rcases List.mem_or_eq_of_mem_set hx with hx | rfl
      · exact .inr ⟨x, hx, bx⟩
      · exact .inl (by simpa using bx.symm)
    · rintro (rfl | ⟨x, hx, bx⟩)
      · exact ⟨_, new, rfl⟩
      · refine ⟨x, mem x hx ?_, bx⟩
        rintro rfl
        have := (ok.queue.entry hx).1 (by rw [bx]; rfl)
        exact this waiting
  · rw [State.house_readyTest, if_neg hm, State.house_threadCounter, State.house_modQueue, if_neg hm]
  · show (s.station j).SameSeat (((s.modQueue _ _).threadCounter i).station j)
    rw [State.station_threadCounter, if_neg hj]
    exact Station.SameSeat.refl _
  · show (((s.modQueue _ _).threadCounter i).station i).house = _ ∧
      (((s.modQueue _ _).threadCounter i).station i).present = true ∧
      (((s.modQueue _ _).threadCounter i).station i).condition = _
    rw [State.station_threadCounter, if_pos rfl]
    exact ⟨rfl, present, condition⟩
  · show (((s.modQueue _ _).threadCounter i).station i).counterMode ≠ _
    rw [State.station_threadCounter, if_pos rfl]
    nofun

/-- FC: each house leaves SUSPENDED as its record says (R67). -/
theorem House.unsuspend_ordered {hs : House} (h : OrderOk hs.engine hs.queue) :
    OrderOk hs.unsuspend.engine hs.unsuspend.queue := by
  unfold House.unsuspend
  split
  · rename_i he
    rw [he] at h
    have still := h.still rfl
    have left : ∀ e ∈ hs.queue, e.status ≠ .runOut := fun e he hr => h.runOut e he hr (by decide)
    have rest : ∀ engine : EngineState, engine.showing = false → engine ∈ [.fault, .hold] → OrderOk engine hs.queue := by
      intro engine off kind
      refine ⟨h.queue, iff_of_false (fun ⟨e, he, hp⟩ => still e he hp) (by rw [off]; nofun),
        fun e he hr => absurd hr (left e he), ?_, ?_, ?_⟩ <;> rintro rfl <;> exact absurd kind (by decide)
    dsimp only
    split
    · exact rest .fault rfl (by decide)
    · split
      · exact rest .hold rfl (by decide)
      · exact House.toIdle_ordered (hs := { hs with showRunning := false }) h.queue still left
  · exact h

/-- HA: a house leaves FAULT for HOLD, or for IDLE with its order empty (R64). -/
theorem House.acknowledged_ordered {hs : House} (h : OrderOk hs.engine hs.queue) (was : hs.engine = .fault) :
    OrderOk hs.acknowledged.engine hs.acknowledged.queue := by
  unfold House.acknowledged
  split
  · rename_i he
    rw [List.isEmpty_iff] at he
    exact House.toIdle_ordered (hs := { hs with fault := none }) h.queue (by simp [he]) (by simp [he])
  · have still := h.still (by rw [was]; rfl)
    exact ⟨h.queue, iff_of_false (fun ⟨e, he, hp⟩ => still e he hp) nofun, fun _ _ _ => by simp, nofun, nofun, nofun⟩

theorem OrderOk.empty {engine : EngineState} (h : engine ∈ [.idle, .suspended]) : OrderOk engine [] := by
  simp only [List.mem_cons, List.not_mem_nil, or_false] at h
  rcases h with rfl | rfl
  · exact ⟨trivial, iff_of_false (by simp) nofun, by simp, nofun, by simp, nofun⟩
  · exact ⟨trivial, iff_of_false (by simp) nofun, by simp, nofun, nofun, nofun⟩

theorem OrderInv.boothReset (s : State) : OrderInv s.boothReset := by
  suffices h : (∀ h, (s.boothReset.house h).queue = [] ∧ (s.boothReset.house h).engine ∈ [.idle, .suspended]) ∧
      ∀ i, (s.boothReset.station i).counterMode = .hold by
    obtain ⟨houses, held⟩ := h
    rw [orderInv_iff]
    refine ⟨fun h => ?_, fun h i hi => ?_, fun i => ?_⟩
    · rw [(houses h).1]; exact .empty (houses h).2
    · rw [(houses h).1] at hi; cases hi
    · rw [State.boundEntry_eq_none, (houses _).1]
      exact iff_of_true (held i) (by simp [boundStations])
  refine boothReset_keeps (P := fun t => (∀ h, (t.house h).queue = [] ∧ (t.house h).engine ∈ [.idle, .suspended]) ∧
      ∀ i, (t.station i).counterMode = .hold) (fun t i ht => ⟨?_, ?_⟩) (fun t h ht => ⟨?_, ?_⟩)
      ⟨fun h => ?_, fun i => ?_⟩
  · unfold State.boundByTrip
    split <;> exact ht.1
  · unfold State.boundByTrip
    split
    · intro j
      rw [State.station_modStation]
      split
      · exact ht.2 i
      · exact ht.2 j
    · exact ht.2
  · unfold State.suspendAtReset
    split
    · intro k
      rw [State.house_modHouse]
      split
      · exact ⟨(ht.1 h).1, by simp⟩
      · exact ht.1 k
    · exact ht.1
  · unfold State.suspendAtReset
    split <;> exact ht.2
  · unfold State.house
    rw [PerHouse.get_build]
    exact ⟨rfl, by simp [House.boothReset, House.initial]⟩
  · unfold State.station
    rw [PerStation.get_build]
    rfl

theorem OrderInv.strapsRead {s : State} (hs : OrderInv s) {i : StationId} (p : TrimStraps)
    (was : (s.station i).condition = .resetting) : OrderInv (s.strapsRead i p) := by
  obtain ⟨orders, seated⟩ := (orderInv_iff s).1 hs
  have unbound : ∀ h, i ∉ boundStations (s.house h).queue := fun h hi => by
    have := (seated.1 h i hi).2.2
    rw [was] at this
    cases this
  have station := fun k => s.strapsRead_station i k p
  refine hs.detach i (orders _) (fun j => ⟨fun hj => ⟨?_, hj⟩, fun hj => hj.2⟩) (fun _ _ => rfl) (fun j hj => ?_) ?_
  · rintro rfl
    exact unbound _ hj
  · rw [station, if_neg hj]
    exact Station.SameSeat.refl _
  · rw [station, if_pos rfl]
    exact (seated.2 i).2 (State.boundEntry_eq_none.2 (unbound _))

theorem act_keeps_orderInv (s t : State) (h : Act s t) (hs : OrderInv s) : OrderInv t := by
  obtain ⟨orders, seated⟩ := (orderInv_iff s).1 hs
  cases h with
  | edit h => exact edit_keeps_orderInv s t h hs
  | inputs i => exact hs.modStation i _ (Station.SameSeat.refl _)
  | count i dir =>
    refine hs.modStation i _ ?_
    unfold Station.countPulse
    split
    · rename_i bound
      have runs : (s.station i).counterMode ≠ .hold := fun hold => by
        rw [(seated.2 i).1 hold] at bound
        cases bound
      cases dir <;> exact ⟨rfl, rfl, rfl, iff_of_false nofun runs⟩
    · exact Station.SameSeat.refl _
  | pulse i interval =>
    refine hs.modStation i _ ?_
    unfold Station.motorPulse
    repeat' split
    all_goals exact Station.SameSeat.refl _
  | stopped i was => exact hs.modStation i _ (Station.SameSeat.refl _)
  | resetHoldEnd i p was =>
    refine resetHoldEnd_keeps edit_keeps_orderInv (fun u h _ idle hu => hu.suspends fun e he hr => ?_)
      (hs.strapsRead p was)
    have off := (((orderInv_iff u).1 hu).1 h).runOut e he hr
    rw [idle] at off
    exact off (by decide)
  | takeReset i engaged out =>
    obtain ⟨start, still⟩ := State.not_engaged hs engaged
    exact hs.unseat i Station.takeReset rfl still start
  | assign i h own other bound =>
    have unbound : ∀ h, i ∉ boundStations (s.house h).queue := fun h hi => by
      have house := seated.house hi
      exact State.boundEntry_eq_none.1 bound (house ▸ hi)
    refine hs.detach i (orders _) (fun j => ⟨fun hj => ⟨?_, hj⟩, fun hj => hj.2⟩) (fun _ _ => rfl) (fun j hj => ?_) ?_
    · rintro rfl
      exact unbound _ hj
    · rw [State.station_modStation, if_neg hj]
      exact Station.SameSeat.refl _
    · rw [State.station_modStation, if_pos rfl]
      exact (seated.2 i).2 bound
  | insert h k e room place taken waiting unbound behind => exact hs.insert h place ⟨unbound, waiting⟩ behind
  | delete h k e entry unbound was => exact hs.delete h entry unbound was
  | clear h was => exact hs.clear h was
  | thread i k e condition entry open_ => exact hs.thread condition entry open_
  | unthread i e bound status start stays =>
    have dropped : s.dropBinding i = s.modQueue (s.station i).house fun q => unbindEntry q i := by
      unfold State.dropBinding
      rw [bound]
      exact if_neg stays
    have left := hs.unseat i (fun st => { st with counterMode := .hold }) rfl (fun x hx => by
      rw [bound] at hx
      cases hx
      exact status) start
    rwa [dropped] at left
  | endShow h => exact hs.endShow h
  | acknowledge h was =>
    exact hs.modHouse h _ (fun ok => House.acknowledged_ordered ok was) fun j => by
      rw [(House.acknowledged_sameShow _).1]
  | lampOut i new f out leaves =>
    have seat : (s.station i).SameSeat (f (s.station i)) := by
      rw [leaves.station]; exact Station.SameSeat.refl _
    exact (hs.modStation i f seat).of_houses
      (fun h => by rw [State.house_of_houses (State.setLamp_houses _ i new _)]; exact ⟨rfl, rfl⟩)
      fun j => (State.setLamp_body _ i j _ _).seat
  | requeue i cls f was leaves =>
    have seat : (s.station i).SameSeat (f (s.station i)) := by
      rw [leaves.station]; exact Station.SameSeat.refl _
    exact (hs.modStation i f seat).of_houses
      (fun h => by
        rw [State.house_of_houses ((State.testGrant_houses _).trans (State.setLamp_houses _ i .queued cls))]
        exact ⟨rfl, rfl⟩)
      fun j => ((State.setLamp_body _ i j _ _).trans (State.testGrant_body _ j)).seat
  | established i =>
    exact hs.of_houses (fun h => by rw [State.house_of_houses (State.setLamp_houses _ i .establish _)]; exact ⟨rfl, rfl⟩)
      fun j => (s.setLamp_body i j _ _).seat
  | burn i =>
    exact hs.of_houses (fun h => by rw [State.house_of_houses (State.setLamp_houses _ i .burn _)]; exact ⟨rfl, rfl⟩)
      fun j => (s.setLamp_body i j _ _).seat
  | counted i => exact hs.modStation i _ (Station.SameSeat.refl _)
  | sampled i => exact hs.modStation i _ (Station.SameSeat.refl _)
  | burnsOn i f was burns => exact hs.modStation i f (by rw [burns.station]; exact Station.SameSeat.refl _)
  | jogs i f jogs => exact hs.modStation i f (by rw [jogs.station]; exact Station.SameSeat.refl _)
  | bucket i n => exact hs.modStation i _ (Station.SameSeat.refl _)
  | params i p q => exact hs.modStation i _ (Station.SameSeat.refl _)
  | rechargeEnd =>
    exact hs.of_houses (fun h => by rw [State.house_of_houses (State.testGrant_houses _)]; exact ⟨rfl, rfl⟩)
      fun j => (State.testGrant_body _ j).seat
  | relight h f => exact hs.modHouse h _ (fun ok => ok) fun _ => Iff.rfl
  | boothTrip cause => exact hs.boothTripActions cause
  | fireClear =>
    refine fireClear_keeps (P := OrderInv) (fun u i hu => hu.modStation i _ (Station.SameSeat.refl _))
      (fun u h hu => hu.modHouse h _ (fun ok => House.unsuspend_ordered ok) fun j => ?_) hs
    show j ∈ boundStations (u.house h).unsuspend.queue ↔ _
    rw [(House.unsuspend_sameShow _).1]
  | _ => exact hs

theorem powerOn_orderInv (p : Straps) (s t : State) (h : exec (.powerOn p) s = .next t) : OrderInv t := by
  have houses := powerOn_houses h
  rw [orderInv_iff]
  refine ⟨fun k => ?_, fun k i hi => ?_, fun i => ?_⟩
  · rw [houses]; exact .empty (by decide)
  · rw [houses] at hi; cases hi
  · rw [State.boundEntry_eq_none, houses, (powerOn_station h i).1]
    exact iff_of_true rfl (by simp [boundStations, House.initial])

/-- Settles O57: the running orders, the engine states and the bindings by `Edit` and `Act`. -/
theorem bindingsStayConsistent : Obligations.BindingsStayConsistent := fun _ _ hs h =>
  step_keeps (P := OrderInv) (fun _ _ h => h) act_keeps_orderInv
    (fun s _ => OrderInv.boothReset s) (fun _ _ h => h) powerOn_orderInv (fun _ _ h => h) hs h

end Sys2Proof.Machine

/-!
What a booth trip in force holds (R158, R159): every house is SUSPENDED, or UNUSED and IDLE. With the invariants of the
motors, the lamps and the bindings it follows that nothing runs and nothing burns.
-/

namespace Sys2Proof.Machine

/-! ### House modes -/

theorem State.mode_eq_unused {s : State} {h : HouseId} :
    s.mode h = .unused ↔ ∀ i, (s.station i).house = h → (s.station i).present = false := by
  have none_ : s.mode h = .unused ↔ (s.stationsOf h).filter (fun i => (s.station i).present) = [] := by
    unfold State.mode
    rw [← List.length_eq_zero_iff]
    split <;> simp_all
  rw [none_, List.filter_eq_nil_iff]
  unfold State.stationsOf
  simp only [List.mem_filter, decide_eq_true_eq, Bool.not_eq_true]
  exact ⟨fun h i hi => h i ⟨i.mem_all, hi⟩, fun h i hi => h i hi.2⟩

theorem State.mode_congr {s t : State} (h : HouseId) (house : ∀ i, (t.station i).house = (s.station i).house)
    (present : ∀ i, (t.station i).present = (s.station i).present) : t.mode h = s.mode h := by
  unfold State.mode State.stationsOf
  simp only [house, present]

theorem State.mode_of_under {s t : State} (under : ∀ i, (s.station i).Under (t.station i)) (h : HouseId) :
    t.mode h = s.mode h :=
  State.mode_congr h (fun i => (under i).2.1) fun i => by unfold Station.present; rw [(under i).1]

/-- A house is not READY while no present station of it has its counter out of HOLD: none is bound (R36, R41). -/
theorem OrderInv.not_ready {s : State} (hs : OrderInv s) {h : HouseId}
    (free : ∀ j, (s.station j).house = h → (s.station j).present = true → (s.station j).counterMode = .hold) :
    (s.house h).engine ≠ .ready := by
  obtain ⟨orders, seated⟩ := (orderInv_iff s).1 hs
  intro ready
  obtain ⟨e, he, bound⟩ := (orders h).ready ready
  obtain ⟨i, hi⟩ := Option.isSome_iff_exists.1 bound
  have mem := mem_boundStations.2 ⟨e, List.mem_of_mem_head? he, hi⟩
  obtain ⟨own, present, -⟩ := seated.1 h i mem
  refine State.boundEntry_eq_none.1 ((seated.2 i).1 (free i own present)) ?_
  rw [own]
  exact mem

theorem OrderInv.unused {s : State} (hs : OrderInv s) {h : HouseId} (unused : s.mode h = .unused) :
    (s.house h).engine ≠ .ready :=
  hs.not_ready fun j own present => by
    rw [State.mode_eq_unused.1 unused j own] at present
    cases present

/-! ### Houses under a booth trip -/

/-- While a booth trip is in force every house is SUSPENDED, or UNUSED and IDLE (R158). -/
def Calm (s : State) : Prop :=
  s.fire.booth.isSome = true → ∀ h, (s.house h).engine = .suspended ∨ (s.house h).engine = .idle ∧ s.mode h = .unused

/-- A change of engine state that leaves SUSPENDED alone and IDLE for READY at most. -/
def EngineState.Rests (a b : EngineState) : Prop :=
  (a = .suspended → b = .suspended) ∧ (a = .idle → b = .idle ∨ b = .ready)

theorem EngineState.Rests.refl (a : EngineState) : a.Rests a := ⟨fun h => h, .inl⟩

theorem EngineState.Rests.of_other {a b : EngineState} (h : a ≠ .suspended) (k : a ≠ .idle) : a.Rests b :=
  ⟨fun e => absurd e h, fun e => absurd e k⟩

theorem House.readyTest_rests (hs : House) : hs.engine.Rests hs.readyTest.engine := by
  unfold House.readyTest
  split
  · rename_i he
    rw [he]
    refine ⟨nofun, fun _ => ?_⟩
    dsimp only
    split
    · exact .inr rfl
    · exact .inl rfl
  · rename_i he
    rw [he]
    exact EngineState.Rests.of_other nofun nofun
  · exact EngineState.Rests.refl _

theorem House.readyTest_rests_queue (hs : House) (q : List Entry) :
    hs.engine.Rests ({ hs with queue := q } : House).readyTest.engine :=
  House.readyTest_rests { hs with queue := q }

theorem House.emptyTest_rests (hs : House) : hs.engine.Rests hs.emptyTest.engine := by
  unfold House.emptyTest
  split
  · rename_i he
    rw [he]
    exact EngineState.Rests.of_other nofun nofun
  · rename_i he
    rw [he]
    exact EngineState.Rests.of_other nofun nofun
  · exact EngineState.Rests.refl _

theorem House.readyEmptyTest_rests (hs : House) : hs.engine.Rests hs.readyTest.emptyTest.engine := by
  obtain ⟨s1, i1⟩ := hs.readyTest_rests
  obtain ⟨s2, i2⟩ := hs.readyTest.emptyTest_rests
  refine ⟨fun h => s2 (s1 h), fun h => ?_⟩
  obtain h | h := i1 h
  · exact i2 h
  · unfold House.emptyTest
    rw [h]
    exact .inr h

/-- No house leaves its rest. -/
def State.Rests (s t : State) : Prop := ∀ h, (s.house h).engine.Rests (t.house h).engine

theorem State.Rests.refl (s : State) : s.Rests s := fun _ => EngineState.Rests.refl _

theorem State.rests_of_houses {s t : State} (h : t.houses = s.houses) : s.Rests t := fun k => by
  rw [State.house_of_houses h]; exact EngineState.Rests.refl _

theorem State.modHouse_rests (s : State) (h : HouseId) (f : House → House)
    (hf : (s.house h).engine.Rests (f (s.house h)).engine) : s.Rests (s.modHouse h f) := by
  intro k
  rw [State.house_modHouse]
  split
  · rename_i hk; rw [hk]; exact hf
  · exact EngineState.Rests.refl _

theorem EngineState.rests_of_showing {a b : EngineState} (h : a.showing = true) : a.Rests b :=
  .of_other (by rintro rfl; cases h) (by rintro rfl; cases h)

theorem Edit.rests {s t : State} (h : Edit s t) : s.Rests t := by
  cases h with
  | trip i cause => exact State.rests_of_houses (s.tripStation_houses i cause)
  | extinguish i => exact State.rests_of_houses (s.extinguish_houses i)
  | strike i => exact State.rests_of_houses (s.takeStrike_houses i)
  | note h f noted => exact s.modHouse_rests h f (by rw [noted.1]; exact .refl _)
  | fade h level time => exact s.modHouse_rests h _ (.refl _)
  | fireLayer h => exact s.modHouse_rests h _ (.refl _)
  | cue h f was => exact s.modHouse_rests h f (EngineState.rests_of_showing was)
  | begin h f i was =>
    exact s.modHouse_rests h f (.of_other (by intro he; rw [he] at was; cases was) (by intro he; rw [he] at was; cases was))
  | picture h f i was =>
    obtain ⟨starting, -⟩ := House.startStation_eq_some was
    exact s.modHouse_rests h f (.of_other (by rw [starting]; nofun) (by rw [starting]; nofun))
  | change h out inc => exact s.modHouse_rests h _ (.refl _)
  | fault h f was =>
    exact s.modHouse_rests h f (.of_other (by intro he; rw [he] at was; cases was) (by intro he; rw [he] at was; cases was))
  | reelOff h i f own was =>
    obtain ⟨showing, -⟩ := House.onScreen_eq_some was
    intro k
    rw [State.house_modHouse]
    split
    · rename_i hk; rw [hk]; exact EngineState.rests_of_showing showing
    · rename_i hk
      rw [State.removeEntry_house, own, if_neg hk]
      exact .refl _
  | runOutLeaves i e =>
    intro k
    rw [State.removeEntry_house]
    split
    · rename_i hk; rw [hk]; exact .refl _
    · exact .refl _
  | ready h => exact s.modHouse_rests h _ (House.readyTest_rests _)
  | _ => exact State.Rests.refl s

theorem Calm.of_rests {s t : State} (hs : Calm s) (ht : OrderInv t) (booth : t.fire.booth = s.fire.booth)
    (mode : ∀ h, t.mode h = s.mode h) (rests : s.Rests t) : Calm t := by
  intro inForce h
  rw [booth] at inForce
  rw [mode]
  obtain suspended | ⟨idle, unused⟩ := hs inForce h
  · exact .inl ((rests h).1 suspended)
  · exact .inr ⟨((rests h).2 idle).resolve_right (ht.unused (by rw [mode, unused])), unused⟩

/-- The invariants of the stations, the lamps and the bindings, and the houses at rest under a booth trip. -/
def BoothCore (s : State) : Prop := StationInv s ∧ LampInv s ∧ OrderInv s ∧ Calm s

theorem boothInv_iff (s : State) : BoothInv s ↔ BoothCore s ∧ s.pins = s.outputs := by
  constructor
  · rintro ⟨station, lamp, order, pins, booth⟩
    exact ⟨⟨station, lamp, order, fun inForce => (booth inForce).2⟩, pins⟩
  · rintro ⟨⟨station, lamp, order, calm⟩, pins⟩
    refine ⟨station, lamp, order, pins, fun inForce => ⟨fun i => ?_, calm inForce⟩⟩
    obtain ⟨⟨⟨lamps, -⟩, -⟩, trips⟩ := (lampInv_iff s).1 lamp
    have barred : (s.station i).barred := by
      cases hp : (s.station i).present with
      | true => exact .inl (trips i inForce hp)
      | false => exact .inr (.inl hp)
    have still := (station i).1 barred
    have out := (lamps i).1 barred
    have pin : s.pins.stations.get i = s.stationPins i := by
      rw [pins]
      exact PerStation.get_build _ _
    refine ⟨still, out, ?_, ?_, ?_⟩ <;> rw [pin] <;> unfold State.stationPins <;> dsimp only
    · rw [still, Bool.and_false]
    · have : ((s.station i).lamp.state == .striking) = false := by
        cases h : (s.station i).lamp.state <;> rw [h] at out <;> first | rfl | cases out
      rw [this, Bool.and_false, Bool.false_and, Bool.false_and]
    · have : ((s.station i).motor == .atSpeed) = false := by
        cases h : (s.station i).motor <;> rw [h] at still <;> first | rfl | cases still
      rw [this, Bool.and_false, Bool.false_and]

/-! ### The changes that move a house to or from its rest -/

/-- What each step of a loop over houses brings about for its own and every step keeps, the loop brings about for all,
where a property that every step keeps holds. -/
theorem forHouses_each {P : HouseId → State → Prop} {Q : State → Prop} {f : HouseId → State → State}
    {l : List HouseId} (own : ∀ h t, Q t → P h (f h t)) (keeps : ∀ h k t, P k t → P k (f h t))
    (rest : ∀ h t, Q t → Q (f h t)) {s : State} (hs : Q s) {h : HouseId} (hh : h ∈ l) : P h (s.forHouses l f) := by
  induction l generalizing s with
  | nil => cases hh
  | cons k l ih =>
    show P h ((f k s).forHouses l f)
    rcases List.mem_cons.1 hh with rfl | h'
    · exact State.forHouses_keeps (P h) f (fun j t ht => keeps j h t ht) l _ (own h s hs)
    · exact ih (rest k s hs) h'

/-- A house that a booth trip in force leaves at rest (R158). -/
def AtRest (h : HouseId) (s : State) : Prop :=
  (s.house h).engine = .suspended ∨ (s.house h).engine = .idle ∧ s.mode h = .unused

theorem AtRest.of_same {s t : State} {h : HouseId} (hs : AtRest h s)
    (engine : (t.house h).engine = (s.house h).engine) (mode : t.mode h = s.mode h) : AtRest h t := by
  unfold AtRest
  rw [engine, mode]
  exact hs

theorem State.darkenHouse_mode (s : State) (h k : HouseId) : (s.darkenHouse h).mode k = s.mode k :=
  State.mode_of_under (fun i => (s.darkenHouse_edits h).keeps (P := fun t => (s.station i).Under (t.station i))
    (fun _ _ e u => u.trans (e.under i)) (Station.Under.refl _)) k

theorem AtRest.suspend {s : State} {k : HouseId} (hs : AtRest k s) (h : HouseId) : AtRest k (s.suspend h) := by
  unfold State.suspend
  split
  · exact hs
  · have mode : (((s.darkenHouse h).holdFade h).modHouse h House.toSuspended).mode k = s.mode k := s.darkenHouse_mode h k
    by_cases hk : k = h
    · subst hk
      left
      rw [State.house_modHouse_same]
      rfl
    · refine hs.of_same ?_ mode
      rw [State.house_modHouse_other _ _ hk]
      show (((s.darkenHouse h).modHouse h _).house k).engine = _
      rw [State.house_modHouse_other _ _ hk, State.house_of_houses (s.darkenHouse_houses h)]

theorem AtRest.gateAction {s : State} {k : HouseId} (hs : AtRest k s) (h : HouseId) : AtRest k (s.gateAction h) := by
  refine hs.of_same ?_ rfl
  show (((s.modHouse h fun hs => { hs with light := { hs.light with fire := .set } }).modHouse h fun hs =>
    { hs with releasePulse := true }).house k).engine = _
  rw [State.modHouse_modHouse, State.house_modHouse]
  split
  · rename_i hk; rw [hk]
  · rfl

theorem State.boothTripActions_atRest (s : State) (cause : BoothCause) (h : HouseId) :
    AtRest h (s.boothTripActions cause) := by
  refine forHouses_each (P := AtRest) (Q := fun _ => True) (fun k t _ => ?_) (fun j k t ht => ?_) (fun _ _ _ => trivial)
    trivial h.mem_all
  · unfold State.tripBoothHouse
    dsimp only
    refine AtRest.gateAction ?_ k
    split
    · rename_i hc
      rw [Bool.and_eq_true, decide_eq_true_eq, decide_eq_true_eq] at hc
      exact .inr ⟨hc.2, hc.1⟩
    · left
      unfold State.suspend
      split
      · assumption
      · rw [State.house_modHouse_same]
        rfl
  · unfold State.tripBoothHouse
    dsimp only
    refine AtRest.gateAction ?_ j
    split
    · exact ht
    · exact ht.suspend j

theorem State.boothReset_atRest (s : State) (booth : s.fire.booth.isSome = true) (h : HouseId) :
    AtRest h s.boothReset := by
  refine forHouses_each (P := AtRest) (Q := fun t => t.fire = s.fire ∧ ∀ k, (t.house k).engine = .idle ∨
    (t.house k).engine = .suspended) (fun k t ht => ?_) (fun j k t ht => ?_) (fun j t ht => ?_) ?_ h.mem_all
  · obtain ⟨fire, engines⟩ := ht
    unfold State.suspendAtReset
    split
    · exact .inl (by rw [State.house_modHouse_same])
    · rename_i hc
      rw [fire, booth, Bool.true_and, Bool.not_eq_true, bne_eq_false_iff_eq] at hc
      exact (engines k).symm.imp (fun h => h) fun h => ⟨h, hc⟩
  · unfold State.suspendAtReset
    split
    · by_cases hk : k = j
      · subst hk
        exact .inl (by rw [State.house_modHouse_same])
      · exact ht.of_same (by rw [State.house_modHouse_other _ _ hk]) rfl
    · exact ht
  · unfold State.suspendAtReset
    split
    · refine ⟨ht.1, fun k => ?_⟩
      rw [State.house_modHouse]
      split
      · exact .inr rfl
      · exact ht.2 k
    · exact ht
  · refine State.forStations_keeps (fun t => t.fire = s.fire ∧ ∀ k, (t.house k).engine = .idle ∨
      (t.house k).engine = .suspended) _ (fun i t ht => ?_) _ _ ⟨rfl, fun k => .inl ?_⟩
    · unfold State.boundByTrip
      split <;> exact ht
    · unfold State.house
      rw [PerHouse.get_build]
      rfl

/-- No change of `Edit` takes a counter out of HOLD (R9, R38). -/
theorem Edit.holds {s t : State} (h : Edit s t) (j : StationId) (hold : (s.station j).counterMode = .hold) :
    (t.station j).counterMode = .hold := by
  have modStation : ∀ i (f : Station → Station), (f (s.station i)).counterMode = (s.station i).counterMode →
      ((s.modStation i f).station j).counterMode = .hold := by
    intro i f hf
    rw [State.station_modStation]
    split
    · rename_i hj; rw [hf, ← hj]; exact hold
    · exact hold
  have body : ∀ {u : State}, (s.station j).SameBody (u.station j) → (u.station j).counterMode = .hold := by
    intro u hu
    rw [hu]; exact hold
  have removed : ∀ i, ((s.removeEntry i).station j).counterMode = .hold := by
    intro i
    show (((s.modQueue _ _).holdCounter i).station j).counterMode = _
    rw [State.station_holdCounter]
    split
    · rfl
    · exact hold
  cases h with
  | stop i => exact modStation i _ (by unfold Station.stopMotor; split <;> rfl)
  | start i => exact modStation i _ (by unfold Station.startMotor; split <;> rfl)
  | shutter i d c => exact modStation i _ rfl
  | mark i m => exact modStation i _ rfl
  | trip i cause =>
    have tripped := modStation i (fun st => { st.stopMotor with
      trip := some cause, demandOpen := false, csOpen := false
      channel := { st.channel with jog := none, fsPulses := 0 } }) (by unfold Station.stopMotor; split <;> rfl)
    unfold State.tripStation
    dsimp only
    rw [State.extinguish_body _ i j]
    exact tripped
  | extinguish i => exact body (s.extinguish_body i j)
  | strike i => exact body (s.takeStrike_body i j)
  | reelOff h i f => exact removed i
  | runOutLeaves i e => exact removed i
  | _ => exact hold

/-- The acts of a station made present, before its house comes under the booth trip (R159). -/
theorem State.madePresent_eq (s : State) (i : StationId) :
    ∃ v, Edits s v ∧ s.madePresent i = v.suspendUnderBoothTrip (s.station i).house :=
  ⟨_, (s.freeOrder_edits _).trans (Edits.foldl _ (fun v a => v.presenceAct_edits i a) _ _), rfl⟩

/-- The strap read leaves every house as it was; a house gains a present station at most in the one that was read. -/
theorem State.strapsRead_unused {s : State} {i : StationId} {p : TrimStraps} {h : HouseId} (unused : s.mode h = .unused) :
    ∀ j, ((s.strapsRead i p).station j).house = h → ((s.strapsRead i p).station j).present = true →
      j = i ∧ h = (s.station i).house := by
  intro j own present
  rw [State.strapsRead_station] at own present
  split at own
  · exact ⟨‹_›, own.symm⟩
  · rename_i hj
    rw [if_neg hj, State.mode_eq_unused.1 unused j own] at present
    cases present

/-- A station RESETTING is bound nowhere, so its counter is in HOLD (R20, R36). -/
theorem OrderInv.resetting {s : State} (hs : OrderInv s) {i : StationId} (was : (s.station i).condition = .resetting) :
    (s.station i).counterMode = .hold := by
  obtain ⟨-, seated⟩ := (orderInv_iff s).1 hs
  refine (seated.2 i).2 (State.boundEntry_eq_none.2 fun hi => ?_)
  have := (seated.1 _ i hi).2.2
  rw [was] at this
  cases this

/-- A house that nothing but an entry to SUSPENDED moves: IDLE with no station bound. -/
def Idles (h : HouseId) (s : State) : Prop :=
  OrderInv s ∧ ((s.house h).engine = .suspended ∨ (s.house h).engine = .idle) ∧
    ∀ j, (s.station j).house = h → (s.station j).present = true → (s.station j).counterMode = .hold

theorem Idles.edit {s t : State} {h : HouseId} (e : Edit s t) (hs : Idles h s) : Idles h t := by
  obtain ⟨order, engine, free⟩ := hs
  have after := edit_keeps_orderInv s t e order
  have free : ∀ j, (t.station j).house = h → (t.station j).present = true → (t.station j).counterMode = .hold := by
    intro j own present
    obtain ⟨trim, house, -⟩ := e.under j
    unfold Station.present at present
    exact e.holds j (free j (house.symm.trans own) (by unfold Station.present; rwa [← trim]))
  exact ⟨after, engine.imp (e.rests h).1 fun idle => ((e.rests h).2 idle).resolve_right (after.not_ready free), free⟩

/-- A station made present under a booth trip brings its IDLE house to SUSPENDED; no other house moves (R159). -/
theorem Calm.madePresent {s u : State} {i : StationId} (hs : Calm s) (order : OrderInv u)
    (booth : u.fire.booth = s.fire.booth) (houses : ∀ k, u.house k = s.house k)
    (only : ∀ k, s.mode k = .unused → ∀ j, (u.station j).house = k → (u.station j).present = true →
      j = i ∧ k = (u.station i).house) (present : (u.station i).present = true)
    (hold : (u.station i).counterMode = .hold) : Calm (u.madePresent i) := by
  obtain ⟨v, acted, hv⟩ := u.madePresent_eq i
  have boothV : v.fire.booth = u.fire.booth :=
    acted.keeps (P := fun w => w.fire.booth = u.fire.booth) (fun _ _ e b => e.booth.trans b) rfl
  have under : ∀ j, (u.station j).Under (v.station j) := fun j =>
    acted.keeps (P := fun w => (u.station j).Under (w.station j)) (fun _ _ e k => k.trans (e.under j)) (.refl _)
  have presentV : ∀ j, (v.station j).present = (u.station j).present := fun j => by
    unfold Station.present; rw [(under j).1]
  rw [hv]
  intro inForce k
  have inForceV : v.fire.booth.isSome = true := by
    obtain h | ⟨b, -⟩ := v.suspendUnderBoothTrip_eq (u.station i).house
    · rwa [h] at inForce
    · exact b
  have used : v.mode (u.station i).house ≠ .unused := fun unused => by
    have := State.mode_eq_unused.1 unused i (under i).2.1
    rw [presentV, present] at this
    cases this
  have rest : AtRest k v ∨ k = (u.station i).house ∧ (v.house k).engine = .idle := by
    obtain suspended | ⟨idle, unused⟩ := hs (by rwa [boothV, booth] at inForceV) k
    · exact .inl (.inl (acted.keeps (P := fun w => (w.house k).engine = .suspended) (fun _ _ e h => (e.rests k).1 h)
        (by rw [houses]; exact suspended)))
    · have idles := acted.keeps (P := Idles k) (fun _ _ e h => h.edit e) ⟨order, .inr (by rw [houses]; exact idle),
        fun j own here => by rw [(only k unused j own here).1]; exact hold⟩
      obtain ⟨-, suspended | idle, -⟩ := idles
      · exact .inl (.inl suspended)
      · by_cases hk : k = (u.station i).house
        · exact .inr ⟨hk, idle⟩
        · refine .inl (.inr ⟨idle, State.mode_eq_unused.2 fun j own => ?_⟩)
          rw [presentV, ← Bool.not_eq_true]
          exact fun here => hk (only k unused j ((under j).2.1.symm.trans own) here).2
  unfold State.suspendUnderBoothTrip
  split
  · have mode : ((v.darkenHouse (u.station i).house).modHouse (u.station i).house House.toSuspended).mode k = v.mode k :=
      v.darkenHouse_mode _ k
    by_cases hk : k = (u.station i).house
    · rw [hk, State.house_modHouse_same]
      exact .inl rfl
    · refine (rest.resolve_right fun h => hk h.1).of_same ?_ mode
      rw [State.house_modHouse_other _ _ hk, State.house_of_houses (v.darkenHouse_houses _)]
  · rename_i hc
    refine rest.resolve_right fun ⟨hk, idle⟩ => hc ?_
    rw [hk] at idle
    simp [inForceV, idle, used]

theorem Calm.resetHoldEnd {s : State} (hs : Calm s) (order : OrderInv s) {i : StationId} (p : TrimStraps)
    (was : (s.station i).condition = .resetting) : Calm (s.resetHoldEnd i p) := by
  have own : ((s.strapsRead i p).station i).house = (s.station i).house := by
    rw [State.strapsRead_station, if_pos rfl]; rfl
  unfold State.resetHoldEnd
  split
  · rename_i hc
    rw [Bool.and_eq_true] at hc
    refine hs.madePresent (order.strapsRead p was) rfl (fun _ => rfl) (fun k unused j own' present => ?_) hc.2 ?_
    · rw [own]
      exact State.strapsRead_unused unused j own' present
    · rw [State.strapsRead_station, if_pos rfl]
      exact order.resetting was
  · rename_i hc
    intro inForce k
    refine (hs inForce k).imp (fun h => h) fun ⟨idle, unused⟩ => ⟨idle, State.mode_eq_unused.2 fun j own' => ?_⟩
    rw [← Bool.not_eq_true]
    intro present
    obtain ⟨rfl, hk⟩ := State.strapsRead_unused unused j own' present
    rw [State.mode_eq_unused.1 unused j hk.symm, present] at hc
    exact hc rfl

theorem Calm.assign {s : State} (hs : Calm s) (i : StationId) (h : HouseId)
    (own : (s.house (s.station i).house).engine = .idle) :
    Calm (s.modStation i fun st => { st with house := h }) := by
  intro inForce k
  refine (hs inForce k).imp (fun h => h) fun ⟨idle, unused⟩ => ⟨idle, ?_⟩
  have absent : (s.station i).present = false := by
    obtain h | ⟨-, unused⟩ := hs inForce (s.station i).house
    · rw [own] at h; cases h
    · exact State.mode_eq_unused.1 unused i rfl
  rw [State.mode_eq_unused] at *
  intro j
  rw [State.station_modStation]
  split
  · exact fun _ => absent
  · exact unused j

theorem State.clearBinding_fire (s : State) (e : Entry) : (s.clearBinding e).fire = s.fire := by
  unfold State.clearBinding
  split
  · split <;> rfl
  · rfl

theorem State.holdCounter_under (s : State) (i j : StationId) : (s.station j).Under ((s.holdCounter i).station j) :=
  s.modStation_under i j (fun st => { st with counterMode := .hold }) (Station.Under.refl _)

theorem State.clearBinding_under (s : State) (e : Entry) (j : StationId) :
    (s.station j).Under ((s.clearBinding e).station j) := by
  unfold State.clearBinding
  split
  · split
    · exact ((Edit.stop s _).under j).trans (State.holdCounter_under _ _ j)
    · exact State.holdCounter_under _ _ j
  · exact .refl _

theorem State.dropBinding_under (s : State) (i j : StationId) : (s.station j).Under ((s.dropBinding i).station j) := by
  unfold State.dropBinding
  split
  · split
    · exact State.holdCounter_under (s.modQueue _ _) i j
    · exact .refl _
  · exact .refl _

theorem State.dropBinding_fire (s : State) (i : StationId) : (s.dropBinding i).fire = s.fire := by
  unfold State.dropBinding
  split
  · split <;> rfl
  · rfl

theorem State.dropBinding_engine (s : State) (i : StationId) (k : HouseId) :
    ((s.dropBinding i).house k).engine = (s.house k).engine := by
  unfold State.dropBinding
  split
  · split
    · rw [State.removeEntry_house]
      split
      · rename_i hk; rw [hk]
      · rfl
    · rw [State.house_modQueue]
      split
      · rename_i hk; rw [hk]
      · rfl
  · rfl

/-- What rows do to a station leaves its house and its class, and a booth trip, as they are. -/
theorem Calm.act {s t : State} (h : Act s t) (core : BoothCore s) (ht : OrderInv t) : Calm t := by
  obtain ⟨station, lamp, order, calm⟩ := core
  have same : ∀ u : State, OrderInv u → u.fire.booth = s.fire.booth → (∀ j, (u.station j).house = (s.station j).house ∧
      (u.station j).trim = (s.station j).trim) → s.Rests u → Calm u := fun u hu booth seat rests =>
    calm.of_rests hu booth (fun h => State.mode_congr h (fun j => (seat j).1) fun j => by
      unfold Station.present; rw [(seat j).2]) rests
  have modStation : ∀ i (f : Station → Station), (f (s.station i)).house = (s.station i).house →
      (f (s.station i)).trim = (s.station i).trim → ∀ j, ((s.modStation i f).station j).house = (s.station j).house ∧
        ((s.modStation i f).station j).trim = (s.station j).trim := by
    intro i f house trim j
    rw [State.station_modStation]
    split
    · rename_i hj; rw [hj]; exact ⟨house, trim⟩
    · exact ⟨rfl, rfl⟩
  have unmoved := fun j => (⟨rfl, rfl⟩ : (s.station j).house = (s.station j).house ∧ (s.station j).trim = (s.station j).trim)
  cases h with
  | edit h => exact calm.of_rests ht h.booth (State.mode_of_under h.under) h.rests
  | inputs i => exact same _ ht rfl (modStation i _ rfl rfl) (.refl s)
  | count i dir =>
    refine same _ ht rfl (modStation i _ ?_ ?_) (.refl s) <;> unfold Station.countPulse <;> split <;>
      first | rfl | cases dir <;> rfl
  | pulse i interval =>
    have pulse : ∀ st : Station, (st.motorPulse interval).house = st.house ∧ (st.motorPulse interval).trim = st.trim := by
      intro st
      unfold Station.motorPulse
      repeat' split
      all_goals exact ⟨rfl, rfl⟩
    exact same _ ht rfl (modStation i _ (pulse _).1 (pulse _).2) (.refl s)
  | stopped i => exact same _ ht rfl (modStation i _ rfl rfl) (.refl s)
  | resetHoldEnd i p was => exact calm.resetHoldEnd order p was
  | takeReset i =>
    refine same _ ht ?_ (fun j => ?_) (fun k => ?_)
    · exact congrArg Fire.booth (s.dropBinding_fire i)
    · show ((State.modStation _ i Station.takeReset).station j).house = _ ∧
        ((State.modStation _ i Station.takeReset).station j).trim = _
      have dropped := s.dropBinding_under i
      rw [State.station_modStation]
      split
      · rename_i hj
        have reset : ∀ st : Station, st.takeReset.house = st.house ∧ st.takeReset.trim = st.trim := by
          intro st; unfold Station.takeReset Station.stopMotor; split <;> exact ⟨rfl, rfl⟩
        rw [hj]
        exact ⟨(reset _).1.trans (dropped i).2.1, (reset _).2.trans (dropped i).1⟩
      · exact ⟨(dropped j).2.1, (dropped j).1⟩
    · rw [State.house_readyTest]
      split
      · rename_i hk
        rw [hk, ← s.dropBinding_engine i]
        exact House.readyTest_rests _
      · rw [← s.dropBinding_engine i]
        exact .refl _
  | assign i h own => exact calm.assign i h own
  | insert h k e =>
    refine same _ ht rfl unmoved ?_
    unfold State.readyTest State.modQueue
    rw [State.modHouse_modHouse]
    exact s.modHouse_rests h _ (House.readyTest_rests { s.house h with queue := (s.house h).queue.insertIdx k e })
  | delete h k e =>
    refine same _ ht rfl unmoved ?_
    unfold State.modQueue
    rw [State.modHouse_modHouse]
    exact s.modHouse_rests h _ (House.readyEmptyTest_rests { s.house h with queue := (s.house h).queue.eraseIdx k })
  | clear h =>
    have cleared : ∀ l : List Entry, (l.foldl State.clearBinding s).houses = s.houses ∧
        (l.foldl State.clearBinding s).fire = s.fire ∧
        ∀ j, (s.station j).Under ((l.foldl State.clearBinding s).station j) := fun l =>
      foldl_keeps (P := fun u => u.houses = s.houses ∧ u.fire = s.fire ∧ ∀ j, (s.station j).Under (u.station j)) _
        (fun u e ⟨houses, fire, under⟩ => ⟨(u.clearBinding_houses e).trans houses, (u.clearBinding_fire e).trans fire,
          fun j => (under j).trans (u.clearBinding_under e j)⟩) l s ⟨rfl, rfl, fun _ => .refl _⟩
    obtain ⟨houses, fire, under⟩ := cleared (s.house h).queue
    refine same _ ht (congrArg Fire.booth fire) (fun j => ⟨(under j).2.1, (under j).1⟩) fun k => ?_
    rw [State.house_modHouse, State.house_of_houses houses, State.house_of_houses houses]
    split
    · rename_i hk
      rw [hk]
      exact House.readyEmptyTest_rests { s.house h with queue := [] }
    · exact .refl _
  | thread i k e =>
    refine same _ ht rfl (fun j => ?_) (fun m => ?_)
    · show ((State.threadCounter _ i).station j).house = _ ∧ ((State.threadCounter _ i).station j).trim = _
      rw [State.station_threadCounter]
      split
      · rename_i hj; rw [hj]; exact ⟨rfl, rfl⟩
      · exact ⟨rfl, rfl⟩
    · rw [State.house_readyTest, State.house_threadCounter, State.house_threadCounter, State.house_modQueue,
        State.house_modQueue]
      split
      · rename_i hm
        rw [hm, if_pos rfl]
        exact House.readyTest_rests_queue _ _
      · exact .refl _
  | unthread i e =>
    refine same _ ht rfl (fun j => ?_) (fun m => ?_)
    · show ((State.holdCounter _ i).station j).house = _ ∧ ((State.holdCounter _ i).station j).trim = _
      rw [State.station_holdCounter]
      split
      · rename_i hj; rw [hj]; exact ⟨rfl, rfl⟩
      · exact ⟨rfl, rfl⟩
    · rw [State.house_readyTest]
      show EngineState.Rests _ (if m = (s.station i).house then ((s.modQueue _ _).house _).readyTest else
        (s.modQueue _ _).house m).engine
      rw [State.house_modQueue, State.house_modQueue]
      split
      · rename_i hm
        rw [hm, if_pos rfl]
        exact House.readyTest_rests_queue _ _
      · exact .refl _
  | endShow h was =>
    have booth := endShow_keeps (P := fun u => u.fire.booth = s.fire.booth) (fun _ _ e b => e.booth.trans b)
      (fun _ _ b => b) (s := s) (h := h) rfl
    intro inForce
    rw [booth] at inForce
    obtain engine | ⟨engine, -⟩ := calm inForce h <;> rw [engine] at was <;> cases was
  | acknowledge h was =>
    exact same _ ht rfl unmoved (s.modHouse_rests h _ (.of_other (by rw [was]; nofun) (by rw [was]; nofun)))
  | lampOut i new f out leaves =>
    refine same _ ht (by rw [State.setLamp_fire]; rfl) (fun j => ?_) (State.rests_of_houses (State.setLamp_houses _ _ _ _))
    have body := (State.setLamp_body (s.modStation i f) i j new none).seat
    obtain ⟨house, trim⟩ := modStation i f (by rw [leaves.station]) (by rw [leaves.station]) j
    exact ⟨body.1.trans house, body.2.1.trans trim⟩
  | requeue i cls f was leaves =>
    refine same _ ht (by rw [State.testGrant_fire, State.setLamp_fire]; rfl) (fun j => ?_)
      (State.rests_of_houses ((State.testGrant_houses _).trans (State.setLamp_houses _ _ _ _)))
    have body := ((State.setLamp_body (s.modStation i f) i j .queued cls).trans (State.testGrant_body _ j)).seat
    obtain ⟨house, trim⟩ := modStation i f (by rw [leaves.station]) (by rw [leaves.station]) j
    exact ⟨body.1.trans house, body.2.1.trans trim⟩
  | established i =>
    exact same _ ht (by rw [State.setLamp_fire]) (fun j => ⟨(s.setLamp_body i j _ _).seat.1, (s.setLamp_body i j _ _).seat.2.1⟩)
      (State.rests_of_houses (State.setLamp_houses _ _ _ _))
  | burn i =>
    exact same _ ht (by rw [State.setLamp_fire]) (fun j => ⟨(s.setLamp_body i j _ _).seat.1, (s.setLamp_body i j _ _).seat.2.1⟩)
      (State.rests_of_houses (State.setLamp_houses _ _ _ _))
  | counted i => exact same _ ht rfl (modStation i _ rfl rfl) (.refl s)
  | sampled i => exact same _ ht rfl (modStation i _ rfl rfl) (.refl s)
  | burnsOn i f was burns =>
    exact same _ ht rfl (modStation i f (by rw [burns.station]) (by rw [burns.station])) (.refl s)
  | jogs i f jogs => exact same _ ht rfl (modStation i f (by rw [jogs.station]) (by rw [jogs.station])) (.refl s)
  | bucket i => exact same _ ht rfl (modStation i _ rfl rfl) (.refl s)
  | params i => exact same _ ht rfl (modStation i _ rfl rfl) (.refl s)
  | rechargeEnd =>
    exact same _ ht (by rw [State.testGrant_fire]) (fun j => ⟨(State.testGrant_body _ j).seat.1, (State.testGrant_body _ j).seat.2.1⟩)
      (State.rests_of_houses (State.testGrant_houses _))
  | relight h f => exact same _ ht rfl unmoved (s.modHouse_rests h _ (.refl _))
  | fire f booth => exact same _ ht booth unmoved (.refl s)
  | boothTrip cause => exact fun _ => s.boothTripActions_atRest cause
  | fireClear =>
    intro inForce
    rw [s.fireClear_booth] at inForce
    cases inForce
  | _ => exact same _ ht rfl unmoved (.refl s)

theorem act_keeps_boothCore (s t : State) (h : Act s t) (hs : BoothCore s) : BoothCore t := by
  obtain ⟨station, lamp, order, -⟩ := id hs
  have ordered := act_keeps_orderInv s t h order
  exact ⟨act_keeps_stationInv s t h station, act_keeps_lampInv s t h lamp, ordered, Calm.act h hs ordered⟩

theorem BoothCore.boothReset {s : State} (hs : BoothCore s) : BoothCore s.boothReset := by
  have fire : s.boothReset.fire = s.fire :=
    boothReset_keeps (P := fun u => u.fire = s.fire) (fun u i hu => (u.boundByTrip_station _ i i).1.trans hu)
      (fun u h hu => by unfold State.suspendAtReset; split <;> exact hu) rfl
  exact ⟨StationInv.boothReset s, LampInv.boothReset hs.2.1, OrderInv.boothReset s,
    fun inForce => s.boothReset_atRest (fire ▸ inForce)⟩

theorem powerOn_boothCore (p : Straps) (s t : State) (h : exec (.powerOn p) s = .next t) : BoothCore t := by
  refine ⟨powerOn_stationInv p s t h, powerOn_lampInv p s t h, powerOn_orderInv p s t h, fun inForce => ?_⟩
  rw [(powerOn_station h .s1).2.2] at inForce
  cases inForce

/-- The pins stand as the records give them after every command (R11, R13, R139). -/
theorem exec_pins {c : Instr} {s t : State} (h : exec c s = .next t) : t.pins = t.outputs := by
  obtain ⟨u, hu, -⟩ := exec_goesOn c s
  rw [h] at hu
  cases hu
  exact u.settle_pins

/-- Settles O60: the houses at rest with the invariants of O54, O55 and O57; nothing runs or burns at tripped stations. -/
theorem boothTripHoldsTheBooth : Obligations.BoothTripHoldsTheBooth := by
  intro s t hs h
  obtain ⟨core, pins⟩ := (boothInv_iff s).1 hs
  refine (boothInv_iff t).2 ⟨step_keeps (P := BoothCore) (fun _ _ h => h) act_keeps_boothCore
    (fun _ => BoothCore.boothReset) (fun _ _ h => h)
    powerOn_boothCore (fun _ _ h => h) core h, ?_⟩
  unfold step at h
  split at h
  · cases h; exact pins
  · exact exec_pins h

end Sys2Proof.Machine

/-!
The invariant of the line unit (R169 to R172, R175). Outside the line unit a command only hands over warnings, asserts
ATTENTION, reports or deasserts (`LineUnit.Told`); the rows of the line unit are taken one by one.
-/

namespace Sys2Proof.Machine

/-! ### Warnings -/

/-- The kind and the subject of a warning: the reason of MISSED plays no part (R175). -/
def Warning.subject : Warning → Warning
  | .missed h _ => .missed h .sensor
  | w => w

theorem Warning.same_iff (a b : Warning) : Warning.same a b = true ↔ a.subject = b.subject := by
  unfold Warning.same
  split
  · simp [Warning.subject]
  · rename_i differ
    cases a with
    | missed h r =>
      cases b with
      | missed k q => exact absurd rfl (differ h r k q rfl)
      | _ => simp [Warning.subject]
    | _ =>
      cases b <;> simp [Warning.subject]

theorem Warning.same_comm (a b : Warning) : Warning.same a b = Warning.same b a := by
  rw [Bool.eq_iff_iff, Warning.same_iff, Warning.same_iff, eq_comm]

/-- Warnings alike to one warning are alike to each other. -/
theorem Warning.same_trans {a b c : Warning} (h : Warning.same c a = true) (k : Warning.same c b = true) :
    Warning.same a b = true := by
  rw [Warning.same_iff] at *
  rw [← h, k]

/-- Each warning stands once (R175). -/
def WarningsOnce (l : List Warning) : Prop := l.Pairwise fun a b => Warning.same a b = false

theorem WarningsOnce.add {l : List Warning} (h : WarningsOnce l) (w : Warning) : WarningsOnce (addWarning w l) := by
  unfold addWarning
  split
  · unfold WarningsOnce
    rw [List.pairwise_map]
    refine h.imp fun {a b} hab => ?_
    split <;> split
    · rename_i ha hb
      rw [Warning.same_trans ha hb] at hab
      cases hab
    · rename_i hb
      simpa using hb
    · rename_i ha _
      rw [Warning.same_comm]
      simpa using ha
    · exact hab
  · rename_i hw
    refine List.pairwise_append.2 ⟨h, List.pairwise_singleton _ _, fun a ha b hb => ?_⟩
    rw [List.mem_singleton.1 hb, Warning.same_comm]
    have := List.any_eq_false.1 (Bool.eq_false_iff.2 hw) a ha
    simpa using this

/-! ### What commands outside the line unit tell it -/

/-- The line unit with warnings handed over or reported, and ATTENTION asserted or deasserted. -/
structure LineUnit.Told (a b : LineUnit) : Prop where
  unit : b = { a with warnings := b.warnings, attention := b.attention, sinceReset := b.sinceReset }
  once : WarningsOnce a.warnings → WarningsOnce b.warnings

theorem LineUnit.Told.refl (a : LineUnit) : a.Told a := ⟨rfl, fun h => h⟩

theorem LineUnit.Told.trans {a b c : LineUnit} (h : a.Told b) (k : b.Told c) : a.Told c :=
  ⟨by rw [k.unit, h.unit], fun w => k.once (h.once w)⟩

theorem LineUnit.warned_told (l : LineUnit) (w : Warning) : l.Told (l.warned w) := ⟨rfl, fun h => h.add w⟩

theorem LineUnit.Told.of_eq {a b : LineUnit} (h : b = a) : a.Told b := h ▸ .refl a

theorem State.setLamp_told (s : State) (i : StationId) (new : LampState) (cls : Option StrikeClass) :
    s.line.Told (s.setLamp i new cls).line := by
  obtain ⟨-, -, -, -, -, -, -, line⟩ := s.setLamp_frame i new cls
  rw [line]
  split
  · exact s.line.warned_told _
  · exact .refl _

theorem State.testGrant_told (s : State) : s.line.Told s.testGrant.line := by
  obtain h | ⟨k, -, -, -, -, h⟩ := s.testGrant_cases <;> rw [h]
  · exact .refl _
  · exact s.setLamp_told k .striking none

theorem State.extinguish_told (s : State) (i : StationId) : s.line.Told (s.extinguish i).line :=
  .of_eq (s.extinguish_frame i).2.2.2.2.1

theorem Edit.told {s t : State} (h : Edit s t) : s.line.Told t.line := by
  cases h with
  | trip i cause =>
    exact State.extinguish_told (s.modStation i fun st => { st.stopMotor with
      trip := some cause, demandOpen := false, csOpen := false
      channel := { st.channel with jog := none, fsPulses := 0 } }) i
  | extinguish i => exact s.extinguish_told i
  | strike i => exact (State.setLamp_told (s.modLamp i _) i _ _).trans (State.testGrant_told _)
  | capture cause i => exact ⟨rfl, fun h => h⟩
  | latch w => exact s.line.warned_told w
  | attention => exact ⟨rfl, fun h => h⟩
  | _ => exact .refl _

theorem Act.told {s t : State} (h : Act s t) : s.line.Told t.line := by
  have edit : ∀ u v : State, Edit u v → s.line.Told u.line → s.line.Told v.line := fun _ _ e h => h.trans e.told
  cases h with
  | edit h => exact h.told
  | resetHoldEnd i p =>
    exact resetHoldEnd_keeps (P := fun u => s.line.Told u.line) edit (fun _ _ _ _ h => h) (.refl s.line)
  | takeReset i =>
    have line : (s.dropBinding i).line = s.line := by
      unfold State.dropBinding
      split
      · split <;> rfl
      · rfl
    exact .of_eq line
  | clear h =>
    refine .of_eq (foldl_keeps (P := fun u => u.line = s.line) State.clearBinding (fun u e hu => ?_) (s.house h).queue s rfl)
    unfold State.clearBinding
    split
    · split <;> exact hu
    · exact hu
  | endShow h => exact endShow_keeps (P := fun u => s.line.Told u.line) edit (fun _ _ h => h) (.refl _)
  | lampOut i new => exact State.setLamp_told (s.modStation i _) i new none
  | requeue i cls => exact (State.setLamp_told (s.modStation i _) i .queued cls).trans (State.testGrant_told _)
  | established i => exact s.setLamp_told i .establish none
  | burn i => exact s.setLamp_told i .burn none
  | rechargeEnd => exact State.testGrant_told { s with arbiter := { s.arbiter with supply := .free, recharge := false } }
  | boothTrip cause => exact boothTripActions_keeps (P := fun u => s.line.Told u.line) edit (fun _ _ h => h) (.refl _)
  | fireClear =>
    exact fireClear_keeps (P := fun u => s.line.Told u.line) (fun _ _ h => h) (fun _ _ h => h) (.refl _)
  | reported => exact ⟨rfl, fun _ => List.Pairwise.nil⟩
  | silenced => exact ⟨rfl, fun h => h⟩
  | _ => exact .refl _

theorem Acts.told {s t : State} (h : Acts s t) : s.line.Told t.line :=
  h.keeps (P := fun u => s.line.Told u.line) (fun _ _ a h => h.trans a.told) (.refl _)

/-! ### The line unit -/

/-- What `LineInv` says, of the line unit alone. -/
def LineUnit.Ok (l : LineUnit) : Prop :=
  l.buffer.length ≤ 64 ∧ l.owed ≤ 255 ∧
    (l.transmit = .idle → l.waiting = none ∧ l.owed = 0 ∧ l.rsReply = false ∧ l.timer ≠ .suspended) ∧
    (l.transmit = .sending → l.timer ≠ .running) ∧ WarningsOnce l.warnings

theorem lineInv_iff (s : State) : LineInv s ↔ s.line.Ok := Iff.rfl

theorem LineUnit.Ok.told {a b : LineUnit} (h : a.Ok) (k : a.Told b) : b.Ok := by
  obtain ⟨buffer, owed, idle, sending, warnings⟩ := h
  have once := k.once warnings
  rw [k.unit]
  exact ⟨buffer, owed, idle, sending, once⟩

/-- Any line unit with its buffer, its owed count and its warnings in order may start a reply (R172). -/
theorem startReply_ok {s : State} (lead : Text) (r : Reply) (buffer : s.line.buffer.length ≤ 64)
    (owed : s.line.owed ≤ 255) (once : WarningsOnce s.line.warnings) : (s.startReply lead r).line.Ok := by
  refine ⟨buffer, owed, nofun, fun _ => ?_, once⟩
  show s.line.timer.suspend ≠ .running
  cases s.line.timer <;> nofun

/-- An answer leaves a line unit that may start its reply. -/
theorem Moves.line {s t : State} (h : Moves s t) (buffer : s.line.buffer.length ≤ 64) (owed : s.line.owed ≤ 255)
    (once : WarningsOnce s.line.warnings) :
    t.line.buffer.length ≤ 64 ∧ t.line.owed ≤ 255 ∧ WarningsOnce t.line.warnings := by
  obtain h | rfl := h
  · obtain ⟨unit, warns⟩ := h.told
    have := warns once
    rw [unit]
    exact ⟨buffer, owed, this⟩
  · refine boothReset_keeps (P := fun u => u.line.buffer.length ≤ 64 ∧ u.line.owed ≤ 255 ∧ WarningsOnce u.line.warnings)
      (fun u i hu => ?_) (fun u h hu => ?_) ⟨buffer, owed, List.Pairwise.nil⟩
    · unfold State.boundByTrip; split <;> exact hu
    · unfold State.suspendAtReset; split <;> exact hu

theorem takeLine_ok {s : State} (lead : Text) (l : Line) (buffer : s.line.buffer.length ≤ 64)
    (owed : s.line.owed ≤ 255) (once : WarningsOnce s.line.warnings) : (s.takeLine lead l).line.Ok := by
  obtain ⟨h1, h2, h3⟩ := (answerLine_moves l s).line buffer owed once
  exact startReply_ok lead _ h1 h2 h3

/-- A complete line, from a console row (R169, R170). -/
theorem consoleRow_ok {s : State} (hs : s.line.Ok) (c : Instr) :
    ∃ u, consoleRow c (answer c) s = done u ∧ u.line.Ok := by
  obtain ⟨buffer, owed, idle, sending, once⟩ := id hs
  unfold consoleRow
  split
  · rename_i hw
    refine ⟨_, rfl, buffer, Nat.min_le_right _ _, fun h => ?_, sending, once⟩
    rw [(idle h).1] at hw
    cases hw
  · split
    · rename_i ht
      refine ⟨_, rfl, buffer, owed, fun off => ?_, sending, once⟩
      rw [show s.line.transmit = .idle from off] at ht
      cases ht
    · obtain ⟨h1, h2, h3⟩ := (answer_moves c s).line buffer owed once
      exact ⟨_, rfl, startReply_ok _ _ h1 h2 h3⟩

theorem LineUnit.Ok.clearLine {l : LineUnit} (h : l.Ok) : l.clearLine.Ok := by
  obtain ⟨-, owed, idle, -, once⟩ := h
  exact ⟨Nat.zero_le _, owed, fun h => ⟨(idle h).1, (idle h).2.1, (idle h).2.2.1, nofun⟩, fun _ => nofun, once⟩

theorem receiveCr_ok {s : State} (hs : s.line.Ok) : s.receiveCr.line.Ok := by
  obtain ⟨-, owed, idle, -, once⟩ := id hs
  have cleared := hs.clearLine
  unfold State.receiveCr
  dsimp only
  split
  · rename_i hw
    refine ⟨Nat.zero_le _, Nat.min_le_right _ _, fun h => ?_, fun _ => nofun, once⟩
    rw [(idle h).1] at hw
    cases hw
  · split
    · rename_i ht
      refine ⟨Nat.zero_le _, owed, fun off => ?_, fun _ => nofun, once⟩
      rw [show s.line.transmit = .idle from off] at ht
      cases ht
    · exact takeLine_ok _ _ (Nat.zero_le _) owed once

theorem LineUnit.Ok.markLost {l : LineUnit} (h : l.Ok) : l.markLost.Ok := by
  unfold LineUnit.markLost
  split <;> exact h

theorem LineUnit.Ok.startTimer {l : LineUnit} (h : l.Ok) : l.startTimer.Ok := by
  obtain ⟨buffer, owed, idle, -, once⟩ := h
  unfold LineUnit.startTimer
  cases ht : l.transmit with
  | idle =>
    obtain ⟨waiting, none_, rs, -⟩ := idle ht
    exact ⟨buffer, owed, fun _ => ⟨waiting, none_, rs, nofun⟩, nofun, once⟩
  | sending => exact ⟨buffer, owed, nofun, fun _ => nofun, once⟩

theorem LineUnit.Ok.store {l : LineUnit} (h : l.Ok) (c : Char) : (l.store c).Ok := by
  obtain ⟨buffer, rest⟩ := id h
  unfold LineUnit.store
  split
  · exact h
  · split
    · refine ⟨?_, rest⟩
      show (l.buffer ++ [c]).length ≤ 64
      rw [List.length_append, List.length_singleton]
      omega
    · exact h

theorem LineUnit.Ok.echoChar {l : LineUnit} (h : l.Ok) (c : Char) : (l.echoChar c).Ok := by
  unfold LineUnit.echoChar
  split <;> exact h

theorem LineUnit.Ok.endReply {l : LineUnit} (h : l.Ok) (waiting : l.waiting = none) (owed : l.owed = 0) : l.endReply.Ok := by
  obtain ⟨buffer, -, -, -, once⟩ := h
  refine ⟨buffer, by rw [show l.endReply.owed = l.owed from rfl, owed]; exact Nat.zero_le _,
    fun _ => ⟨waiting, owed, rfl, ?_⟩, nofun, once⟩
  show (match l.timer with | .notRunning => CharTimer.notRunning | .running | .suspended => .running) ≠ .suspended
  cases l.timer <;> nofun

theorem LineUnit.initial_ok (speed : Speed) (format : CharFormat) (echo : Bool) :
    (LineUnit.initial speed format echo).Ok :=
  ⟨Nat.zero_le _, Nat.zero_le _, fun _ => ⟨rfl, rfl, rfl, nofun⟩, nofun, List.Pairwise.nil⟩

/-- The invariant of the line unit through every command. -/
theorem exec_keeps_lineInv {c : Instr} {s t : State} (hs : s.line.Ok) (h : exec c s = .next t) : t.line.Ok := by
  have of_done : ∀ {o : Host.Outcome State Fault Refusal}, o = .next t → (∃ u, o = done u ∧ u.line.Ok) → t.line.Ok := by
    rintro o ho ⟨u, rfl, hu⟩
    cases ho
    exact hu
  obtain ⟨buffer, owed, idle, sending, once⟩ := id hs
  cases hc : c.isConsole with
  | true =>
    rw [exec_console hc] at h
    exact of_done h (consoleRow_ok hs c)
  | false =>
    obtain ⟨u, ho, hu⟩ | ⟨p, rfl⟩ | ⟨frame, stop, rfl⟩ | rfl | rfl := exec_event_ends hc s
    · exact of_done h ⟨u, ho, hs.told hu.told⟩
    · cases h
      exact LineUnit.initial_ok _ _ _
    · refine of_done h ?_
      show ∃ u, execCharacterReceived frame stop s = done u ∧ u.line.Ok
      unfold execCharacterReceived
      split
      · exact ⟨_, rfl, hs.markLost.startTimer⟩
      · split
        · exact ⟨_, rfl, hs⟩
        · split
          · exact ⟨_, rfl, receiveCr_ok hs⟩
          · exact ⟨_, rfl, ((hs.markLost.store _).startTimer).echoChar _⟩
    · refine of_done h ?_
      show ∃ u, execCharacterTimeout s = done u ∧ u.line.Ok
      unfold execCharacterTimeout
      split
      · exact ⟨_, rfl, startReply_ok _ _ (Nat.zero_le _) owed once⟩
      · exact ⟨_, rfl, hs⟩
    · refine of_done h ?_
      show ∃ u, execReplyEnd s = done u ∧ u.line.Ok
      unfold execReplyEnd
      dsimp only
      split
      · split
        · exact ⟨_, rfl, takeLine_ok _ _ buffer owed once⟩
        · rename_i hw
          split
          · exact ⟨_, rfl, startReply_ok _ _ buffer ((Nat.sub_le _ _).trans owed) once⟩
          · rename_i ho
            exact ⟨_, rfl, hs.endReply hw (by omega)⟩
      · exact ⟨_, rfl, hs⟩

/-- Settles O59: the rows outside the line unit by `Acts.told`, its own rows one by one. -/
theorem lineUnitStaysConsistent : Obligations.LineUnitStaysConsistent := by
  intro s t hs h
  rw [lineInv_iff] at *
  unfold step at h
  split at h
  · cases h; exact hs
  · refine exec_keeps_lineInv ?_ h
    exact hs

end Sys2Proof.Machine

/-!
The machine as a whole: a step, POWER_ON, and the invariants in the state after reset.
-/

namespace Sys2Proof.Machine

/-- Settles O1: both by the definition of a step. -/
theorem stepRunsTheFrontCommand : Obligations.StepRunsTheFrontCommand := fun _ _ _ => ⟨rfl, rfl⟩

theorem lineFormat_eq (p : Straps) : lineFormat p = if p.format = .closed then .even7 else .none8 := by
  unfold lineFormat
  cases p.format <;> rfl

theorem lineEcho_eq (p : Straps) : lineEcho p = decide (p.echo = .closed) := by
  unfold lineEcho
  cases p.echo <;> rfl

theorem lineSpeed_eq (p : Straps) : lineSpeed p = match p.speedA, p.speedB with
    | .closed, .closed => .baud110
    | .closed, .opened => .baud300
    | .opened, .closed => .baud1200
    | .opened, .opened => .baud2400 := by
  unfold lineSpeed
  cases p.speedA <;> cases p.speedB <;> rfl

/-- POWER_ON of the reset straps gives the reset state: its outputs are all released, so they stand as the records give
them. -/
theorem exec_powerOn_reset : exec (.powerOn Straps.reset) State.reset = .next State.reset := rfl

/-- The records that POWER_ON builds, its straps read. -/
theorem exec_powerOn (p : Straps) (s : State) : ∃ t, exec (.powerOn p) s = .next t ∧ t.pending = s.pending ∧
    t.straps = p ∧ (∀ i, t.station i = Station.powerOn p i) ∧ (∀ h, t.house h = House.initial) ∧
    t.clock = { mains := p.mains, cycles := 0, time := 0, isSet := false } ∧ t.arbiter = Arbiter.initial ∧
    t.fire = Fire.initial ∧ t.line = LineUnit.initial (lineSpeed p) (lineFormat p) (lineEcho p) :=
  ⟨_, rfl, rfl, rfl, PerStation.get_build _, PerHouse.get_build _, rfl, rfl, rfl, rfl⟩

/-- Settles O3: the record that POWER_ON builds, read part by part. -/
theorem powerOnTakesPowerOnValues : Obligations.PowerOnTakesPowerOnValues := by
  refine ⟨fun p s => ?_, exec_powerOn_reset⟩
  obtain ⟨t, ht, pending, straps, stations, houses, clock, arbiter, fire, line⟩ := exec_powerOn p s
  refine ⟨t, ht, pending, straps, fun i => ?_, fun i => ?_, houses, clock, arbiter, ?_⟩
  · rw [stations]
    cases i <;> rfl
  · rw [stations]
    refine ⟨?_, ?_, ?_, ?_⟩ <;> intro h <;> unfold Station.powerOn <;> rw [h] <;> exact ⟨rfl, rfl⟩
  · rw [fire, line, lineSpeed_eq, lineFormat_eq, lineEcho_eq]
    exact ⟨rfl, rfl, rfl, rfl, rfl, rfl, rfl, rfl⟩

/-- Settles O53: the state after reset is what POWER_ON gives. -/
theorem resetMeetsTheInvariants : Obligations.ResetMeetsTheInvariants := by
  have h := exec_powerOn_reset
  have lamps := powerOn_lampInv _ _ _ h
  refine ⟨powerOn_stationInv _ _ _ h, lamps, fun k => ?_, powerOn_orderInv _ _ _ h, ⟨lamps, fun i => ?_⟩, fun k => ?_,
    ?_, ?_⟩
  · rw [powerOn_houses h]
    exact ⟨Nat.zero_le _, fun e he => by cases he⟩
  · rw [(powerOn_station h i).1]
    exact Station.initial_arcInv _ _
  · rw [powerOn_houses h]
    exact Light.initial_inRange
  · exact LineUnit.initial_ok _ _ _
  · exact (boothInv_iff _).2 ⟨powerOn_boothCore _ _ _ h, exec_pins h⟩

end Sys2Proof.Machine

/-!
The console line read back (R173, R181). First numbers in decimal, then words joined by single spaces, then the words of
each kind of argument, then the forms of the command table.
-/

namespace Sys2Proof.Machine

/-! ### Decimal numbers -/

theorem digitChar_isDecimal {d : Nat} (h : d < 10) : isDecimal (digitChar d) = true := by
  interval_cases d <;> rfl

theorem digitValue_digitChar {d : Nat} (h : d < 10) : digitValue (digitChar d) = d := by
  interval_cases d <;> rfl

theorem digitsRev_isDecimal (fuel n : Nat) : ∀ c ∈ digitsRev fuel n, isDecimal c = true := by
  induction fuel generalizing n with
  | zero => simpa [digitsRev] using digitChar_isDecimal (Nat.mod_lt n (by decide))
  | succ fuel ih =>
    unfold digitsRev
    split
    · rename_i h
      simpa using digitChar_isDecimal h
    · exact List.forall_mem_cons.2 ⟨digitChar_isDecimal (Nat.mod_lt n (by decide)), ih _⟩

theorem digitsRev_ne_nil (fuel n : Nat) : digitsRev fuel n ≠ [] := by
  cases fuel with
  | zero => nofun
  | succ fuel => unfold digitsRev; split <;> nofun

/-- A number below 10 to the k has at most k digits. -/
theorem digitsRev_length (fuel : Nat) {n k : Nat} (hk : n < 10 ^ (k + 1)) : (digitsRev fuel n).length ≤ k + 1 := by
  induction fuel generalizing n k with
  | zero => simp [digitsRev]
  | succ fuel ih =>
    unfold digitsRev
    split
    · simp
    · rename_i hn
      cases k with
      | zero => omega
      | succ k =>
        have := ih (n := n / 10) (k := k) (by rw [pow_succ] at hk; omega)
        simpa using this

/-- The digits, from the least significant one, give the number back. -/
theorem digitsRev_value {fuel n : Nat} (hn : n ≤ fuel) :
    (digitsRev fuel n).foldr (fun c v => v * 10 + digitValue c) 0 = n := by
  induction fuel generalizing n with
  | zero =>
    obtain rfl := Nat.le_zero.1 hn
    rfl
  | succ fuel ih =>
    unfold digitsRev
    split
    · rename_i h
      simp [digitValue_digitChar h]
    · rw [List.foldr_cons, ih (by omega), digitValue_digitChar (Nat.mod_lt n (by decide))]
      omega

theorem parseDigits_decimal {n : Nat} (h : n ≤ 999999) : parseDigits (decimal n) = some n := by
  have hpos : 0 < (digitsRev n n).length := List.length_pos_of_ne_nil (digitsRev_ne_nil n n)
  have hlen : (digitsRev n n).length ≤ 6 := digitsRev_length n (k := 5) (by omega)
  have hall : (digitsRev n n).reverse.all isDecimal = true := by
    simpa using digitsRev_isDecimal n n
  have hvalue : (digitsRev n n).reverse.foldl (fun n c => n * 10 + digitValue c) 0 = n := by
    rw [List.foldl_reverse]
    exact digitsRev_value le_rfl
  simp [parseDigits, decimal, hlen, hpos, hall, hvalue]

theorem decimal_isDecimal (n : Nat) : ∀ c ∈ decimal n, isDecimal c = true := fun c hc =>
  digitsRev_isDecimal n n c (List.mem_reverse.1 hc)

theorem decimal_ne_nil (n : Nat) : decimal n ≠ [] := fun h =>
  digitsRev_ne_nil n n (List.reverse_eq_nil_iff.1 h)

/-- A decimal number is read as it stands: it does not begin with a minus sign. -/
theorem parseInt_of_decimal (n : Nat) : parseInt (decimal n) = (parseDigits (decimal n)).map fun n => (n : Int) := by
  have hdec := decimal_isDecimal n
  unfold parseInt
  split
  · rename_i ds hds
    exact absurd (hdec '-' (hds ▸ List.mem_cons_self)) (by decide)
  · rfl

@[simp] theorem parseInt_decimalInt {n : Int} (h : numberOk n = true) : parseInt (decimalInt n) = some n := by
  have hle : n.natAbs ≤ 999999 := by simpa [numberOk] using h
  unfold decimalInt
  split
  · have hneg : -((n.natAbs : Nat) : Int) = n := by omega
    rw [parseInt, parseDigits_decimal hle]
    exact congrArg some hneg
  · have hpos : ((n.natAbs : Nat) : Int) = n := by omega
    rw [parseInt_of_decimal, parseDigits_decimal hle]
    exact congrArg some hpos

/-! ### Words of a line -/

/-- A word that a line can carry: not empty, of line characters, without a space. -/
def isWord (w : Text) : Bool := !w.isEmpty && w.all fun c => lineChar c && c != ' '

theorem isWord_iff (w : Text) : isWord w = true ↔ w ≠ [] ∧ ∀ c ∈ w, lineChar c = true ∧ c ≠ ' ' := by
  simp [isWord]

theorem lineChar_of_isDecimal {c : Char} (h : isDecimal c = true) : lineChar c = true ∧ c ≠ ' ' := by
  refine ⟨by simp [lineChar, h], ?_⟩
  rintro rfl
  exact absurd h (by decide)

@[simp] theorem decimalInt_isWord (n : Int) : isWord (decimalInt n) = true := by
  have hdigits : ∀ c ∈ decimal n.natAbs, lineChar c = true ∧ c ≠ ' ' := fun c hc =>
    lineChar_of_isDecimal (decimal_isDecimal _ c hc)
  rw [isWord_iff, decimalInt]
  split
  · exact ⟨nofun, List.forall_mem_cons.2 ⟨by decide, hdigits⟩⟩
  · exact ⟨decimal_ne_nil _, hdigits⟩

theorem label_isWord {l : Text} (h : labelOk l = true) : isWord l = true := by
  simp only [labelOk, Bool.and_eq_true, decide_eq_true_eq, List.all_eq_true, Bool.or_eq_true] at h
  obtain ⟨⟨hpos, _⟩, hall⟩ := h
  refine (isWord_iff l).2 ⟨List.ne_nil_of_length_pos hpos, fun c hc => ?_⟩
  rcases hall c hc with hcap | hdec
  · refine ⟨by simp [lineChar, hcap], ?_⟩
    rintro rfl
    exact absurd hcap (by decide)
  · exact lineChar_of_isDecimal hdec

theorem splitWords_word {w : Text} (hw : isWord w = true) (acc rest : Text) :
    splitWords (w ++ rest) acc = splitWords rest (acc ++ w) := by
  have hchars := ((isWord_iff w).1 hw).2
  clear hw
  induction w generalizing acc with
  | nil => simp
  | cons c w ih =>
    obtain ⟨⟨_, hc⟩, hw⟩ := List.forall_mem_cons.1 hchars
    rw [List.cons_append, splitWords, if_neg hc, ih _ hw, List.append_assoc, List.singleton_append]

theorem splitWords_joinWords {ws : List Text} (h : ws.all isWord = true) : splitWords (joinWords ws) [] = ws := by
  induction ws with
  | nil => rfl
  | cons w ws ih =>
    obtain ⟨hw, hws⟩ : isWord w = true ∧ ws.all isWord = true := by simpa using h
    have hempty : w.isEmpty = false := by simpa using ((isWord_iff w).1 hw).1
    cases ws with
    | nil =>
      have := splitWords_word hw [] []
      simpa [splitWords, joinWords, hempty] using this
    | cons x xs =>
      rw [joinWords, splitWords_word hw, List.nil_append, splitWords, if_pos rfl, hempty]
      · simp [ih hws]
      · nofun

theorem joinWords_lineChar {ws : List Text} (h : ws.all isWord = true) : (joinWords ws).all lineChar = true := by
  induction ws with
  | nil => rfl
  | cons w ws ih =>
    obtain ⟨hw, hws⟩ : isWord w = true ∧ ws.all isWord = true := by simpa using h
    have hall : w.all lineChar = true := List.all_eq_true.2 fun c hc => (((isWord_iff w).1 hw).2 c hc).1
    cases ws with
    | nil => exact hall
    | cons x xs =>
      rw [joinWords, List.all_append, List.all_cons, hall, ih hws]
      · rfl
      · nofun

/-- A line of words is read as its mnemonic and its arguments (R173). -/
theorem parseLine_joinWords {m : Text} {args : List Text} (h : (m :: args).all isWord = true) :
    parseLine (joinWords (m :: args)) = parseCommand m args := by
  simp [parseLine, joinWords_lineChar h, splitWords_joinWords h]

/-! ### Words of arguments -/

theorem parseOnOff_onOffText (b : Bool) : parseOnOff (onOffText b) = some b := by cases b <;> rfl

@[simp] theorem onOffText_isWord (b : Bool) : isWord (onOffText b) = true := by cases b <;> decide

theorem parseCueSource_text (c : CueSource) : parseCueSource (cueSourceText c) = some c := by cases c <;> rfl

@[simp] theorem cueSourceText_isWord (c : CueSource) : isWord (cueSourceText c) = true := by cases c <;> decide

theorem parseDoor_text (d : Door) : parseDoor (doorText d) = some d := by cases d <;> rfl

theorem parseDoorMode_text (m : DoorMode) : parseDoorMode (doorModeText m) = some m := by cases m <;> rfl

/-- What one optional field spells is read back, ahead of the fields behind it (R181). -/
theorem parseFields_field {f : EntryField} (h : f.numbersOk = true) (n : Nat) (rest : List Text) :
    parseFields (n + 1) (f.words ++ rest) = (parseFields n rest).bind fun fs => some (f :: fs) := by
  cases f with
  | first v =>
    have : parseInt (decimalInt v) = some v := parseInt_decimalInt h
    simp [EntryField.words, parseFields, isActionWord, parseField1, this]
  | change v =>
    have : parseInt (decimalInt v) = some v := parseInt_decimalInt h
    simp [EntryField.words, parseFields, isActionWord, parseField1, this]
  | motor v =>
    have : parseInt (decimalInt v) = some v := parseInt_decimalInt h
    simp [EntryField.words, parseFields, isActionWord, parseField1, this]
  | cue c =>
    simp [EntryField.words, parseFields, isActionWord, parseField1, parseCueSource_text]
  | stop b =>
    simp [EntryField.words, parseFields, isActionWord, parseField1, parseOnOff_onOffText]
  | ms l t | pi l t | en l t =>
    simp only [EntryField.numbersOk, Bool.and_eq_true] at h
    have hl := parseInt_decimalInt h.1
    have ht := parseInt_decimalInt h.2
    simp [EntryField.words, parseFields, isActionWord, parseField2, hl, ht]

theorem parseFields_words {fs : List EntryField} (h : ∀ f ∈ fs, f.numbersOk = true) {n : Nat} (hn : fs.length ≤ n) :
    parseFields n (fs.flatMap EntryField.words) = some fs := by
  induction fs generalizing n with
  | nil => cases n <;> rfl
  | cons f fs ih =>
    obtain ⟨hf, hfs⟩ := List.forall_mem_cons.1 h
    obtain ⟨n, rfl⟩ : ∃ m, n = m + 1 := ⟨n - 1, by rw [List.length_cons] at hn; omega⟩
    rw [List.flatMap_cons, parseFields_field hf, ih hfs (Nat.le_of_succ_le_succ hn)]
    rfl

theorem length_le_words (fs : List EntryField) : fs.length ≤ (fs.flatMap EntryField.words).length := by
  induction fs with
  | nil => exact le_rfl
  | cons f fs ih =>
    have hf : 1 ≤ f.words.length := by cases f <;> exact Nat.succ_pos _
    rw [List.flatMap_cons, List.length_append, List.length_cons]
    omega

/-- The words of an entry are read back: its label as written, its length and its fields in their order (R181). -/
theorem parseEntry_words {e : EntryArgs} (h : e.wellFormed = true) : parseEntry e.words = some e := by
  simp only [EntryArgs.wellFormed, Bool.and_eq_true, List.all_eq_true] at h
  obtain ⟨⟨⟨_, hlength⟩, honce⟩, hfields⟩ := h
  simp only [parseEntry, EntryArgs.words, parseInt_decimalInt hlength, parseFields_words hfields (length_le_words _)]
  exact if_pos honce

theorem parseSetting_words (h : Int) {a : SettingArg} (ha : a.wellFormed = true) (hh : numberOk h = true) :
    parseCommand "HS".toList (decimalInt h :: a.words) = some (.hs h (some a)) := by
  have hh := parseInt_decimalInt hh
  cases a with
  | restrike b =>
    simp [parseCommand, SettingArg.words, hh, parseSetting, parseOnOff_onOffText]
  | lead n | margin n | level n | fade n =>
    have hn : parseInt (decimalInt n) = some n := parseInt_decimalInt ha
    simp [parseCommand, SettingArg.words, hh, parseSetting, hn]

theorem parseParam_words {a : ParamArg} (ha : a.wellFormed = true) : parseParam a.words = some a := by
  cases a with
  | default => rfl
  | mode m => cases m <;> rfl
  | vset n | dead n | gain n | thr n =>
    have hn : parseInt (decimalInt n) = some n := parseInt_decimalInt ha
    simp [ParamArg.words, parseParam, hn]

/-! ### Forms of the command table -/

/-- Every command is read from its mnemonic and its arguments (R173). -/
theorem parseCommand_words {i : Instr} (hc : i.isConsole = true) (hw : i.wellFormed = true) :
    ∃ m args, i.words = m :: args ∧ parseCommand m args = some i := by
  cases i with
  | sq n | sr n | ut n | ls n | lx n | lq n | pc n | go n | en n | co n | hq n | hf n | ha n | lr n =>
    have hn := parseInt_decimalInt hw
    exact ⟨_, _, rfl, by simp [parseCommand, parse1, hn]⟩
  | sa a b | pd a b | pq a b | th a b | lc a b | lf a b =>
    simp only [Instr.wellFormed, Bool.and_eq_true] at hw
    have ha := parseInt_decimalInt hw.1
    have hb := parseInt_decimalInt hw.2
    exact ⟨_, _, rfl, by simp [parseCommand, parse2, ha, hb]⟩
  | cq | pu | fq | fc | ft | ss | ak | rs => exact ⟨_, _, rfl, rfl⟩
  | mo n b =>
    have hn := parseInt_decimalInt hw
    exact ⟨_, _, rfl, by simp [parseCommand, hn, parseOnOff_onOffText]⟩
  | doDouser n b =>
    have hn := parseInt_decimalInt hw
    refine ⟨_, _, rfl, ?_⟩
    cases b <;> simp [parseCommand, hn]
  | im n d m =>
    have hn := parseInt_decimalInt hw
    exact ⟨_, _, rfl, by simp [parseCommand, hn, parseDoor_text, parseDoorMode_text]⟩
  | pa h e =>
    simp only [Instr.wellFormed, Bool.and_eq_true] at hw
    have hh := parseInt_decimalInt hw.1
    exact ⟨_, _, rfl, by simp [parseCommand, hh, parseEntry_words hw.2]⟩
  | pi h n e =>
    simp only [Instr.wellFormed, Bool.and_eq_true] at hw
    have hh := parseInt_decimalInt hw.1.1
    have hn := parseInt_decimalInt hw.1.2
    exact ⟨_, _, rfl, by simp [parseCommand, hh, hn, parseEntry_words hw.2]⟩
  | hs h arg =>
    simp only [Instr.wellFormed, Bool.and_eq_true] at hw
    cases arg with
    | none =>
      have hh := parseInt_decimalInt hw.1
      exact ⟨_, _, rfl, by simp [parseCommand, hh]⟩
    | some a => exact ⟨_, _, rfl, parseSetting_words h hw.2 hw.1⟩
  | ck hh mm sec =>
    simp only [Instr.wellFormed, Bool.and_eq_true] at hw
    have hhh := parseInt_decimalInt hw.1.1
    have hmm := parseInt_decimalInt hw.1.2
    cases sec with
    | none => exact ⟨_, _, rfl, by simp [parseCommand, hhh, hmm]⟩
    | some sec =>
      have hsec : parseInt (decimalInt sec) = some sec := parseInt_decimalInt hw.2
      exact ⟨_, _, rfl, by simp [parseCommand, hhh, hmm, hsec]⟩
  | atAlarm h arg =>
    simp only [Instr.wellFormed, Bool.and_eq_true] at hw
    have hh := parseInt_decimalInt hw.1
    cases arg with
    | off => exact ⟨_, _, rfl, by simp [parseCommand, hh]⟩
    | arm a b =>
      simp only [AlarmArg.wellFormed, Bool.and_eq_true] at hw
      have ha := parseInt_decimalInt hw.2.1
      have hb := parseInt_decimalInt hw.2.2
      exact ⟨_, _, rfl, by simp [parseCommand, hh, ha, hb]⟩
  | lp n arg =>
    simp only [Instr.wellFormed, Bool.and_eq_true] at hw
    have hn := parseInt_decimalInt hw.1
    exact ⟨_, _, rfl, by simp [parseCommand, hn, parseParam_words hw.2]⟩
  | sp mode =>
    cases mode with
    | none => exact ⟨_, _, rfl, rfl⟩
    | some m => cases m <;> exact ⟨_, _, rfl, rfl⟩
  | lv h arg =>
    simp only [Instr.wellFormed, Bool.and_eq_true] at hw
    have hh := parseInt_decimalInt hw.1
    cases arg with
    | query => exact ⟨_, _, rfl, by simp [parseCommand, hh]⟩
    | level l =>
      have hl : parseInt (decimalInt l) = some l := parseInt_decimalInt hw.2
      exact ⟨_, _, rfl, by simp [parseCommand, hh, hl]⟩
    | fade l t =>
      simp only [LightArg.wellFormed, Bool.and_eq_true] at hw
      have hl := parseInt_decimalInt hw.2.1
      have ht := parseInt_decimalInt hw.2.2
      exact ⟨_, _, rfl, by simp [parseCommand, hh, hl, ht]⟩
  | _ => cases hc

/-! ### Every word of a line -/

theorem doorText_isWord (d : Door) : isWord (doorText d) = true := by cases d <;> rfl

theorem doorModeText_isWord (m : DoorMode) : isWord (doorModeText m) = true := by cases m <;> rfl

theorem feedModeText_isWord (m : FeedMode) : isWord (feedModeText m) = true := by cases m <;> rfl

theorem orderModeText_isWord (m : OrderMode) : isWord (orderModeText m) = true := by cases m <;> rfl

theorem fieldWords_areWords (f : EntryField) : f.words.all isWord = true := by
  cases f <;> simp +decide [EntryField.words]

theorem entryWords_areWords {e : EntryArgs} (h : e.wellFormed = true) : e.words.all isWord = true := by
  simp only [EntryArgs.wellFormed, Bool.and_eq_true] at h
  obtain ⟨⟨⟨hlabel, _⟩, _⟩, _⟩ := h
  have hfields : (e.fields.flatMap EntryField.words).all isWord = true := by
    simpa only [List.all_flatMap, List.all_eq_true] using fun f _ => List.all_eq_true.1 (fieldWords_areWords f)
  simp only [EntryArgs.words, List.all_cons, label_isWord hlabel, decimalInt_isWord, hfields, Bool.and_self]

theorem settingWords_areWords (a : SettingArg) : a.words.all isWord = true := by
  cases a <;> simp +decide [SettingArg.words]

theorem paramWords_areWords (a : ParamArg) : a.words.all isWord = true := by
  cases a <;> simp +decide [ParamArg.words, feedModeText_isWord]

/-- Every word of the line that spells a well-formed command is one that a line can carry. -/
theorem words_areWords {i : Instr} (hw : i.wellFormed = true) : i.words.all isWord = true := by
  cases i with
  | pa h e | pi h n e =>
    simp only [Instr.wellFormed, Bool.and_eq_true] at hw
    simpa +decide [Instr.words] using entryWords_areWords hw.2
  | doDouser n b => cases b <;> simp +decide [Instr.words]
  | im n d m => simp +decide [Instr.words, doorText_isWord, doorModeText_isWord]
  | hs h arg =>
    cases arg with
    | none => simp +decide [Instr.words]
    | some a => simpa +decide [Instr.words] using settingWords_areWords a
  | ck a b c => cases c <;> simp +decide [Instr.words]
  | atAlarm h arg => cases arg <;> simp +decide [Instr.words]
  | lp n arg => simpa +decide [Instr.words] using paramWords_areWords arg
  | sp mode => cases mode <;> simp +decide [Instr.words, orderModeText_isWord]
  | lv h arg => cases arg <;> simp +decide [Instr.words]
  | _ => simp +decide [Instr.words]

/-- Settles O4: the words of the line are split where its spaces stand, and each form of the table reads its own words. -/
theorem consoleLineReadsBack : Obligations.ConsoleLineReadsBack := by
  intro i hc hw
  obtain ⟨m, args, hwords, hparse⟩ := parseCommand_words hc hw
  have hall := words_areWords hw
  rw [hwords] at hall
  rw [encodeLine, hwords, parseLine_joinWords hall, hparse]

end Sys2Proof.Machine

/-!
What a console line may leave unchanged: refused lines (R174), numbers out of range, the queries, and the lines SS and
AK of the line unit (R176, R177).
-/

namespace Sys2Proof.Machine

/-! ### Refused lines -/

/-- The state and the reply after a line taken in `s`: where the reply is a refusal, every record is as it was (R174). -/
def KeepsRefused (s : State) (p : State × Reply) : Prop := ∀ c, p.2 = .no c → p.1 = s

theorem KeepsRefused.refuse (s : State) (c : ErrorCode) : KeepsRefused s (refuse s c) := fun _ _ => rfl

/-- A line that is taken is not refused. -/
theorem KeepsRefused.taken {s t : State} {r : Reply} (h : ∀ c, r ≠ .no c) : KeepsRefused s (t, r) :=
  fun c hc => absurd hc (h c)

theorem KeepsRefused.ok {s t : State} : KeepsRefused s (t, .ok) := .taken nofun

theorem Reply.okMoved_ne_no (moved : List Text) (c : ErrorCode) : Reply.okMoved moved ≠ .no c := by
  unfold Reply.okMoved
  split <;> nofun

theorem KeepsRefused.moved {s t : State} {moved : List Text} : KeepsRefused s (t, .okMoved moved) :=
  .taken (Reply.okMoved_ne_no moved)

/-- An answer that leaves every record as it was where it refuses. -/
def RefusalKeeps (a : Answer) : Prop := ∀ s, KeepsRefused s (a s)

theorem onStation_refusalKeeps (n : Int) {a : StationId → Answer} (h : ∀ i, RefusalKeeps (a i)) :
    RefusalKeeps (onStation n a) := fun s => by
  unfold onStation
  split
  · exact .refuse s _
  · exact h _ s

theorem onHouse_refusalKeeps (n : Int) {a : HouseId → Answer} (h : ∀ k, RefusalKeeps (a k)) :
    RefusalKeeps (onHouse n a) := fun s => by
  unfold onHouse
  split
  · exact .refuse s _
  · exact h _ s

theorem onEntry_refusalKeeps (n p : Int) {a : HouseId → Nat → Entry → Answer} (h : ∀ k j e, RefusalKeeps (a k j e)) :
    RefusalKeeps (onEntry n p a) := onHouse_refusalKeeps n fun k s => by
  split
  · split
    · exact .refuse s _
    · exact h _ _ _ s
  · exact .refuse s _

/-- A checked answer leaves every record where a check refuses, and beyond them as what it does past them. -/
theorem checked_keepsRefused {l : List (Bool × ErrorCode)} {act : Answer} {s : State} (h : KeepsRefused s (act s)) :
    KeepsRefused s (checked l act s) := by
  rw [checked_eq]
  split
  · exact .refuse s _
  · exact h

theorem answerMo_refusalKeeps (n : Int) (on : Bool) : RefusalKeeps (answerMo n on) :=
  onStation_refusalKeeps n fun i s => checked_keepsRefused <| by
    cases on with
    | false => exact .ok
    | true =>
      rw [if_pos rfl]
      split
      · exact .refuse s _
      · exact .ok

theorem answerDo_refusalKeeps (n : Int) (toOpen : Bool) : RefusalKeeps (answerDo n toOpen) :=
  onStation_refusalKeeps n fun i s => checked_keepsRefused <| by
    cases toOpen with
    | false => exact .ok
    | true =>
      rw [if_pos rfl]
      split
      · exact .refuse s _
      · exact .ok

theorem answerIm_refusalKeeps (n : Int) (d : Door) (m : DoorMode) : RefusalKeeps (answerIm n d m) :=
  onStation_refusalKeeps n fun i s => checked_keepsRefused <| by
    dsimp only
    split
    · cases d <;> exact .ok
    · exact .ok

theorem answerTh_refusalKeeps (n p : Int) : RefusalKeeps (answerTh n p) :=
  onStation_refusalKeeps n fun i s => checked_keepsRefused <| by
    split
    · exact .refuse s _
    · split
      · exact .refuse s _
      · exact .ok

theorem answerUt_refusalKeeps (n : Int) : RefusalKeeps (answerUt n) :=
  onStation_refusalKeeps n fun i s => checked_keepsRefused <| by
    split
    · exact .refuse s _
    · split
      · exact .refuse s _
      · split <;> exact .ok

theorem answerGo_refusalKeeps (n : Int) : RefusalKeeps (answerGo n) :=
  onHouse_refusalKeeps n fun h s => by
    split
    · exact .refuse s _
    · exact .ok

theorem answerCo_refusalKeeps (n : Int) : RefusalKeeps (answerCo n) :=
  onHouse_refusalKeeps n fun h s => by
    split
    · exact .ok
    · exact .refuse s _

theorem answerHf_refusalKeeps (n : Int) : RefusalKeeps (answerHf n) :=
  onHouse_refusalKeeps n fun h s => by split <;> exact .taken nofun

theorem answerHs_refusalKeeps (n : Int) (arg : Option SettingArg) : RefusalKeeps (answerHs n arg) :=
  onHouse_refusalKeeps n fun h s => by
    cases arg with
    | none => exact .taken nofun
    | some a => exact .moved

theorem answerAt_refusalKeeps (n : Int) (arg : AlarmArg) : RefusalKeeps (answerAt n arg) :=
  onHouse_refusalKeeps n fun h s => by
    cases arg with
    | off => exact .ok
    | arm hh mm => exact checked_keepsRefused .ok

theorem answerLs_refusalKeeps (n : Int) : RefusalKeeps (answerLs n) :=
  onStation_refusalKeeps n fun i s => by
    split
    · exact .refuse s _
    · exact .ok

theorem answerLc_refusalKeeps (n len : Int) : RefusalKeeps (answerLc n len) :=
  onStation_refusalKeeps n fun i s => checked_keepsRefused <| by
    dsimp only
    split
    · exact .refuse s _
    · exact .moved

theorem answerLp_refusalKeeps (n : Int) (arg : ParamArg) : RefusalKeeps (answerLp n arg) :=
  onStation_refusalKeeps n fun i s => checked_keepsRefused <| by
    dsimp only
    split
    · exact .moved
    · exact .refuse s _

theorem answerLv_refusalKeeps (n : Int) (arg : LightArg) : RefusalKeeps (answerLv n arg) :=
  onHouse_refusalKeeps n fun h s => by
    cases arg with
    | query => exact .taken nofun
    | level l | fade l t => exact .moved

theorem answerLr_refusalKeeps (n : Int) : RefusalKeeps (answerLr n) :=
  onHouse_refusalKeeps n fun h s => by
    split
    · exact .refuse s _
    · split <;> exact .ok

theorem answerFq_refusalKeeps : RefusalKeeps answerFq := fun s => by
  unfold answerFq
  split <;> exact .taken nofun

/-- The block that owns a line leaves every record as it was where it refuses the line (R174). -/
theorem answer_refusalKeeps (i : Instr) : RefusalKeeps (answer i) := by
  cases i with
  | mo n on => exact answerMo_refusalKeeps n on
  | doDouser n b => exact answerDo_refusalKeeps n b
  | im n d m => exact answerIm_refusalKeeps n d m
  | sr n | lx n => exact onStation_refusalKeeps n fun _ _ => checked_keepsRefused .ok
  | sa n m => exact onStation_refusalKeeps n fun _ => onHouse_refusalKeeps m fun _ _ => checked_keepsRefused .ok
  | pa n e | pi n p e =>
    exact fun s => checked_keepsRefused (onHouse_refusalKeeps n (fun _ _ => checked_keepsRefused .moved) s)
  | pd n p => exact onEntry_refusalKeeps n p fun _ _ _ _ => checked_keepsRefused .ok
  | pc n | en n | ha n => exact onHouse_refusalKeeps n fun _ _ => checked_keepsRefused .ok
  | pq n p => exact onEntry_refusalKeeps n p fun _ _ _ _ => .taken nofun
  | th n p => exact answerTh_refusalKeeps n p
  | ut n => exact answerUt_refusalKeeps n
  | go n => exact answerGo_refusalKeeps n
  | co n => exact answerCo_refusalKeeps n
  | hf n => exact answerHf_refusalKeeps n
  | hs n arg => exact answerHs_refusalKeeps n arg
  | atAlarm n arg => exact answerAt_refusalKeeps n arg
  | ls n => exact answerLs_refusalKeeps n
  | lc n len => exact answerLc_refusalKeeps n len
  | lf n k => exact onStation_refusalKeeps n fun _ _ => checked_keepsRefused .moved
  | lp n arg => exact answerLp_refusalKeeps n arg
  | sp mode => exact fun s => by cases mode <;> exact .taken nofun
  | lv n arg => exact answerLv_refusalKeeps n arg
  | lr n => exact answerLr_refusalKeeps n
  | fq => exact answerFq_refusalKeeps
  | ck _ _ _ | fc | rs => exact fun _ => checked_keepsRefused .ok
  | sq n | lq n => exact onStation_refusalKeeps n fun _ _ => .taken nofun
  | hq n => exact onHouse_refusalKeeps n fun _ _ => .taken nofun
  | cq | pu | ft | ss | ak => exact fun _ => .taken nofun
  | _ => exact fun s => .refuse s _

/-- The text of a refusal is sent for that refusal alone (R174). -/
theorem Reply.text_eq_no {r : Reply} {c : ErrorCode} (h : r.text = (Reply.no c).text) : r = .no c := by
  have hfirst : (Reply.no c).text.head? = some 'N' := by cases c <;> rfl
  rw [← h] at hfirst
  cases r with
  | ok | okNone => exact absurd hfirst (by decide)
  | clamped moved => exact absurd hfirst (by simp [Reply.text, Reply.words, joinWords])
  | record ws => cases ws <;> exact absurd hfirst (by simp [Reply.text, Reply.words, joinWords])
  | no d =>
    have hd : d.text = c.text := by simpa [Reply.text, Reply.words, joinWords, crLf] using h
    cases c <;> cases d <;> first | rfl | exact absurd hd (by decide)

/-- Settles O5: the text of a refusal is sent for a refusal alone, and no block changes a record where it refuses. -/
theorem refusedLineLeavesEveryRecord : Obligations.RefusedLineLeavesEveryRecord := by
  intro i s t c hc hfree hexec htx
  rw [exec_console_free hc hfree] at hexec
  obtain rfl := Host.Outcome.next.inj hexec
  have hreply : (answer i s).2 = .no c := Reply.text_eq_no (List.append_cancel_left htx)
  have hsame : (answer i s).1 = s := answer_refusalKeeps i s c hreply
  rw [hreply, hsame]
  exact ⟨answered_of_line rfl _, changesOnly_reply (by simp) (fun p _ => by cases p <;> rfl) rfl _ _⟩

/-! ### Numbers out of range -/

theorem onStation_outOfRange {n : Int} (h : n < 1 ∨ 6 < n) (a : StationId → Answer) (s : State) :
    onStation n a s = (s, .no .rg) := by simp [onStation, StationId.ofInt?_none h, refuse]

theorem onHouse_outOfRange {n : Int} (h : n < 1 ∨ 3 < n) (a : HouseId → Answer) (s : State) :
    onHouse n a s = (s, .no .rg) := by simp [onHouse, HouseId.ofInt?_none h, refuse]

/-- SA names a station and a house; either out of range is refused (R4). -/
theorem answerSa_outOfRange {n m : Int} (h : m < 1 ∨ 3 < m) (s : State) : answerSa n m s = (s, .no .rg) := by
  unfold answerSa onStation
  split
  · rfl
  · exact onHouse_outOfRange h _ s

/-- The words of an entry line are checked ahead of its house (R29, R173). -/
theorem checked_words {e : EntryArgs} (hw : e.wellFormed = true) (a : Answer) (s : State) :
    checked [(!entryWordsOk e, .sy)] a s = a s := by
  simp [checked_eq, firstRefusal, entryWordsOk_of_wellFormed hw]

/-- A line that names a station looks its number up first (R18, R23). -/
theorem answer_eq_onStation {i : Instr} {n : Int} (h : stationNumber i = some n) : ∃ a, answer i = onStation n a := by
  cases i <;> cases h <;> exact ⟨_, rfl⟩

theorem answer_outOfRange {i : Instr} {n : Int} (hw : i.wellFormed = true) (s : State)
    (h : stationNumber i = some n ∧ (n < 1 ∨ 6 < n) ∨ houseNumber i = some n ∧ (n < 1 ∨ 3 < n)) :
    answer i s = (s, .no .rg) := by
  rcases h with ⟨hn, hrange⟩ | ⟨hn, hrange⟩
  · obtain ⟨a, ha⟩ := answer_eq_onStation hn
    rw [ha, onStation_outOfRange hrange]
  · have house : ∀ a, answer i = onHouse n a → answer i s = (s, .no .rg) := fun a ha =>
      (congrFun ha s).trans (onHouse_outOfRange hrange a s)
    cases i with
    | sa a b =>
      cases hn
      exact answerSa_outOfRange hrange s
    | pa a e =>
      cases hn
      simp only [Instr.wellFormed, Bool.and_eq_true] at hw
      exact (checked_words hw.2 _ s).trans (onHouse_outOfRange hrange _ s)
    | pi a p e =>
      cases hn
      simp only [Instr.wellFormed, Bool.and_eq_true] at hw
      exact (checked_words hw.2 _ s).trans (onHouse_outOfRange hrange _ s)
    | _ => cases hn <;> exact house _ rfl

theorem isConsole_of_number {i : Instr} (h : (stationNumber i).isSome = true ∨ (houseNumber i).isSome = true) :
    i.isConsole = true := by
  cases i with
  | powerOn _ | tachPulse _ _ _ | runUpLimit _ | stall _ | stopTimer _ | resetHoldEnd _ _ | ldQualified _ _
  | mdQualified _ _ | cuClosing _ | cbClosing _ | pdChange _ _ | ghOpen _ | ltOpen _ | fbOpen _ | boothTripInput _
  | releasePulseEnd _ | mainsCycle | clockSecond | lampWaitTimeout _ | strikePulseEnd _ | rechargeEnd
  | regulationSample _ _ _ | jogStep _ | bucketClose _ | fadeUpdate _ | characterReceived _ _ | characterTimeout
  | replyEnd | tripInputQualifiedClosed _ => exact absurd h (by simp [stationNumber, houseNumber])
  | _ => rfl

/-- Settles O7: every line about a station or a house looks its number up before anything else. -/
theorem numbersOutOfRangeAreRefusedRg : Obligations.NumbersOutOfRangeAreRefusedRg := by
  intro i s n hw hfree h
  have hc : i.isConsole = true := isConsole_of_number <| h.imp (fun h => by rw [h.1]; rfl) fun h => by rw [h.1]; rfl
  exact exec_of_refused hc hfree (answer_outOfRange hw s h)

/-! ### Queries -/

theorem State.pq_taken {s : State} {h : HouseId} {k : Nat} {e : Entry} (hk : (s.house h).queue[k]? = some e)
    (hpos : k < 12) : answer (.pq h.number (k + 1)) s = (s, .record (s.pqWords h k e)) := by
  have hp : positionOk (k + 1) = true := by
    simp only [positionOk, Bool.and_eq_true, decide_eq_true_eq]
    omega
  simp [answer, answerPq, onEntry, hp, hk]

theorem Layer.text_eq (l : Layer) : l.text = if l = .set then "SET".toList else "CLEAR".toList := by cases l <;> rfl

/-- Settles O13: a query's answer is the state as it stands with a record's words. -/
theorem queriesChangeNothing : Obligations.QueriesChangeNothing := by
  intro s hfree
  refine ⟨fun i => ⟨exec_of_unchanged rfl hfree ?_, exec_of_unchanged rfl hfree ?_⟩,
    fun h => ⟨exec_of_unchanged rfl hfree ?_, fun k e hk hpos => exec_of_unchanged rfl hfree (State.pq_taken hk hpos),
      ?lv, ?hs⟩,
    exec_of_unchanged rfl hfree rfl, exec_of_unchanged rfl hfree rfl⟩
  · simp [answer, answerSq]
  · simp [answer, answerLq]
  · simp [answer, answerHq]
  case lv =>
    have ha : answer (.lv h.number .query) s = (s, .record ((s.house h).light.words h)) := by simp [answer, answerLv]
    obtain ⟨t, hexec, hanswered, honly⟩ := exec_of_unchanged rfl hfree ha
    refine ⟨t, hexec, honly, ?_⟩
    simpa only [Light.words, Layer.text_eq, Light.effective_eq] using hanswered
  case hs =>
    have ha : answer (.hs h.number none) s = (s, .record ((s.house h).settings.words h)) := by simp [answer, answerHs]
    obtain ⟨t, hexec, hanswered, honly⟩ := exec_of_unchanged rfl hfree ha
    exact ⟨t, hexec, honly, hanswered⟩

/-! ### SS and AK -/

/-- A line answered by a change of the line unit alone. -/
theorem exec_of_line {c : Instr} (hc : c.isConsole = true) {s : State} (hf : LineFree s) {l : LineUnit} {r : Reply}
    (ha : answer c s = ({ s with line := l }, r)) (hecho : l.echo = s.line.echo) :
    ∃ t, exec c s = .next t ∧ ChangesOnly [.line] s t ∧ t.line = l.sent r := by
  refine ⟨_, exec_console_free hc hf, ?_⟩
  rw [ha]
  refine ⟨⟨fun p hp => ?_, rfl, rfl⟩, by simp [State.startReply, LineUnit.sent, LineUnit.echoCr, hecho]⟩
  cases p with
  | line => exact absurd hp (by simp)
  | straps | station _ | house _ | clock | arbiter | fire | draws => rfl

theorem Capture.text_eq (c : Capture) : c.text = match c with
    | .empty => "EMPTY".toList
    | .locked _ => "LOCKED".toList
    | .read _ => "READ".toList := by cases c <;> rfl

theorem boothWord_eq (b : Option BoothCause) : orNone (fun c => (BoothCause.capture c).text) b = match b with
    | none => "NONE".toList
    | some .alarm => "ALARM".toList
    | some .manual => "MANUAL".toList
    | some .link => "LINK".toList
    | some .console => "CONSOLE".toList := by
  rcases b with _ | b
  · rfl
  · cases b <;> rfl

/-- Settles O11: SS answers the status words as they stand and empties the list; AK drops ATTENTION. -/
theorem statusReportsOnceAndAkDeasserts : Obligations.StatusReportsOnceAndAkDeasserts := by
  intro s hfree
  refine ⟨?_, exec_of_line rfl hfree rfl rfl⟩
  obtain ⟨t, hexec, honly, hline⟩ := exec_of_line (c := .ss) rfl hfree rfl rfl
  refine ⟨t, hexec, honly, hline.trans ?_⟩
  refine congrArg (fun ws => LineUnit.sent _ (.record ws)) ?_
  rw [State.ssWords, Capture.text_eq, boothWord_eq, warningWords]
  simp only [List.isEmpty_iff, List.append_assoc, List.cons_append, List.nil_append] <;> rfl

end Sys2Proof.Machine

/-!
Characters, complete lines and the ends of replies (R168 to R173). First what an event does that changes the line unit
alone, then a received character, then the line that a CR ends, then the character timer.
-/

namespace Sys2Proof.Machine

/-! ### Changes of the line unit -/

/-- An event that changes the line unit changes nothing else. -/
theorem changesOnly_line (s : State) (l : LineUnit) : ChangesOnly [.line] s ({ s with line := l } : State).settle := by
  refine ⟨fun p hp => ?_, rfl, rfl⟩
  cases p with
  | line => exact absurd hp (by simp)
  | straps | station _ | house _ | clock | arbiter | fire | draws => rfl

theorem min_owed (n : Nat) : min (n + 1) 255 = if n < 255 then n + 1 else 255 := by
  split <;> omega

/-! ### A received character -/

/-- Seven data bits and a bit that makes the ones even are what no parity error finds (R168). -/
theorem countOnes_even (frame : BitVec 8) : (countOnes frame % 2 == 0) = true ↔
    (frame.getLsbD 0 ^^ frame.getLsbD 1 ^^ frame.getLsbD 2 ^^ frame.getLsbD 3 ^^
      frame.getLsbD 4 ^^ frame.getLsbD 5 ^^ frame.getLsbD 6 ^^ frame.getLsbD 7) = false := by
  have bits : ∀ a b c d e f g h : Bool, ([a, b, c, d, e, f, g, h].countP id % 2 == 0) = true ↔
      (a ^^ b ^^ c ^^ d ^^ e ^^ f ^^ g ^^ h) = false := by decide
  have hmap : countOnes frame = ((List.range 8).map fun k => frame.getLsbD k).countP id := by
    rw [List.countP_map]
    rfl
  rw [hmap]
  exact bits _ _ _ _ _ _ _ _

theorem CharFormat.read_eq (f : CharFormat) (frame : BitVec 8) (stop : Bool) : f.read frame stop =
    (match f with
      | .even7 =>
        if stop = true ∧ (frame.getLsbD 0 ^^ frame.getLsbD 1 ^^ frame.getLsbD 2 ^^ frame.getLsbD 3 ^^
            frame.getLsbD 4 ^^ frame.getLsbD 5 ^^ frame.getLsbD 6 ^^ frame.getLsbD 7) = false then
          some (Char.ofNat (frame.extractLsb' 0 7).toNat)
        else none
      | .none8 => if stop = true then some (Char.ofNat frame.toNat) else none) := by
  cases f with
  | none8 => rfl
  | even7 =>
    have hdata : (frame.extractLsb' 0 7).toNat = frame.toNat % 128 := by simp
    simp only [CharFormat.read, Bool.and_eq_true, countOnes_even, hdata]

theorem LineUnit.startTimer_timer (l : LineUnit) :
    l.startTimer.timer = if l.transmit = .idle then .running else .suspended := by
  unfold LineUnit.startTimer
  cases l.transmit <;> rfl

/-- A character with an error: discarded, with the line marked ERROR, and LOST while a line waits (R169, R170). -/
theorem LineUnit.receiveError_eq (l : LineUnit) : l.receiveError =
    { l with marks := { l.marks with error := true, lost := l.marks.lost || l.waiting.isSome }
             timer := if l.transmit = .idle then .running else .suspended } := by
  obtain ⟨_, _, _, _, ⟨_, _, _⟩, w, _, _, tx, _, _, _, _, _⟩ := l
  cases w <;> cases tx <;> simp [LineUnit.receiveError, LineUnit.markLost, LineUnit.startTimer]

/-- A line character: stored while there is room, and echoed while the unit is free (R169 to R172). -/
theorem LineUnit.receiveChar_eq (l : LineUnit) (c : Char) : l.receiveChar c =
    { l with
        marks := { l.marks with
          lost := l.marks.lost || l.waiting.isSome
          overlong := l.marks.overlong ||
            (!l.marks.lost && l.waiting.isNone && decide (64 ≤ l.buffer.length)) }
        buffer := if l.marks.lost = false ∧ l.waiting = none ∧ l.buffer.length < 64 then l.buffer ++ [c] else l.buffer
        timer := if l.transmit = .idle then .running else .suspended
        tx := if l.echo = true ∧ l.transmit = .idle ∧ l.waiting = none then [c] else l.tx } := by
  obtain ⟨_, _, echo, buffer, ⟨overlong, _, lost⟩, w, _, _, tx, _, _, _, _, _⟩ := l
  by_cases hroom : buffer.length < 64 <;> cases w <;> cases lost <;> cases tx <;> cases echo <;>
    simp [LineUnit.receiveChar, LineUnit.markLost, LineUnit.store, LineUnit.startTimer, LineUnit.echoChar, hroom,
      Nat.le_of_not_lt]

/-- The line unit after what a frame carries, a CR apart (R168 to R172). -/
def LineUnit.receive (l : LineUnit) : Option Char → LineUnit
  | none => l.receiveError
  | some c => if c = '\n' then l else l.receiveChar c

/-- CHARACTER_RECEIVED of anything but a CR changes the line unit alone. -/
theorem exec_character {s : State} {frame : BitVec 8} {stop : Bool}
    (hcr : s.line.format.read frame stop ≠ some '\r') :
    exec (.characterReceived frame stop) s =
      .next ({ s with line := s.line.receive (s.line.format.read frame stop) } : State).settle := by
  have hexec : exec (.characterReceived frame stop) s = execCharacterReceived frame stop s := rfl
  rw [hexec, execCharacterReceived]
  cases hread : s.line.format.read frame stop with
  | none => rfl
  | some c =>
    have hne : c ≠ '\r' := fun heq => hcr (heq ▸ hread)
    by_cases hlf : c = '\n' <;> simp [LineUnit.receive, hlf, hne]

/-- Settles O8: the frame's bits are the character's by its code, and a received character changes the line unit alone. -/
theorem characterJoinsTheLine : Obligations.CharacterJoinsTheLine := by
  refine ⟨fun i s => ?_, fun s frame stop => ⟨s.line.format.read_eq frame stop, ?_⟩⟩
  · obtain ⟨t, hexec, -⟩ := exec_goesOn i s
    refine ⟨t.settle, hexec, by simp, fun k c f hc hf => ?_⟩
    have hframe : f = t.line.frame c := by
      have hk : t.line.tx[k]? = some c := hc
      simpa [hk, eq_comm] using hf
    subst hframe
    obtain ⟨hstart, hdata, hnone, heven, hstop⟩ := t.line.frame_spec c
    have hlen : (t.line.frame c).data.length = if t.line.format = .even7 then 7 else 8 := by
      rw [hdata, List.length_map, List.length_range]
      cases t.line.format <;> rfl
    refine ⟨hstart, hstop, hlen, fun n hn => ?_, hnone, fun h => ⟨_, heven h, evenParity_even _⟩⟩
    rw [hdata, List.length_map, List.length_range] at hn
    simp [hdata, hn]
  · by_cases hcr : s.line.format.read frame stop = some '\r'
    · obtain ⟨t, hexec, -⟩ := exec_goesOn (.characterReceived frame stop) s
      exact ⟨t.settle, hexec, fun h => absurd hcr h, fun h => by simp [hcr] at h, fun h => by simp [hcr] at h,
        fun c h _ hc => absurd (Option.some.inj (hcr.symm.trans h)).symm hc⟩
    · refine ⟨_, exec_character hcr, fun _ => changesOnly_line s _, fun h => ?_, fun h => ?_, fun c h hlf _ => ?_⟩
      · simp only [h, State.settle_line, LineUnit.receive, LineUnit.receiveError_eq]
      · simp only [h, State.settle_line, LineUnit.receive, if_pos]
      · simp only [h, State.settle_line, LineUnit.receive, if_neg hlf, LineUnit.receiveChar_eq]

/-! ### The line that a CR ends -/

theorem exec_cr {s : State} {frame : BitVec 8} {stop : Bool} (hread : s.line.format.read frame stop = some '\r') :
    exec (.characterReceived frame stop) s = .next s.receiveCr.settle := by
  have hexec : exec (.characterReceived frame stop) s = execCharacterReceived frame stop s := rfl
  simp [hexec, execCharacterReceived, hread]

/-- The line is taken in the event of its CR while the unit is free (R169). -/
theorem State.receiveCr_free {s : State} (h : LineFree s) : s.receiveCr =
    State.takeLine { s with line := s.line.clearLine } s.line.echoCr { text := s.line.buffer, marks := s.line.marks } := by
  simp [State.receiveCr, h.1, h.2]

theorem State.takeLine_marked (s : State) (lead : Text) {l : Line} {c : ErrorCode} (h : l.marks.refusal = some c) :
    s.takeLine lead l = s.startReply lead (.no c) := by
  simp [State.takeLine, answerLine, h, refuse]

theorem State.takeLine_unreadable (s : State) (lead : Text) {l : Line} (h : l.marks.refusal = none)
    (hp : parseLine l.text = none) : s.takeLine lead l = s.startReply lead (.no .sy) := by
  simp [State.takeLine, answerLine, h, hp, refuse]

theorem State.takeLine_command (s : State) (lead : Text) {l : Line} {i : Instr} (h : l.marks.refusal = none)
    (hp : parseLine l.text = some i) :
    s.takeLine lead l = (answer i s).1.startReply lead (answer i s).2 := by
  simp [State.takeLine, answerLine, h, hp]

/-- The refusal by the marks: LOST, then ERROR, then OVERLONG (R171). -/
theorem Marks.refusal_cases (m : Marks) :
    (m.lost = true → m.refusal = some .by_) ∧
      (m.lost = false → m.error = true → m.refusal = some .pe) ∧
      (m.lost = false → m.error = false → m.overlong = true → m.refusal = some .ln) ∧
      (m.lost = false → m.error = false → m.overlong = false → m.refusal = none) := by
  simp +contextual [Marks.refusal, firstRefusal]

/-- A reply started in a state whose line unit alone differs from `s` changes nothing else. -/
theorem changesOnly_startReply (s : State) (l : LineUnit) (lead : Text) (r : Reply) :
    ChangesOnly [.line] s (State.startReply { s with line := l } lead r).settle := changesOnly_line s _

/-- Settles O6: the line unit's own state decides what becomes of a complete line; only a free unit takes it, and a
refusal changes nothing but the reply. -/
theorem busyOrMarkedLinesAreNotRun : Obligations.BusyOrMarkedLinesAreNotRun := by
  refine ⟨fun i s hc => ⟨fun hw => ?_, fun hw ht => ?_⟩, fun s frame stop hread e he => ?_⟩
  · refine ⟨_, (exec_console hc s).trans (consoleRow_waiting _ _ s hw), changesOnly_line s _, ?_⟩
    simp only [State.settle_line, min_owed]
  · exact ⟨_, (exec_console hc s).trans (consoleRow_sending _ _ s hw ht), changesOnly_line s _, rfl⟩
  · subst he
    have refused : ∀ c, LineFree s → s.receiveCr = State.startReply { s with line := s.line.clearLine } s.line.echoCr
        (.no c) → ChangesOnly [.line] s s.receiveCr.settle ∧
          s.receiveCr.settle.line = s.line.clearLine.sent (.no c) := by
      intro c _ hcr
      rw [hcr]
      exact ⟨changesOnly_startReply s _ _ _, rfl⟩
    obtain ⟨hlost, herror, hoverlong, hclear⟩ := s.line.marks.refusal_cases
    refine ⟨_, exec_cr hread, fun hw => ?_, fun hw ht => ?_, fun hfree h => ?_, fun hfree h h' => ?_,
      fun hfree h h' h'' => ?_, fun hfree h h' h'' hp => ?_⟩
    · have hcr : s.receiveCr = { s with line := { s.line.clearLine with owed := min (s.line.owed + 1) 255 } } := by
        simp [State.receiveCr, hw]
      rw [hcr, min_owed]
      exact ⟨changesOnly_line s _, rfl⟩
    · have hcr : s.receiveCr = { s with line := { s.line.clearLine with
          waiting := some { text := s.line.buffer, marks := s.line.marks } } } := by
        simp [State.receiveCr, hw, ht]
      rw [hcr]
      exact ⟨changesOnly_line s _, rfl⟩
    · exact refused _ hfree ((State.receiveCr_free hfree).trans (State.takeLine_marked _ _ (hlost h)))
    · exact refused _ hfree ((State.receiveCr_free hfree).trans (State.takeLine_marked _ _ (herror h h')))
    · exact refused _ hfree ((State.receiveCr_free hfree).trans (State.takeLine_marked _ _ (hoverlong h h' h'')))
    · exact refused _ hfree ((State.receiveCr_free hfree).trans (State.takeLine_unreadable _ _ (hclear h h' h'') hp))

/-- Settles O9: the line is read back as the command that spells it, and the block that owns it answers it either way. -/
theorem crTakesTheLineAsItsCommand : Obligations.CrTakesTheLineAsItsCommand := by
  intro i s frame stop hsend hfree hread hbuffer hmarks
  obtain ⟨⟨hconsole, hwf⟩, -⟩ : (i.isConsole = true ∧ i.wellFormed = true) ∧ _ := by
    simpa only [Instr.sendable, Bool.and_eq_true] using hsend
  have hclear : s.line.marks.refusal = none := by rw [hmarks]; rfl
  have hparse : parseLine s.line.buffer = some i := hbuffer ▸ consoleLineReadsBack i hconsole hwf
  rw [exec_cr hread, State.receiveCr_free hfree, State.takeLine_command _ _ hclear hparse]
  exact (exec_console_free hconsole (s := { s with line := s.line.clearLine }) hfree).symm

end Sys2Proof.Machine

/-!
What each operation leaves alone. `Touches parts s t` says that from s to t nothing moves but the parts named; the shared
operations each touch few parts, and a chain of them touches the parts of its links. A claim's frame is read off the chain.
-/

namespace Sys2Proof.Machine

/-- From s to t no part moves but the parts named, and the waiting commands stand. -/
def Touches (parts : List Part) (s t : State) : Prop := (∀ p, p ∉ parts → p.same s t) ∧ t.pending = s.pending

theorem Part.same_refl (p : Part) (s : State) : p.same s s := by cases p <;> rfl

theorem Part.same_trans {p : Part} {s t u : State} (h : p.same s t) (k : p.same t u) : p.same s u := by
  cases p <;> exact Eq.trans k h

theorem Touches.refl (parts : List Part) (s : State) : Touches parts s s := ⟨fun p _ => p.same_refl s, rfl⟩

theorem Touches.trans {parts : List Part} {s t u : State} (h : Touches parts s t) (k : Touches parts t u) :
    Touches parts s u := ⟨fun p hp => Part.same_trans (h.1 p hp) (k.1 p hp), k.2.trans h.2⟩

theorem Touches.mono {parts more : List Part} {s t : State} (h : Touches parts s t) (sub : parts ⊆ more) :
    Touches more s t := ⟨fun p hp => h.1 p fun hm => hp (sub hm), h.2⟩

theorem Touches.ite {parts : List Part} {s t u : State} {c : Prop} [Decidable c] (h : c → Touches parts s t)
    (k : ¬c → Touches parts s u) : Touches parts s (if c then t else u) := by
  split
  · exact h ‹_›
  · exact k ‹_›

/-- A part that stands as it was need not be named. -/
theorem Touches.without {parts : List Part} {s t : State} (h : Touches parts s t) {p : Part} (hp : p.same s t) :
    Touches (parts.filter (· ≠ p)) s t := by
  refine ⟨fun q hq => ?_, h.2⟩
  by_cases hqp : q = p
  · rw [hqp]
    exact hp
  · exact h.1 q fun hmem => hq (List.mem_filter.2 ⟨hmem, by simpa using hqp⟩)

/-- What a command leaves as it works the outputs out changes only what the command touched. -/
theorem Touches.settle {parts : List Part} {s t : State} (h : Touches parts s t) : ChangesOnly parts s t.settle :=
  ⟨fun p hp => Part.same_trans (h.1 p hp) (by cases p <;> rfl), h.2, rfl⟩

/-- The reply moves the line unit besides. -/
theorem Touches.reply {parts : List Part} {s t : State} (h : Touches parts s t) (line : .line ∈ parts) (lead : Text)
    (r : Reply) : ChangesOnly parts s (t.startReply lead r).settle := changesOnly_reply line h.1 h.2 lead r

/-! ### Reading a frame -/

section
variable {parts : List Part} {s t : State} (h : Touches parts s t)
include h

theorem Touches.station {i : StationId} (hi : .station i ∉ parts) : t.station i = s.station i := h.1 _ hi
theorem Touches.house {k : HouseId} (hk : .house k ∉ parts) : t.house k = s.house k := h.1 _ hk
theorem Touches.clock (hp : .clock ∉ parts) : t.clock = s.clock := h.1 _ hp
theorem Touches.arbiter (hp : .arbiter ∉ parts) : t.arbiter = s.arbiter := h.1 _ hp
theorem Touches.fire (hp : .fire ∉ parts) : t.fire = s.fire := h.1 _ hp
theorem Touches.line (hp : .line ∉ parts) : t.line = s.line := h.1 _ hp
theorem Touches.straps (hp : .straps ∉ parts) : t.straps = s.straps := h.1 _ hp
theorem Touches.draws (hp : .draws ∉ parts) : t.draws = s.draws := h.1 _ hp

end

/-! ### The shared operations -/

theorem State.modStation_touches (s : State) (i : StationId) (f : Station → Station) :
    Touches [.station i] s (s.modStation i f) :=
  ⟨fun _ hp => Part.same_modStation s f fun heq => hp (by simp [heq]), rfl⟩

theorem State.modHouse_touches (s : State) (h : HouseId) (f : House → House) :
    Touches [.house h] s (s.modHouse h f) :=
  ⟨fun _ hp => Part.same_modHouse s f fun heq => hp (by simp [heq]), rfl⟩

/-- A change of the line unit alone. -/
theorem State.line_touches (s : State) (l : LineUnit) : Touches [.line] s { s with line := l } :=
  ⟨fun p hp => by
    cases p with
    | line => exact absurd hp (by simp)
    | straps | station _ | house _ | clock | arbiter | fire | draws => rfl, rfl⟩

theorem State.latch_touches (s : State) (w : Warning) : Touches [.line] s (s.latch w) := s.line_touches _

theorem State.assertAttention_touches (s : State) : Touches [.line] s s.assertAttention := s.line_touches _

/-- A change of the fire record alone. -/
theorem State.fire_touches (s : State) (f : Fire) : Touches [.fire] s { s with fire := f } :=
  ⟨fun p hp => by
    cases p with
    | fire => exact absurd hp (by simp)
    | straps | station _ | house _ | clock | arbiter | line | draws => rfl, rfl⟩

/-- A change of the arbiter alone. -/
theorem State.arbiter_touches (s : State) (a : Arbiter) : Touches [.arbiter] s { s with arbiter := a } :=
  ⟨fun p hp => by
    cases p with
    | arbiter => exact absurd hp (by simp)
    | straps | station _ | house _ | clock | fire | line | draws => rfl, rfl⟩

/-- A change of the clock alone. -/
theorem State.clock_touches (s : State) (c : Clock) : Touches [.clock] s { s with clock := c } :=
  ⟨fun p hp => by
    cases p with
    | clock => exact absurd hp (by simp)
    | straps | station _ | house _ | fire | arbiter | line | draws => rfl, rfl⟩

theorem State.captureTrip_touches (s : State) (cause : CaptureCause) (i : Option StationId) :
    Touches [.fire, .line] s (s.captureTrip cause i) :=
  ((s.fire_touches _).mono (by simp)).trans ((State.assertAttention_touches _).mono (by simp))

theorem State.action_touches (s : State) (h : HouseId) (a : Option LightAction) :
    Touches [.house h] s (s.action h a) := by
  cases a with
  | none => exact .refl _ s
  | some a => exact s.modHouse_touches h _

theorem State.darken_touches (s : State) (i : StationId) : Touches [.station i] s (s.darken i) :=
  (s.modStation_touches i _).trans (State.modStation_touches _ i _)

theorem State.openShutter_touches (s : State) (i : StationId) : Touches [.station i] s (s.openShutter i) :=
  .ite (fun _ => .refl _ s) fun _ => s.modStation_touches i _

theorem State.takeScreen_touches (s : State) (i : StationId) : Touches [.station i] s (s.takeScreen i) :=
  ((s.modStation_touches i _).trans (State.modStation_touches _ i _)).trans (State.openShutter_touches _ i)

/-- A lamp that changes state moves its station, the arbiter and, at LOCKOUT, the line unit (R105). -/
theorem State.setLamp_touches_lockout (s : State) (i : StationId) (new : LampState) (cls : Option StrikeClass) :
    Touches [.station i, .arbiter, .line] s (s.setLamp i new cls) := by
  obtain ⟨hhouses, hclock, hfire, hstraps, hdraws, hpending, -, -⟩ := s.setLamp_frame i new cls
  refine ⟨fun p hp => ?_, hpending⟩
  cases p with
  | straps => exact hstraps
  | station j =>
    have hj : j ≠ i := fun heq => hp (by simp [heq])
    exact (s.station_setLamp i j new cls).trans (if_neg hj)
  | house k => exact State.house_of_houses hhouses k
  | clock => exact hclock
  | fire => exact hfire
  | draws => exact hdraws
  | arbiter | line => exact absurd hp (by simp)

theorem State.setLamp_touches (s : State) (i : StationId) {new : LampState} (cls : Option StrikeClass)
    (h : new ≠ .lockout) : Touches [.station i, .arbiter] s (s.setLamp i new cls) := by
  obtain ⟨hsame, hpending⟩ := s.setLamp_touches_lockout i new cls
  obtain ⟨-, -, -, -, -, -, -, hline⟩ := s.setLamp_frame i new cls
  refine ⟨fun p hp => ?_, hpending⟩
  by_cases hl : p = .line
  · subst hl
    exact hline.trans (if_neg fun hn => h hn.1)
  · exact hsame p (by simpa [hl] using hp)

theorem State.extinguish_touches (s : State) (i : StationId) : Touches [.station i, .arbiter] s (s.extinguish i) := by
  rw [State.extinguish_eq]
  exact .ite (fun _ => .refl _ s) fun _ => s.setLamp_touches i none nofun

theorem State.closeDown_touches (s : State) (i : StationId) : Touches [.station i, .arbiter] s (s.closeDown i) :=
  (((s.darken_touches i).trans (State.modStation_touches _ i _)).mono (by simp)).trans (State.extinguish_touches _ i)

theorem State.removeEntry_touches (s : State) (i : StationId) :
    Touches [.station i, .house (s.station i).house] s (s.removeEntry i) :=
  ((s.modHouse_touches _ _).mono (by simp)).trans ((State.modStation_touches _ i _).mono (by simp))

/-! ### The operations as changes of one record -/

@[simp] theorem State.station_extinguish_same (s : State) (i : StationId) :
    (s.extinguish i).station i = (s.station i).extinguished := by rw [State.station_extinguish, if_pos rfl]

@[simp] theorem State.station_stopMotor_same (s : State) (i : StationId) :
    (s.stopMotor i).station i = (s.station i).stopped := by rw [State.station_stopMotor, if_pos rfl]

@[simp] theorem State.extinguish_arbiter (s : State) (i : StationId) :
    (s.extinguish i).arbiter = s.arbiter.without i (s.station i).lamp.state := (s.extinguish_frame i).1

@[simp] theorem State.extinguish_line (s : State) (i : StationId) : (s.extinguish i).line = s.line :=
  (s.extinguish_touches i).line (by simp)

@[simp] theorem State.extinguish_fire (s : State) (i : StationId) : (s.extinguish i).fire = s.fire :=
  (s.extinguish_touches i).fire (by simp)

@[simp] theorem State.extinguish_clock (s : State) (i : StationId) : (s.extinguish i).clock = s.clock :=
  (s.extinguish_touches i).clock (by simp)

theorem State.station_darken (s : State) (i j : StationId) : (s.darken i).station j =
    if j = i then { s.station i with demandOpen := false, csOpen := false } else s.station j := by
  rw [State.darken_eq, State.station_modStation]

/-! ### Entry to FAULT -/

theorem Station.stopped_stopped (st : Station) : st.stopped.stopped = st.stopped := by
  unfold Station.stopped
  cases h : st.motor <;> simp [h]

/-- A stop moves the motor and its timers alone (R8). -/
theorem Station.stopped_eq (st : Station) : st.stopped = { st with
    motor := st.stopped.motor, runUpTimer := st.stopped.runUpTimer, stallTimer := st.stopped.stallTimer
    stopTimer := st.stopped.stopTimer } := by
  unfold Station.stopped
  split <;> rfl

/-- Stopping the motors of a list of stations moves those stations and nothing else. -/
theorem State.stopAll (l : List StationId) (s : State) :
    Touches (l.map .station) s (s.forStations l fun i t => t.stopMotor i) ∧
      ∀ j, (s.forStations l fun i t => t.stopMotor i).station j =
        if j ∈ l then (s.station j).stopped else s.station j := by
  induction l generalizing s with
  | nil => exact ⟨.refl _ s, fun j => (if_neg List.not_mem_nil).symm⟩
  | cons i l ih =>
    obtain ⟨htouch, hstation⟩ := ih (s.stopMotor i)
    refine ⟨((s.modStation_touches i _).mono (by simp)).trans (htouch.mono (by simp)), fun j => ?_⟩
    rw [State.forStations, List.foldl_cons]
    rw [show l.foldl (fun t i => t.stopMotor i) (s.stopMotor i) =
      (s.stopMotor i).forStations l fun i t => t.stopMotor i from rfl, hstation, State.station_stopMotor]
    by_cases hj : j = i
    · subst hj
      by_cases hl : j ∈ l <;> simp [hl, Station.stopped_stopped]
    · by_cases hl : j ∈ l <;> simp [hl, hj]

theorem State.darkenHouse_touches (s : State) (h : HouseId) :
    Touches ((s.stationsOf h).map .station) s (s.darkenHouse h) := by
  obtain ⟨hhouses, harbiter, hclock, hfire, hline, hstraps, hdraws, hpending, hstation⟩ := s.darkenAll (s.stationsOf h)
  refine ⟨fun p hp => ?_, hpending⟩
  cases p with
  | straps => exact hstraps
  | station j => exact (hstation j).trans (if_neg fun hj => hp (List.mem_map_of_mem hj))
  | house k => exact State.house_of_houses hhouses k
  | clock => exact hclock
  | fire => exact hfire
  | draws => exact hdraws
  | arbiter => exact harbiter
  | line => exact hline

theorem State.latchFault_touches (s : State) (h : HouseId) (r : FaultRecord) :
    Touches [.house h, .line] s (s.latchFault h r) :=
  .ite (fun _ => .refl _ s) fun _ =>
    ((s.modHouse_touches h _).mono (by simp)).trans ((State.assertAttention_touches _).mono (by simp))

theorem State.latchFault_line (s : State) (h : HouseId) (r : FaultRecord) : (s.latchFault h r).line =
    if (s.house h).fault = none then { s.line with attention := true, sinceReset := true } else s.line := by
  unfold State.latchFault
  cases (s.house h).fault <;> rfl

/-- The stations that entry to FAULT stops: those of the house that were engaged (R63). -/
def State.engagedOf (s : State) (h : HouseId) : List StationId :=
  StationId.all.filter fun j => (s.station j).house = h && s.engaged j

theorem State.mem_engagedOf {s : State} {h : HouseId} {j : StationId} :
    j ∈ s.engagedOf h ↔ (s.station j).house = h ∧ s.engaged j = true := by
  simp [State.engagedOf, StationId.mem_all]

/-- The state in which entry to FAULT has darkened the house and stopped its engaged stations. -/
def State.faultStopped (s : State) (h : HouseId) : State :=
  (s.darkenHouse h).forStations (s.engagedOf h) fun j t => t.stopMotor j

theorem State.faultStopped_touches (s : State) (h : HouseId) :
    Touches ((s.stationsOf h).map .station) s (s.faultStopped h) := by
  refine (s.darkenHouse_touches h).trans ((State.stopAll (s.engagedOf h) (s.darkenHouse h)).1.mono ?_)
  exact List.map_subset _ fun j hj => (s.mem_stationsOf h j).2 (State.mem_engagedOf.1 hj).1

/-- Entry to FAULT moves its house, its house's stations and the line unit, and nothing else (R63). -/
theorem State.enterFault_touches (s : State) (h : HouseId) (cause : FaultCause) (i : Option StationId) :
    Touches (.house h :: .line :: (s.stationsOf h).map .station) s (s.enterFault h cause i) := by
  have hlatch := State.latchFault_touches ((s.faultStopped h).holdFade h) h (s.faultRecord h cause i)
  refine (((((s.faultStopped_touches h).mono ?_).trans ((State.modHouse_touches _ h _).mono ?_)).trans
    (hlatch.mono ?_))).trans ((State.modHouse_touches _ h _).mono ?_) <;> simp

theorem State.station_enterFault (s : State) (h : HouseId) (cause : FaultCause) (i : Option StationId)
    (j : StationId) : (s.enterFault h cause i).station j =
      if (s.station j).house = h then
        (if s.engaged j then ({ s.station j with demandOpen := false, csOpen := false } : Station).stopped
        else { s.station j with demandOpen := false, csOpen := false })
      else s.station j := by
  have hstopped : (s.enterFault h cause i).station j = (s.faultStopped h).station j := by
    have hlatch : ∀ (u : State) (r : FaultRecord), (u.latchFault h r).station j = u.station j := fun u r =>
      (u.latchFault_touches h r).station (by simp)
    exact hlatch _ _
  rw [hstopped, State.faultStopped, (State.stopAll _ _).2, State.station_darkenHouse]
  by_cases hj : (s.station j).house = h
  · by_cases he : s.engaged j = true <;> simp [State.mem_engagedOf, hj, he]
  · simp [State.mem_engagedOf, hj]

/-- Entry to FAULT asserts ATTENTION as it latches its record (R63, R177). -/
theorem State.line_enterFault (s : State) (h : HouseId) (cause : FaultCause) (i : Option StationId) :
    (s.enterFault h cause i).line =
      if (s.house h).fault = none then { s.line with attention := true, sinceReset := true } else s.line := by
  have hline : (s.faultStopped h).line = s.line := (s.faultStopped_touches h).line (by simp)
  have hhouse : ((s.faultStopped h).holdFade h).house h =
      { s.house h with light := ((s.house h).light).fadeStart (s.house h).settings.level (s.house h).settings.fade } := by
    have hsame : (s.faultStopped h).house h = s.house h := (s.faultStopped_touches h).house (by simp)
    simp [State.holdFade, State.fade, State.house_modLight_same, hsame]
  have hlatch := State.latchFault_line ((s.faultStopped h).holdFade h) h (s.faultRecord h cause i)
  rw [hhouse] at hlatch
  exact hlatch.trans (by rw [State.holdFade, State.fade, State.modLight_line, hline])

end Sys2Proof.Machine

/-!
Tach pulses and the motor timers (R6 to R9), the door switches (R15 to R17) and the lines MO, DO, IM, SR and SA (R4, R14,
R18, R20).
-/

namespace Sys2Proof.Machine

/-! ### The counters -/

/-- No change of the shared operations or the house engine moves a frame counter (R9). -/
theorem Edit.counter {s t : State} (h : Edit s t) (j : StationId) : (t.station j).counter = (s.station j).counter := by
  have moved : ∀ (u : State) (i : StationId) (f : Station → Station), (∀ st, (f st).counter = st.counter) →
      ((u.modStation i f).station j).counter = (u.station j).counter := by
    intro u i f hf
    rw [State.station_modStation]
    split
    · rename_i hj; rw [hf, hj]
    · rfl
  have stops : ∀ st : Station, st.stopMotor.counter = st.counter := fun st => by
    unfold Station.stopMotor; split <;> rfl
  have starts : ∀ st : Station, st.startMotor.counter = st.counter := fun st => by
    unfold Station.startMotor; split <;> rfl
  have body : ∀ {u v : State}, (u.station j).SameBody (v.station j) → (v.station j).counter = (u.station j).counter :=
    fun hb => by rw [hb]
  cases h with
  | stop i => exact moved s i _ stops
  | start i => exact moved s i _ starts
  | shutter i d c => exact moved s i _ fun _ => rfl
  | mark i m => exact moved s i _ fun _ => rfl
  | trip i cause => exact (body (State.extinguish_body _ i j)).trans (moved s i _ stops)
  | extinguish i => exact body (s.extinguish_body i j)
  | strike i => exact body (s.takeStrike_body i j)
  | reelOff h i f => exact moved (s.modQueue _ _) i (fun st => { st with counterMode := .hold }) fun _ => rfl
  | runOutLeaves i e => exact moved (s.modQueue _ _) i (fun st => { st with counterMode := .hold }) fun _ => rfl
  | _ => rfl

theorem Edits.counter {s t : State} (h : Edits s t) (j : StationId) : (t.station j).counter = (s.station j).counter :=
  h.keeps (P := fun u => (u.station j).counter = (s.station j).counter) (fun _ _ he hu => (he.counter j).trans hu) rfl

/-- A station as a tach pulse moves its counter and its motor (R6 to R9). -/
def Station.pulsed (st : Station) (bound : Bool) (dir : Direction) (interval : Nat) : Station :=
  (st.countPulse bound dir).motorPulse interval

/-- The state as a tach pulse finds it counted, before the house engine hears of it. -/
def State.pulsed (s : State) (i : StationId) (dir : Direction) (interval : Nat) : State :=
  s.modStation i fun st => st.pulsed (s.boundEntry i).isSome dir interval

theorem Station.motorPulse_counter (st : Station) (interval : Nat) : (st.motorPulse interval).counter = st.counter := by
  unfold Station.motorPulse
  cases st.motor with
  | runUp =>
    dsimp only
    split
    · rfl
    · split
      · rfl
      · split <;> rfl
  | atSpeed | stopping | stopped => rfl

theorem Station.pulsed_counter (st : Station) (bound : Bool) (dir : Direction) (interval : Nat) :
    (st.pulsed bound dir interval).counter = (st.countPulse bound dir).counter :=
  Station.motorPulse_counter _ _

/-- The house engine hears of a motor that the pulse brought to speed (R6, R47). -/
def State.pulseHeard (s : State) (i : StationId) (dir : Direction) (interval : Nat) : State :=
  let t := s.pulsed i dir interval
  if (s.station i).motor != .atSpeed && (t.station i).motor == .atSpeed then t.engineAtSpeed i else t

theorem Station.countPulse_motor (st : Station) (bound : Bool) (dir : Direction) :
    (st.countPulse bound dir).motor = st.motor := by
  unfold Station.countPulse
  split
  · cases dir <;> rfl
  · rfl

section
variable {s : State} {i : StationId} (interval : Nat)

/-- A pulse of an unbound station moves its motor, and the engine hears of it (R6 to R8). -/
theorem exec_tachPulse_unbound (h : s.boundEntry i = none) (dir : Direction) :
    exec (.tachPulse i dir interval) s = done (s.pulseHeard i dir interval) := by
  have hexec : exec (.tachPulse i dir interval) s = execTachPulse i dir interval s := rfl
  simp only [hexec, execTachPulse, h, State.modStation_modStation, State.station_modStation_same,
    Station.countPulse_motor, State.pulseHeard, State.pulsed, Station.pulsed, bne]

/-- A REVERSE pulse of a bound station moves its counter and its motor (R9). -/
theorem exec_tachPulse_reverse {e : Entry} (h : s.boundEntry i = some e) :
    exec (.tachPulse i .reverse interval) s = done (s.pulseHeard i .reverse interval) := by
  have hexec : exec (.tachPulse i .reverse interval) s = execTachPulse i .reverse interval s := rfl
  simp only [hexec, execTachPulse, h, State.modStation_modStation, State.station_modStation_same,
    Station.countPulse_motor, State.pulseHeard, State.pulsed, Station.pulsed, bne, reduceCtorEq, if_false]

/-- A FORWARD pulse of a bound station: the counter and the motor, then the engine's tests, then the tail it reaches (R9,
R10, R48, R50). -/
theorem exec_tachPulse_forward {e : Entry} (h : s.boundEntry i = some e) :
    exec (.tachPulse i .forward interval) s =
      done (if (s.station i).counter < e.length && (s.station i).counter + 1 = e.length then
        ((s.pulseHeard i .forward interval).pulseTests i).tail i
      else (s.pulseHeard i .forward interval).pulseTests i) := by
  have hexec : exec (.tachPulse i .forward interval) s = execTachPulse i .forward interval s := rfl
  simp only [hexec, execTachPulse, h, State.modStation_modStation, State.station_modStation_same,
    Station.countPulse_motor, State.pulseHeard, State.pulsed, Station.pulsed, bne, if_true]

end

theorem State.pulseHeard_edits (s : State) (i : StationId) (dir : Direction) (interval : Nat) :
    Edits (s.pulsed i dir interval) (s.pulseHeard i dir interval) :=
  Edits.ite (fun _ => State.engineAtSpeed_edits _ i) fun _ => .refl _

theorem State.pulsed_counter (s : State) (i j : StationId) (dir : Direction) (interval : Nat) :
    ((s.pulsed i dir interval).station j).counter =
      if j = i then ((s.station i).countPulse (s.boundEntry i).isSome dir).counter else (s.station j).counter := by
  rw [State.pulsed, State.station_modStation]
  split
  · exact Station.pulsed_counter _ _ _ _
  · rfl

/-- Every tach pulse ends as the pulse counted and a chain of changes behind it. -/
theorem exec_tachPulse_edits (s : State) (i : StationId) (dir : Direction) (interval : Nat) :
    ∃ t, exec (.tachPulse i dir interval) s = done t ∧ Edits (s.pulsed i dir interval) t := by
  have heard := s.pulseHeard_edits i dir interval
  cases h : s.boundEntry i with
  | none => exact ⟨_, exec_tachPulse_unbound interval h dir, heard⟩
  | some e =>
    cases dir with
    | reverse => exact ⟨_, exec_tachPulse_reverse interval h, heard⟩
    | forward =>
      have tested := heard.trans (State.pulseTests_edits _ i)
      exact ⟨_, exec_tachPulse_forward interval h,
        Edits.ite (fun _ => tested.trans (State.tail_edits _ i)) fun _ => tested⟩

/-- Settles O14: past the count of the pulse no change moves a counter. -/
theorem tachPulseMovesTheCounter : Obligations.TachPulseMovesTheCounter := by
  intro s i dir interval
  obtain ⟨t, hexec, hedits⟩ := exec_tachPulse_edits s i dir interval
  have hcounter : ∀ j, (t.settle.station j).counter =
      if j = i then ((s.station i).countPulse (s.boundEntry i).isSome dir).counter else (s.station j).counter :=
    fun j => (hedits.counter j).trans (s.pulsed_counter i j dir interval)
  refine ⟨t.settle, hexec, fun h => ?_, fun e h hdir => ?_, fun e h hdir => ?_, fun j hj => ?_⟩
  · rw [hcounter, if_pos rfl, h]
    rfl
  · rw [hcounter, if_pos rfl, h, hdir]
    simp only [Station.countPulse, Option.isSome_some, if_true]
    split <;> omega
  · rw [hcounter, if_pos rfl, h, hdir]
    rfl
  · rw [hcounter, if_neg hj]

/-! ### The motor at an unbound station, and its timers -/

/-- The start-sequence station is bound. -/
theorem State.startStation_ne_of_unbound {s : State} {i : StationId} (h : s.boundEntry i = none) :
    (s.house (s.station i).house).startStation ≠ some i := by
  intro hstart
  obtain ⟨-, hhead⟩ := House.startStation_eq_some hstart
  obtain ⟨e, he, hb⟩ := Option.bind_eq_some_iff.1 hhead
  exact entryOf_eq_none.1 h (mem_boundStations.2 ⟨e, List.mem_of_head? he, hb⟩)

/-- The engine makes nothing of a motor at speed in a station that no start sequence waits for (R47). -/
theorem State.engineAtSpeed_of_idle {s : State} {i : StationId}
    (h : (s.house (s.station i).house).startStation ≠ some i) : s.engineAtSpeed i = s := by
  simp [State.engineAtSpeed, h]

theorem Station.motorPulse_house (st : Station) (interval : Nat) : (st.motorPulse interval).house = st.house := by
  unfold Station.motorPulse
  cases st.motor with
  | runUp =>
    dsimp only
    split
    · rfl
    · split
      · rfl
      · split <;> rfl
  | atSpeed | stopping | stopped => rfl

theorem State.pulseHeard_unbound {s : State} {i : StationId} (h : s.boundEntry i = none) (dir : Direction)
    (interval : Nat) : s.pulseHeard i dir interval = s.modStation i fun st => st.motorPulse interval := by
  have hpulsed : s.pulsed i dir interval = s.modStation i fun st => st.motorPulse interval := by
    simp only [State.pulsed, Station.pulsed, Station.countPulse, h, Option.isSome_none, Bool.false_eq_true, if_false]
  have hstart : ((s.modStation i fun st => st.motorPulse interval).house
      ((s.modStation i fun st => st.motorPulse interval).station i).house).startStation ≠ some i := by
    rw [State.station_modStation_same, Station.motorPulse_house]
    exact State.startStation_ne_of_unbound h
  unfold State.pulseHeard
  rw [hpulsed]
  simp only [State.engineAtSpeed_of_idle hstart, ite_self]

/-- In RUNUP a first pulse opens an interval, and each interval of 46 ms or less counts, the twelfth to AT-SPEED (R6). -/
theorem Station.motorPulse_runUp {st : Station} (h : st.motor = .runUp) (interval : Nat) : st.motorPulse interval =
    if st.intervalOpen = false then { st with intervalOpen := true }
    else if 46 < interval then { st with runUpCount := 0 }
    else if st.runUpCount < 11 then { st with runUpCount := st.runUpCount + 1 }
    else { st with runUpCount := 12, motor := .atSpeed, runUpTimer := false, stallTimer := true } := by
  have hcount : st.runUpCount + 1 < 12 ↔ st.runUpCount < 11 := by omega
  simp only [Station.motorPulse, h, hcount, Bool.not_eq_true']

/-- Settles O15: an unbound station is in no start sequence, so its pulse moves its motor alone; the run-up limit of a
start-sequence station brings its house to FAULT. -/
theorem motorPulsesAndTimers : Obligations.MotorPulsesAndTimers := by
  refine ⟨fun s i dir interval h => ?_, fun s i => ⟨fun hm ht => ?_, fun hm ht hidle => ?_, fun hm ht hstart => ?_⟩⟩
  · have hexec := exec_tachPulse_unbound interval h dir
    rw [State.pulseHeard_unbound h] at hexec
    refine ⟨_, hexec, (s.modStation_touches i _).settle, ?_⟩
    rw [State.settle_station, State.station_modStation_same]
    cases hm : (s.station i).motor with
    | runUp => exact Station.motorPulse_runUp hm interval
    | stopped | stopping | atSpeed => simp only [Station.motorPulse, hm]
  · have hexec : exec (.stopTimer i) s = execStopTimer i s := rfl
    simp only [execStopTimer, hm, ht, BEq.rfl, Bool.and_self, if_true] at hexec
    refine ⟨_, hexec, (s.modStation_touches i _).settle, ?_⟩
    rw [State.settle_station, State.station_modStation_same]
  all_goals
    have hexec : exec (.runUpLimit i) s = execRunUpLimit i s := rfl
    simp only [execRunUpLimit, hm, ht, BEq.rfl, Bool.and_self, if_true] at hexec
    have hstopped : (s.station i).stopped = { s.station i with
        motor := .stopping, runUpTimer := false, stallTimer := false, stopTimer := true } := by
      simp [Station.stopped, hm]
    have hhouse : (((s.stopMotor i).latch (.slow i)).station i).house = (s.station i).house := by
      rw [State.latch_station, State.station_stopMotor_same, Station.stopped_house]
  · have hidle' : ((s.stopMotor i).latch (.slow i)).engineSlow i = (s.stopMotor i).latch (.slow i) := by
      rw [State.engineSlow, hhouse]
      exact if_neg hidle
    rw [hidle'] at hexec
    refine ⟨_, hexec, (((s.modStation_touches i _).mono ?_).trans ((State.latch_touches _ _).mono ?_)).settle, rfl, ?_⟩
    · simp
    · simp
    · rw [State.settle_station, State.latch_station, State.station_stopMotor_same, hstopped]
  · have hfault : ((s.stopMotor i).latch (.slow i)).engineSlow i =
        ((s.stopMotor i).latch (.slow i)).enterFault (s.station i).house .motor (some i) := by
      rw [State.engineSlow, hhouse]
      exact if_pos hstart
    rw [hfault] at hexec
    refine ⟨_, hexec, ?_, ?_, fun hnone => ?_, ?_⟩
    · rw [State.settle_station, State.station_enterFault, if_pos hhouse, State.latch_station,
        State.station_stopMotor_same, hstopped]
      split <;> rfl
    · rw [State.settle_house, State.house_enterFault, if_pos rfl]
    · rw [State.settle_house, State.house_enterFault, if_pos rfl]
      have hnone' : (((s.stopMotor i).latch (.slow i)).house (s.station i).house).fault = none := hnone
      refine ⟨_, rfl, ?_⟩
      rw [hnone', Option.getD_none]
      refine ⟨rfl, rfl, rfl, ?_, rfl⟩
      show some (((s.stopMotor i).latch (.slow i)).station i).counter = some (s.station i).counter
      rw [State.latch_station, State.station_stopMotor_same, hstopped]
    · rw [State.settle_line, State.line_enterFault]
      split <;> rfl

end Sys2Proof.Machine

/-!
The door switches and the interlock modes (R14 to R17), and the lines MO, DO, SR and SA of a station (R4, R18, R20).
-/

namespace Sys2Proof.Machine

/-! ### The interlock event -/

/-- Engagement follows the house records and the station's house (R43). -/
theorem State.engaged_congr {s t : State} {i : StationId} (houses : t.houses = s.houses)
    (own : (t.station i).house = (s.station i).house) : t.engaged i = s.engaged i := by
  unfold State.engaged
  rw [own, State.house_of_houses houses]

/-- An interlock event at a station that is not engaged latches the warning and nothing more (R17). -/
theorem State.interlockEvent_idle {s : State} {i : StationId} (h : s.engaged i = false) :
    s.interlockEvent i = s.latch (.interlock i) := by
  have hl : (s.latch (.interlock i)).engaged i = s.engaged i := State.engaged_congr rfl rfl
  simp [State.interlockEvent, h]

theorem Station.extinguished_congr_doors (st : Station) (ld md : DoorState) :
    ({ st with ld := ld, md := md } : Station).extinguished = { st.extinguished with ld := ld, md := md } := by
  unfold Station.extinguished
  dsimp only
  split <;> rfl

theorem Station.stopped_congr_doors (st : Station) (ld md : DoorState) :
    ({ st with ld := ld, md := md } : Station).stopped = { st.stopped with ld := ld, md := md } := by
  unfold Station.stopped
  cases hm : st.motor <;> simp only [hm]

section
variable {s : State} {i : StationId}

/-- LD enforced at a station that is not engaged puts its lamp out, with the warning (R15, R17). -/
theorem State.enforceLd_idle (h : s.engaged i = false) :
    Touches [.station i, .arbiter, .line] s (s.enforceLd i) ∧
      (s.enforceLd i).station i = (s.station i).extinguished ∧
      (s.enforceLd i).arbiter = s.arbiter.without i (s.station i).lamp.state ∧
      (s.enforceLd i).line = s.line.warned (.interlock i) := by
  have hidle : (s.extinguish i).engaged i = false := by
    rw [State.engaged_congr (s.extinguish_houses i) (by rw [State.station_extinguish_same, Station.extinguished_house]), h]
  rw [State.enforceLd, State.interlockEvent_idle hidle]
  refine ⟨((s.extinguish_touches i).mono (by simp)).trans ((State.latch_touches _ _).mono (by simp)), ?_, ?_, ?_⟩
  · rw [State.latch_station, State.station_extinguish_same]
  · rw [State.latch_arbiter, State.extinguish_arbiter]
  · rw [State.latch_line, State.extinguish_line]

/-- MD enforced at a station that is not engaged stops its motor and closes its demand, with the warning (R16, R17). -/
theorem State.enforceMd_idle (h : s.engaged i = false) :
    Touches [.station i, .line] s (s.enforceMd i) ∧
      (s.enforceMd i).station i = { (s.station i).stopped with demandOpen := false } ∧
      (s.enforceMd i).line = s.line.warned (.interlock i) := by
  have hidle : ((s.stopMotor i).closeDemand i).engaged i = false := by
    refine (State.engaged_congr (s := s) (t := (s.stopMotor i).closeDemand i) rfl ?_).trans h
    rw [State.closeDemand, State.station_modStation_same, State.station_stopMotor_same, Station.stopped_house]
  rw [State.enforceMd, State.interlockEvent_idle hidle]
  refine ⟨(((s.modStation_touches i _).trans (State.modStation_touches _ i _)).mono (by simp)).trans
    ((State.latch_touches _ _).mono (by simp)), ?_, rfl⟩
  rw [State.latch_station, State.closeDemand, State.station_modStation_same, State.station_stopMotor_same]

end

/-! ### LD_QUALIFIED and MD_QUALIFIED -/

section
variable (s : State) (i : StationId)

/-- The state with a qualified change of LD, and of MD, recorded (R14). -/
def State.ldRecorded (c : Contact) : State := s.modStation i fun st => { st with ld := { st.ld with contact := c } }
def State.mdRecorded (c : Contact) : State := s.modStation i fun st => { st with md := { st.md with contact := c } }

theorem exec_ldQualified_recorded {c : Contact} (h : c = .closed ∨ (s.station i).present = false) :
    exec (.ldQualified i c) s = done (s.ldRecorded i c) := by
  have hexec : exec (.ldQualified i c) s = execLdQualified i c s := rfl
  rw [hexec]
  rcases h with rfl | h <;> simp [execLdQualified, State.ldRecorded, *]

theorem exec_mdQualified_recorded {c : Contact} (h : c = .closed ∨ (s.station i).present = false) :
    exec (.mdQualified i c) s = done (s.mdRecorded i c) := by
  have hexec : exec (.mdQualified i c) s = execMdQualified i c s := rfl
  rw [hexec]
  rcases h with rfl | h <;> simp [execMdQualified, State.mdRecorded, *]

variable {s i} (hp : (s.station i).present = true)
include hp

theorem exec_ldQualified_advisory (h : (s.station i).ld.mode = .advisory) :
    exec (.ldQualified i .opened) s = done ((s.ldRecorded i .opened).latch (.interlock i)) := by
  have hexec : exec (.ldQualified i .opened) s = execLdQualified i .opened s := rfl
  simp [hexec, execLdQualified, State.ldRecorded, hp, h]

theorem exec_mdQualified_advisory (h : (s.station i).md.mode = .advisory) :
    exec (.mdQualified i .opened) s = done ((s.mdRecorded i .opened).latch (.interlock i)) := by
  have hexec : exec (.mdQualified i .opened) s = execMdQualified i .opened s := rfl
  simp [hexec, execMdQualified, State.mdRecorded, hp, h]

theorem exec_ldQualified_enforce (h : (s.station i).ld.mode = .enforce) :
    exec (.ldQualified i .opened) s = done ((s.ldRecorded i .opened).enforceLd i) := by
  have hexec : exec (.ldQualified i .opened) s = execLdQualified i .opened s := rfl
  simp [hexec, execLdQualified, State.ldRecorded, hp, h]

theorem exec_mdQualified_enforce (h : (s.station i).md.mode = .enforce) :
    exec (.mdQualified i .opened) s = done ((s.mdRecorded i .opened).enforceMd i) := by
  have hexec : exec (.mdQualified i .opened) s = execMdQualified i .opened s := rfl
  simp [hexec, execMdQualified, State.mdRecorded, hp, h]

end

/-- A change of one door of a station, with the rest of its record as it stands. -/
def Station.SetsDoor (f : Station → Station) (ld md : Station → DoorState) : Prop :=
  ∀ st, f st = { st with ld := ld st, md := md st }

/-- LD enforced behind a change of the station's doors: the lamp goes out, and the doors stand as changed. -/
theorem State.enforceLd_behind {s : State} {i : StationId} {f : Station → Station} {ld md : Station → DoorState}
    (hf : Station.SetsDoor f ld md) (h : s.engaged i = false) :
    Touches [.station i, .arbiter, .line] s ((s.modStation i f).enforceLd i) ∧
      ((s.modStation i f).enforceLd i).station i =
        { (s.station i).extinguished with ld := ld (s.station i), md := md (s.station i) } ∧
      ((s.modStation i f).enforceLd i).arbiter = s.arbiter.without i (s.station i).lamp.state ∧
      ((s.modStation i f).enforceLd i).line = s.line.warned (.interlock i) := by
  have hidle : (s.modStation i f).engaged i = false := by
    refine (State.engaged_congr (s := s) (t := s.modStation i f) rfl ?_).trans h
    rw [State.station_modStation_same, hf]
  obtain ⟨htouch, hstation, harbiter, hline⟩ := State.enforceLd_idle hidle
  refine ⟨((s.modStation_touches i f).mono (by simp)).trans htouch, ?_, ?_, hline⟩
  · rw [hstation, State.station_modStation_same, hf, Station.extinguished_congr_doors]
  · rw [harbiter, State.station_modStation_same, hf, State.modStation_arbiter]

theorem State.enforceMd_behind {s : State} {i : StationId} {f : Station → Station} {ld md : Station → DoorState}
    (hf : Station.SetsDoor f ld md) (h : s.engaged i = false) :
    Touches [.station i, .line] s ((s.modStation i f).enforceMd i) ∧
      ((s.modStation i f).enforceMd i).station i =
        { (s.station i).stopped with demandOpen := false, ld := ld (s.station i), md := md (s.station i) } ∧
      ((s.modStation i f).enforceMd i).line = s.line.warned (.interlock i) := by
  have hidle : (s.modStation i f).engaged i = false := by
    refine (State.engaged_congr (s := s) (t := s.modStation i f) rfl ?_).trans h
    rw [State.station_modStation_same, hf]
  obtain ⟨htouch, hstation, hline⟩ := State.enforceMd_idle hidle
  refine ⟨((s.modStation_touches i f).mono (by simp)).trans htouch, ?_, hline⟩
  rw [hstation, State.station_modStation_same, hf, Station.stopped_congr_doors]

theorem Station.extinguished_doors (st : Station) : st.extinguished.ld = st.ld ∧ st.extinguished.md = st.md := by
  rw [st.extinguished_body]
  exact ⟨rfl, rfl⟩

theorem Station.stopped_doors (st : Station) : st.stopped.ld = st.ld ∧ st.stopped.md = st.md := by
  rw [st.stopped_eq]
  exact ⟨rfl, rfl⟩

/-- Settles O20: a change is recorded first; only one that opens the door of a present station acts, by the door's mode. -/
theorem doorChangesActByTheirMode : Obligations.DoorChangesActByTheirMode := by
  intro s i c
  refine ⟨fun h => ⟨?ldRecorded, ?mdRecorded⟩, ?ldAdvisory, ?mdAdvisory, ?ldEnforce, ?mdEnforce⟩
  case ldRecorded =>
    exact ⟨_, exec_ldQualified_recorded s i h, (s.modStation_touches i _).settle, by
      rw [State.settle_station, State.ldRecorded, State.station_modStation_same]⟩
  case mdRecorded =>
    exact ⟨_, exec_mdQualified_recorded s i h, (s.modStation_touches i _).settle, by
      rw [State.settle_station, State.mdRecorded, State.station_modStation_same]⟩
  case ldAdvisory =>
    rintro rfl hp hm
    refine ⟨_, exec_ldQualified_advisory hp hm, (((s.modStation_touches i _).mono ?_).trans
      ((State.latch_touches _ _).mono ?_)).settle, rfl, ?_⟩
    · simp
    · simp
    · simp only [State.settle_station, State.latch_station, State.ldRecorded, State.station_modStation_same, hm]
  case mdAdvisory =>
    rintro rfl hp hm
    refine ⟨_, exec_mdQualified_advisory hp hm, (((s.modStation_touches i _).mono ?_).trans
      ((State.latch_touches _ _).mono ?_)).settle, rfl, ?_⟩
    · simp
    · simp
    · simp only [State.settle_station, State.latch_station, State.mdRecorded, State.station_modStation_same, hm]
  case ldEnforce =>
    rintro rfl hp hm hidle
    obtain ⟨htouch, hstation, harbiter, hline⟩ := State.enforceLd_behind
      (f := fun st => { st with ld := { st.ld with contact := .opened } })
      (ld := fun st => { st.ld with contact := .opened }) (md := fun st => st.md) (fun _ => rfl) hidle
    refine ⟨_, exec_ldQualified_enforce hp hm, htouch.settle, hline, harbiter, hstation.trans ?_⟩
    simp only [hm, ← (Station.extinguished_doors (s.station i)).2]
  case mdEnforce =>
    rintro rfl hp hm hidle
    obtain ⟨htouch, hstation, hline⟩ := State.enforceMd_behind
      (f := fun st => { st with md := { st.md with contact := .opened } })
      (ld := fun st => st.ld) (md := fun st => { st.md with contact := .opened }) (fun _ => rfl) hidle
    refine ⟨_, exec_mdQualified_enforce hp hm, htouch.settle, hline, hstation.trans ?_⟩
    simp only [hm, ← (Station.stopped_doors (s.station i)).1]

end Sys2Proof.Machine

/-!
The lines of a station moved by hand: IM (R14 to R17), MO and DO (R18, R5, R8, R11), SR and SA (R20, R4).
-/

namespace Sys2Proof.Machine

/-! ### A console line that is answered and acts -/

/-- A line whose answer touches some parts changes those parts, and its line unit sends the reply. -/
theorem exec_of_touches {c : Instr} (hc : c.isConsole = true) {s : State} (hf : LineFree s) {u : State} {r : Reply}
    {parts : List Part} (ha : answer c s = (u, r)) (htouch : Touches parts s u) (line : .line ∈ parts) :
    exec c s = .next (u.startReply s.line.echoCr r).settle ∧
      ChangesOnly parts s (u.startReply s.line.echoCr r).settle := by
  refine ⟨?_, htouch.reply line _ r⟩
  rw [exec_console_free hc hf, ha]

/-! ### IM -/

@[simp] theorem Station.door_setDoorMode (st : Station) (d : Door) (m : DoorMode) :
    (st.setDoorMode d m).door d = { st.door d with mode := m } := by cases d <;> rfl

section
variable {s : State} {i : StationId}

theorem answerIm_resetting (h : (s.station i).condition = .resetting) (d : Door) (m : DoorMode) :
    answer (.im i.number d m) s = (s, .no .by_) := by
  simp [answer, answerIm, checked_eq, firstRefusal, h]

variable (hn : (s.station i).condition = .normal)
include hn

/-- IM sets the mode, and nothing more, where the door is not one that the mode newly enforces (R14). -/
theorem answerIm_set {d : Door} {m : DoorMode}
    (h : m = .advisory ∨ ((s.station i).door d).mode = .enforce ∨ ((s.station i).door d).contact = .closed ∨
      (s.station i).present = false) :
    answer (.im i.number d m) s = (s.modStation i fun st => st.setDoorMode d m, .ok) := by
  have hquiet : ((s.station i).present && !((s.station i).door d).enforced &&
      (((s.modStation i fun st => st.setDoorMode d m).station i).door d).enforced) = false := by
    rw [State.station_modStation_same, Station.door_setDoorMode]
    generalize (s.station i).door d = door at h
    obtain ⟨contact, mode⟩ := door
    rcases h with rfl | rfl | rfl | h
    · simp [DoorState.enforced]
    · cases contact <;> simp [DoorState.enforced]
    · simp [DoorState.enforced]
    · simp [h]
  simp only [answer, answerIm, onStation_number, checked_eq, firstRefusal, hn, hquiet]
  rfl

theorem answerIm_ld (hp : (s.station i).present = true) (h : (s.station i).ld = { contact := .opened, mode := .advisory }) :
    answer (.im i.number .ld .enforce) s =
      ((s.modStation i fun st => { st with ld := { st.ld with mode := .enforce } }).enforceLd i, .ok) := by
  simp [answer, answerIm, checked_eq, firstRefusal, hn, hp, h, Station.door, Station.setDoorMode, DoorState.enforced]

theorem answerIm_md (hp : (s.station i).present = true) (h : (s.station i).md = { contact := .opened, mode := .advisory }) :
    answer (.im i.number .md .enforce) s =
      ((s.modStation i fun st => { st with md := { st.md with mode := .enforce } }).enforceMd i, .ok) := by
  simp [answer, answerIm, checked_eq, firstRefusal, hn, hp, h, Station.door, Station.setDoorMode, DoorState.enforced]

end

/-- Settles O21: a mode is set first; only ENFORCE on a door of a present station that stands open acts. -/
theorem interlockModeLine : Obligations.InterlockModeLine := by
  intro s i m hfree
  refine ⟨fun hr d => exec_of_refused rfl hfree (answerIm_resetting hr d m), fun hn => ⟨fun h => ?_, fun h => ?_, ?_⟩⟩
  · exact exec_of_modStation rfl hfree (answerIm_set (d := .ld) hn h)
  · exact exec_of_modStation rfl hfree (answerIm_set (d := .md) hn h)
  rintro rfl hp hidle
  refine ⟨fun h => ?_, fun h => ?_⟩
  · obtain ⟨htouch, hstation, harbiter, hline⟩ := State.enforceLd_behind
      (f := fun st => { st with ld := { st.ld with mode := .enforce } })
      (ld := fun st => { st.ld with mode := .enforce }) (md := fun st => st.md) (fun _ => rfl) hidle
    obtain ⟨hexec, honly⟩ := exec_of_touches rfl hfree (answerIm_ld hn hp h) htouch (by simp)
    refine ⟨_, hexec, honly, ?_, harbiter, hstation.trans ?_⟩
    · rw [State.settle_line, State.startReply, hline]
      rfl
    · simp only [h, ← (Station.extinguished_doors (s.station i)).2]
  · obtain ⟨htouch, hstation, hline⟩ := State.enforceMd_behind
      (f := fun st => { st with md := { st.md with mode := .enforce } })
      (ld := fun st => st.ld) (md := fun st => { st.md with mode := .enforce }) (fun _ => rfl) hidle
    obtain ⟨hexec, honly⟩ := exec_of_touches rfl hfree (answerIm_md hn hp h) htouch (by simp)
    refine ⟨_, hexec, honly, ?_, hstation.trans ?_⟩
    · rw [State.settle_line, State.startReply, hline]
      rfl
    · simp only [h, ← (Station.stopped_doors (s.station i)).1]

/-! ### Start commands -/

theorem Station.startMotor_eq (st : Station) : st.startMotor = st.started := by
  unfold Station.startMotor Station.started
  cases st.motor <;> rfl

theorem State.startRefusal_eq_none {s : State} {i : StationId} : s.startRefusal i = none ↔ StartAllowed s i := by
  have hclosed (c : Contact) : c ≠ .opened ↔ c = .closed := by cases c <;> decide
  have hadvisory (m : DoorMode) : m ≠ .enforce ↔ m = .advisory := by cases m <;> decide
  have hnormal (c : Condition) : c ≠ .resetting ↔ c = .normal := by cases c <;> decide
  simp only [State.startRefusal, firstRefusal_eq_none, List.mem_cons, List.not_mem_nil, or_false, forall_eq_or_imp,
    forall_eq, StartAllowed, State.tripped_eq_false_iff, beq_eq_false_iff_ne, Bool.not_eq_false', hnormal,
    DoorState.enforced_eq_false_iff, ← hadvisory, and_assoc, ← imp_iff_not_or, ne_eq]

/-- A start with the film-break switch closed is the start and what its taker does with it (R5). -/
theorem State.startMotorThen_closed {s : State} {i : StationId} (h : (s.station i).fb = .closed) (act : State → State) :
    s.startMotorThen i act = act (s.modStation i Station.startMotor) := by
  simp [State.startMotorThen, h]

/-! ### MO and DO -/

section
variable {s : State} {i : StationId} (hand : ByHand s i)
include hand

theorem ByHand.checks (motorLine : Bool) : firstRefusal (s.manualChecks i motorLine) = none := by
  obtain ⟨hnormal, hidle, hengine⟩ := hand
  rw [firstRefusal_eq_none]
  simp only [List.mem_cons, List.not_mem_nil, or_false] at hengine
  rcases hengine with he | he | he | he | he <;> simp [State.manualChecks, hnormal, hidle, he]

theorem answerMo_off : answer (.mo i.number false) s = (s.stopMotor i, .ok) := by
  simp [answer, answerMo, checked_eq, hand.checks]

theorem answerMo_on (allowed : StartAllowed s i) :
    answer (.mo i.number true) s = (s.startMotorThen i id, .ok) := by
  simp [answer, answerMo, checked_eq, hand.checks, State.startRefusal_eq_none.2 allowed]

theorem answerDo_close : answer (.doDouser i.number false) s = (s.closeDemand i, .ok) := by
  simp [answer, answerDo, checked_eq, hand.checks]

theorem answerDo_taken (h : s.douserRefusal i = none) : answer (.doDouser i.number true) s = (s.openDemand i, .ok) := by
  simp [answer, answerDo, checked_eq, hand.checks, h]

theorem answerDo_refused {c : ErrorCode} (h : s.douserRefusal i = some c) :
    answer (.doDouser i.number true) s = (s, .no c) := by
  simp [answer, answerDo, checked_eq, hand.checks, h, refuse]

end

section
variable {s : State} {i : StationId}

theorem State.douserRefusal_fi (h : (s.station i).trip.isSome = true ∨ s.fire.booth.isSome = true ∨
    (s.house (s.station i).house).port = .down) : s.douserRefusal i = some .fi := by
  have htripped : s.tripped i = true ∨ (s.house (s.station i).house).port = .down := by
    simpa only [State.tripped, Bool.or_eq_true, or_assoc] using h
  rcases htripped with h | h
  · simp [State.douserRefusal, firstRefusal, h]
  · simp [State.douserRefusal, firstRefusal, h]

variable (htrip : (s.station i).trip = none) (hbooth : s.fire.booth = none)
  (hport : (s.house (s.station i).house).port = .up)
include htrip hbooth hport

theorem State.douserRefusal_none (hp : (s.station i).present = true) (hburn : (s.station i).lamp.state = .burn)
    (hld : (s.station i).ld.enforced = false) : s.douserRefusal i = none := by
  simp [State.douserRefusal, firstRefusal, State.tripped, htrip, hbooth, hport, hp, hburn, hld]

theorem State.douserRefusal_st (h : (s.station i).present = false ∨ (s.station i).lamp.state ≠ .burn ∨
    (s.station i).ld = { contact := .opened, mode := .enforce }) : s.douserRefusal i = some .st := by
  have hlast : (s.station i).ld = { contact := .opened, mode := .enforce } → (s.station i).ld.enforced = true :=
    fun h => by rw [h]; rfl
  rcases h with h | h | h
  · simp [State.douserRefusal, firstRefusal, State.tripped, htrip, hbooth, hport, h]
  · simp [State.douserRefusal, firstRefusal, State.tripped, htrip, hbooth, hport, h]
  · simp [State.douserRefusal, firstRefusal, State.tripped, htrip, hbooth, hport, hlast h]

end

theorem DoorState.not_enforced {d : DoorState} (h : d.mode = .advisory ∨ d.contact = .closed) : d.enforced = false := by
  rcases h with h | h <;> simp [DoorState.enforced, h]

/-- Settles O22: past the checks of R18 each line is one change of the station's record. -/
theorem manualMotorAndDouserLines : Obligations.ManualMotorAndDouserLines := by
  intro s i hfree hand
  refine ⟨?moOff, fun hp htrip hbooth hmd hfb => ?moOn, ?doClose, fun htrip hbooth hport => ⟨?doOpen, ?doSt⟩, ?doFi⟩
  case moOff =>
    obtain ⟨t, hexec, hanswered, honly, hstation⟩ := exec_of_modStation rfl hfree (answerMo_off hand)
    exact ⟨t, hexec, hanswered, honly, hstation.trans (Station.stopMotor_eq _)⟩
  case moOn =>
    have ha := answerMo_on hand ⟨hand.1, hp, htrip, hbooth, hmd⟩
    rw [State.startMotorThen_closed hfb] at ha
    obtain ⟨t, hexec, hanswered, honly, hstation⟩ := exec_of_modStation rfl hfree ha
    refine ⟨t, hexec, hanswered, honly, hstation.trans ?_⟩
    rw [Station.startMotor_eq]
    cases hm : (s.station i).motor <;> simp only [Station.started, hm]
  case doClose => exact exec_of_modStation rfl hfree (answerDo_close hand)
  case doOpen =>
    rintro ⟨hp, hburn, hld⟩
    have hld' := DoorState.not_enforced hld
    obtain ⟨t, hexec, hanswered, honly, hstation⟩ := exec_of_modStation rfl hfree
      (answerDo_taken hand (State.douserRefusal_none htrip hbooth hport hp hburn hld'))
    have hhouse : t.house (s.station i).house = s.house (s.station i).house := honly.1 (.house _) (by simp)
    have hfire : t.fire = s.fire := honly.1 .fire (by simp)
    refine ⟨t, hexec, hanswered, honly, hstation, ?_⟩
    rw [exec_pins hexec, State.outputs_station, State.stationPins_ds_iff (by rw [hstation]; exact hp), hstation, hfire]
    exact ⟨rfl, hburn, htrip, hbooth, by rw [← hport, ← hhouse], by simpa using hld'⟩
  case doSt =>
    exact fun h => exec_of_refused rfl hfree (answerDo_refused hand (State.douserRefusal_st htrip hbooth hport h))
  case doFi => exact fun h => exec_of_refused rfl hfree (answerDo_refused hand (State.douserRefusal_fi h))

/-! ### SR and SA -/

/-- A THREADED entry is taken back as its station's binding is dropped; an unbound station has none to take (R20, R42). -/
theorem State.house_dropBinding {s : State} {i : StationId}
    (h : ∀ e, s.boundEntry i = some e → e.status ≠ .runOut) :
    Touches [.house (s.station i).house] s (s.dropBinding i) ∧
      (s.dropBinding i).house (s.station i).house = { s.house (s.station i).house with
        queue := unbindEntry (s.house (s.station i).house).queue i } := by
  unfold State.dropBinding
  cases hb : s.boundEntry i with
  | none =>
    have hfree : unbindEntry (s.house (s.station i).house).queue i = (s.house (s.station i).house).queue := by
      refine (List.map_congr_left fun e he => if_neg fun hbound => ?_).trans (List.map_id _)
      have := List.find?_eq_none.1 hb e he
      simp [hbound] at this
    exact ⟨.refl _ s, by rw [hfree]⟩
  | some e =>
    simp only [h e hb, if_false]
    exact ⟨s.modHouse_touches _ _, s.house_modHouse_same _ _⟩

theorem answerSr_taken {s : State} {i : StationId} (hn : (s.station i).condition = .normal) (hidle : s.engaged i = false)
    (hout : (s.station i).lamp.state.out = true) : answer (.sr i.number) s =
      (((s.dropBinding i).modStation i Station.takeReset).readyTest (s.station i).house, .ok) := by
  simp [answer, answerSr, checked_eq, firstRefusal, hn, hidle, hout]

theorem answerSa_taken {s : State} {i : StationId} {h : HouseId} (hn : (s.station i).condition = .normal)
    (hown : (s.house (s.station i).house).engine = .idle) (hto : (s.house h).engine = .idle)
    (hb : s.boundEntry i = none) (hroom : (StationId.all.filter fun j => j ≠ i ∧ (s.station j).house = h).length ≤ 1) :
    answer (.sa i.number h.number) s = (s.modStation i fun st => { st with house := h }, .ok) := by
  have hothers : ((s.stationsOf h).filter fun j => j != i) =
      StationId.all.filter fun j => j ≠ i ∧ (s.station j).house = h := by
    rw [State.stationsOf, List.filter_filter]
    refine List.filter_congr fun j _ => ?_
    by_cases hj : j = i <;> simp [hj]
  have hroom' : ¬ 2 ≤ ((s.stationsOf h).filter fun j => j != i).length := by rw [hothers]; omega
  simp [answer, answerSa, checked_eq, firstRefusal, hn, hown, hto, hb, hroom']

/-- Settles O23: SR takes back the binding, resets the record and makes the test of R41; SA changes the house alone. -/
theorem resetAndAssignLines : Obligations.ResetAndAssignLines := by
  intro s i hfree hn
  refine ⟨fun hidle hout hrun => ?_, fun h hown hto hb hroom =>
    exec_of_modStation rfl hfree (answerSa_taken hn hown hto hb hroom)⟩
  obtain ⟨htouch, hhouse⟩ := State.house_dropBinding hrun
  have hdropped : (s.dropBinding i).station i = s.station i := htouch.station (by simp)
  obtain ⟨hexec, honly⟩ := exec_of_touches (parts := [.station i, .house (s.station i).house, .line]) rfl hfree
    (answerSr_taken hn hidle hout)
    (((htouch.mono (by simp)).trans ((State.modStation_touches _ i _).mono (by simp))).trans
      ((State.modHouse_touches _ _ _).mono (by simp))) (by simp)
  refine ⟨_, hexec, answered_of_line (htouch.line (by simp)) _, honly, ?_, ?_⟩
  · rw [State.settle_house, State.startReply_house, State.readyTest, State.house_modHouse_same, State.modStation_house,
      hhouse]
    rfl
  · rw [State.settle_station, State.startReply_station, State.readyTest, State.modHouse_station,
      State.station_modStation_same, hdropped, Station.takeReset, Station.stopMotor_eq]
    rfl

end Sys2Proof.Machine

/-!
What the house engine hears of a lamp (R46, R47, R61), then the strike requests, the grants and the ends of the strike
pulse and the recharge (R105 to R114), and the lines LS, LX and LC (R106, R119, R121).
-/

namespace Sys2Proof.Machine

/-! ### Entry to FAULT, as claims speak of it -/

/-- Engagement of a station of house h follows the house's engine and running order. -/
theorem State.engaged_of_house {s u : State} {i : StationId} (own : (u.station i).house = (s.station i).house)
    (engine : (u.house (s.station i).house).engine = (s.house (s.station i).house).engine)
    (queue : (u.house (s.station i).house).queue = (s.house (s.station i).house).queue) :
    u.engaged i = s.engaged i := by
  have hincoming : (u.house (s.station i).house).incoming = (s.house (s.station i).house).incoming := by
    unfold House.incoming
    rw [engine, House.next_congr queue]
  simp only [State.engaged, own, House.onScreen_congr engine queue, House.startStation_congr engine queue, hincoming]

/-- A stop leaves no motor running (R8). -/
theorem Station.stopped_rests (st : Station) : st.stopped.motor.running = false := by
  unfold Station.stopped
  cases hm : st.motor <;> simp only [hm] <;> rfl

/-- A house brought to FAULT behind changes of its stations, and of parts of its record that entry to FAULT sets anew,
is as `Faulted` says (R61, R63). -/
theorem faulted_of_enterFault {s u : State} {h : HouseId} {i : StationId} (cause : FaultCause)
    (hi : (s.station i).house = h) (queue : (u.house h).queue = (s.house h).queue)
    (fault : (u.house h).fault = (s.house h).fault) (clock : u.clock = s.clock)
    (own : ∀ j, (u.station j).house = (s.station j).house) (counter : (u.station i).counter = (s.station i).counter)
    (stops : u.engaged i = true ∨ (u.station i).motor.running = false)
    (stations : ∀ j, (s.station j).house ≠ h → u.station j = s.station j)
    (houses : ∀ k, k ≠ h → u.house k = s.house k) : Faulted s (u.enterFault h cause (some i)).settle h cause i := by
  have hbound : u.boundEntry i = s.boundEntry i := by
    unfold State.boundEntry
    rw [own, hi, queue]
  have hhouse := u.house_enterFault h h cause (some i)
  rw [if_pos rfl, queue, fault, State.faultRecord, queue, clock, Option.bind_some, hbound, Option.map_some, counter]
    at hhouse
  unfold Faulted
  rw [State.settle_house, hhouse]
  refine ⟨rfl, rfl, rfl, rfl, rfl, rfl, ?_, fun hnone => ?_, ?_, fun j hj => ?_, fun j hj => ?_, fun k hk => ?_⟩
  · cases (s.house h).fault <;> rfl
  · rw [State.settle_line, State.line_enterFault, fault, if_pos hnone]
  · rw [State.settle_station, State.station_enterFault, own, if_pos hi]
    split
    · exact Station.stopped_rests _
    · exact stops.resolve_left ‹_›
  · rw [State.settle_station, State.station_enterFault, own, if_pos hj]
    split
    · rw [Station.stopped_eq]
      exact ⟨rfl, rfl⟩
    · exact ⟨rfl, rfl⟩
  · rw [State.settle_station, State.station_enterFault, own, if_neg hj, stations j hj]
  · rw [State.settle_house, State.house_enterFault, if_neg hk, houses k hk]

/-! ### The engine hears of a lamp -/

section
variable {s : State} {i : StationId}

/-- A lamp of a station that is neither starting a show nor on screen does not concern the engine (R46, R61). -/
theorem State.engineLamp_idle (hstart : (s.house (s.station i).house).startStation ≠ some i)
    (hscreen : (s.house (s.station i).house).onScreen ≠ some i) : s.engineLamp i = s := by
  unfold State.engineLamp
  cases (s.station i).lamp.state <;> simp [hstart, hscreen]

/-- The lamp of a starting or showing station, gone out of itself, is a fault (R47, R61). -/
theorem State.engineLamp_fault (hout : (s.station i).lamp.state.out = true)
    (h : (s.house (s.station i).house).startStation = some i ∨ (s.house (s.station i).house).onScreen = some i) :
    s.engineLamp i = s.enterFault (s.station i).house .lamp (some i) := by
  unfold State.engineLamp
  cases hs : (s.station i).lamp.state with
  | cold | stub | lockout => exact if_pos (by simpa using h)
  | queued | striking | establish | burn => simp [hs, LampState.out] at hout

theorem State.not_engaged_iff : s.engaged i = false ↔
    (s.house (s.station i).house).startStation ≠ some i ∧ (s.house (s.station i).house).onScreen ≠ some i ∧
      (s.house (s.station i).house).incoming ≠ some i := by
  simp [State.engaged, and_assoc]

end

/-! ### A change of a lamp's state -/

section
variable (s : State) (i : StationId) (new : LampState) (cls : Option StrikeClass)

@[simp] theorem State.station_setLamp_same : (s.setLamp i new cls).station i = { s.station i with
    lamp := (s.station i).lamp.enter new cls
    channel := (s.station i).channel.enter (s.station i).lamp.state new
    carbon := (s.station i).carbon.enter (s.station i).lamp.state new } := by
  rw [State.station_setLamp, if_pos rfl]

@[simp] theorem State.setLamp_arbiter : (s.setLamp i new cls).arbiter =
    s.arbiter.lampMoved i (s.station i).lamp.state new := by
  obtain ⟨-, -, -, -, -, -, harbiter, -⟩ := s.setLamp_frame i new cls
  exact harbiter

theorem State.setLamp_line : (s.setLamp i new cls).line =
    if new = .lockout ∧ (s.station i).lamp.state ≠ .lockout then s.line.warned (.lockout i) else s.line := by
  obtain ⟨-, -, -, -, -, -, -, hline⟩ := s.setLamp_frame i new cls
  exact hline

end

/-- A lamp that is out, or in BURN, and that does not enter the queue or the supply, leaves the arbiter alone (R108). -/
theorem Arbiter.lampMoved_off (a : Arbiter) (i : StationId) {old new : LampState} (hold : old.onSupply = false)
    (hwas : old ≠ .queued) (hnew : new ≠ .queued) : a.lampMoved i old new = a := by
  simp [Arbiter.lampMoved, hold, hwas, hnew]

/-- A lamp that neither enters LOCKOUT nor moves in the arbiter moves its station alone (R105). -/
theorem State.setLamp_touches_station {s : State} {i : StationId} {new : LampState} (cls : Option StrikeClass)
    (hnew : new ≠ .lockout) (harbiter : s.arbiter.lampMoved i (s.station i).lamp.state new = s.arbiter) :
    Touches [.station i] s (s.setLamp i new cls) := by
  obtain ⟨hsame, hpending⟩ := s.setLamp_touches i cls hnew
  refine ⟨fun p hp => ?_, hpending⟩
  by_cases ha : p = .arbiter
  · subst ha
    exact (s.setLamp_arbiter i new cls).trans harbiter
  · exact hsame p (by simpa [ha] using hp)

/-! ### Grants -/

theorem State.testGrant_waits {s : State} (h : s.arbiter.supply ≠ .free ∨ s.arbiter.recharge = true) :
    s.testGrant = s := by
  unfold State.testGrant
  rcases h with h | h <;> simp [h]

theorem State.testGrant_free {s : State} {k : StationId} (hfree : s.arbiter.supply = .free)
    (hrecharge : s.arbiter.recharge = false)
    (hk : chooseLamp s.arbiter.mode s.arbiter.order s.arbiter.queue s.urgent = some k) : s.testGrant = s.grantTo k := by
  simp [State.testGrant, hfree, hrecharge, hk]

theorem State.grantTo_touches (s : State) (k : StationId) : Touches [.station k, .arbiter] s (s.grantTo k) :=
  (s.setLamp_touches k (new := .striking) none nofun).trans
    ((State.arbiter_touches _ _).mono (more := [.station k, .arbiter]) (by simp))

@[simp] theorem State.station_grantTo (s : State) (k : StationId) : (s.grantTo k).station k = { s.station k with
    lamp := (s.station k).lamp.enter .striking none
    channel := (s.station k).channel.enter (s.station k).lamp.state .striking
    carbon := (s.station k).carbon.enter (s.station k).lamp.state .striking } := s.station_setLamp_same k .striking none

theorem orderAfter_eq (mode : OrderMode) (order : List StationId) (k : StationId) : orderAfter mode order k =
    match mode with
    | .fixed => order
    | .rotate => StationId.all.rotateLeft k.number := by
  cases mode with
  | fixed => rfl
  | rotate => exact rotateAfter_eq k

/-- The grant to a QUEUED lamp (R109, R110, R112). -/
theorem State.grantTo_arbiter {s : State} {k : StationId} (h : (s.station k).lamp.state = .queued) :
    (s.grantTo k).arbiter = { s.arbiter with
      queue := s.arbiter.queue.erase k, grant := some k, supply := .granted
      order := orderAfter s.arbiter.mode s.arbiter.order k } := by
  simp only [State.grantTo, State.setLamp_arbiter, h]
  rfl

/-- A queue of one lamp has that lamp chosen (R109, R110). -/
theorem chooseLamp_single {mode : OrderMode} {order : List StationId} {i : StationId} (urgent : StationId → Bool)
    (h : i ∈ order) : chooseLamp mode order [i] urgent = some i := by
  have hscan : i ∈ scanOrder mode order := by
    cases mode with
    | fixed => exact StationId.mem_all i
    | rotate => exact h
  cases hk : chooseLamp mode order [i] urgent with
  | some k => rw [List.mem_singleton.1 (chooseLamp_mem hk)]
  | none =>
    unfold chooseLamp at hk
    dsimp only at hk
    split at hk
    · exact hk.symm.trans hk |>.symm ▸ nomatch hk
    · exact absurd (by simp) (List.find?_eq_none.1 hk i hscan)

theorem idxOf_find?_le {α : Type} [BEq α] [LawfulBEq α] {l : List α} {p : α → Bool} {k j : α} (hk : l.find? p = some k)
    (hj : p j = true) : l.idxOf k ≤ l.idxOf j := by
  obtain ⟨hp, before, after, rfl, hbefore⟩ := List.find?_eq_some_iff_append.1 hk
  have hk' : k ∉ before := fun hmem => by simpa [hp] using hbefore k hmem
  have hj' : j ∉ before := fun hmem => by simpa [hj] using hbefore j hmem
  rw [List.idxOf_append_of_notMem hk', List.idxOf_append_of_notMem hj', List.idxOf_cons_self]
  omega

/-- The lamp chosen is URGENT if any queued lamp is, and stands first of its class in the order scanned (R109, R110). -/
theorem chooseLamp_first {mode : OrderMode} {order queue : List StationId} {urgent : StationId → Bool} {k : StationId}
    (hk : chooseLamp mode order queue urgent = some k) (hscan : ∀ j, j ∈ scanOrder mode order) :
    (∀ j ∈ queue, urgent j = true → urgent k = true) ∧
      ∀ j ∈ queue, urgent j = urgent k → (scanOrder mode order).idxOf k ≤ (scanOrder mode order).idxOf j := by
  unfold chooseLamp at hk
  dsimp only at hk
  split at hk
  · rename_i k' hfind
    cases hk
    have hurgent : urgent k = true := by
      have := List.find?_some hfind
      simp only [Bool.and_eq_true] at this
      exact this.2
    exact ⟨fun _ _ _ => hurgent, fun j hj hsame => idxOf_find?_le hfind (by simp [hj, hsame, hurgent])⟩
  · rename_i hnone
    have hcalm : ∀ j ∈ queue, urgent j = false := fun j hj => by
      have := List.find?_eq_none.1 hnone j (hscan j)
      simpa [hj] using this
    refine ⟨fun j hj hu => absurd hu (by simp [hcalm j hj]), fun j hj _ => idxOf_find?_le hk (by simp [hj])⟩

/-! ### The end of the strike pulse and of the recharge -/

theorem number_le_of_idxOf {k j : StationId} (h : StationId.all.idxOf k ≤ StationId.all.idxOf j) : k.number ≤ j.number := by
  have hnumber : ∀ i : StationId, i.number = StationId.all.idxOf i + 1 := fun i => by cases i <;> decide
  rw [hnumber, hnumber]
  omega

/-- A queued lamp's station is present, NORMAL and untripped, and no booth trip stands over it (R105). -/
theorem LampInv.of_queued {s : State} (hs : LampInv s) {k : StationId} (hk : k ∈ s.arbiter.queue) :
    (s.station k).lamp.state = .queued ∧ (s.station k).present = true ∧ (s.station k).trip = none ∧
      (s.station k).condition = .normal ∧ s.fire.booth = none := by
  obtain ⟨hlamps, -, -, -, -, -, hbooth⟩ := hs
  obtain ⟨hbarred, hqueue, -⟩ := hlamps k
  have hqueued := hqueue.1 hk
  have hfree : ¬ (s.station k).barred := fun hb => by simpa [hqueued, LampState.out] using hbarred hb
  simp only [Station.barred, not_or, Bool.not_eq_true, Option.isSome_eq_false_iff, Option.isNone_iff_eq_none,
    Bool.not_eq_false] at hfree
  obtain ⟨htrip, hp, hcond⟩ := hfree
  refine ⟨hqueued, hp, htrip, ?_, ?_⟩
  · cases hc : (s.station k).condition with
    | normal => rfl
    | resetting => exact absurd hc hcond
  · cases hb : s.fire.booth with
    | none => rfl
    | some b => exact absurd (hbooth (by rw [hb]; rfl) k hp) (by rw [htrip]; exact Bool.false_ne_true)

/-- The state with the recharge ended and the supply FREE (R114). -/
def State.rechargeEnded (s : State) : State := { s with arbiter := { s.arbiter with supply := .free, recharge := false } }

theorem exec_rechargeEnd {s : State} (h : s.arbiter.recharge = true) :
    exec .rechargeEnd s = done s.rechargeEnded.testGrant := by
  have hexec : exec .rechargeEnd s = execRechargeEnd s := rfl
  rw [hexec, execRechargeEnd, if_pos h]
  rfl

/-- Settles O42: the strike pulse passes its lamp on; the recharge frees the supply, which the next lamp in turn takes. -/
theorem strikePulseAndRechargeEnd : Obligations.StrikePulseAndRechargeEnd := by
  intro s i
  refine ⟨fun hs ht => ?_, fun hr hq => ?_, fun hr hinv hq => ?_⟩
  · have hexec : exec (.strikePulseEnd i) s = execStrikePulseEnd i s := rfl
    simp only [execStrikePulseEnd, hs, ht, BEq.rfl, Bool.and_self, if_true] at hexec
    have harbiter : s.arbiter.lampMoved i (s.station i).lamp.state .establish = s.arbiter := by
      rw [hs]
      rfl
    refine ⟨_, hexec, (State.setLamp_touches_station (new := .establish) none nofun harbiter).settle, ?_, ?_⟩
    · rw [State.settle_station, State.station_setLamp_same, hs]
      rfl
    · rw [State.settle_pins, State.outputs_station]
      simp [State.stationPins, Lamp.enter]
  · have hnone : s.rechargeEnded.testGrant = s.rechargeEnded := by
      obtain h | ⟨k, hk, -⟩ := s.rechargeEnded.testGrant_cases
      · exact h
      · exact absurd hk (by simp [State.rechargeEnded, hq])
    have hexec := exec_rechargeEnd hr
    rw [hnone] at hexec
    exact ⟨_, hexec, (s.arbiter_touches _).settle, rfl⟩
  · have horder : ∀ j, j ∈ s.arbiter.order := fun j => (hinv.1 j).2.2.2.2.2.2.2.2.2
    have hscan : ∀ j, j ∈ scanOrder s.arbiter.mode s.arbiter.order := fun j => by
      cases s.arbiter.mode with
      | fixed => exact StationId.mem_all j
      | rotate => exact horder j
    obtain ⟨k, hk⟩ := Option.ne_none_iff_exists'.1
      (mt (chooseLamp_none (mode := s.arbiter.mode) (urgent := s.urgent) horder) hq)
    have hmem := chooseLamp_mem hk
    obtain ⟨hqueued, hp, htrip, hcond, hbooth⟩ := hinv.of_queued hmem
    have hexec := exec_rechargeEnd hr
    rw [State.testGrant_free (s := s.rechargeEnded) rfl rfl hk] at hexec
    have htouch : Touches [.station k, .arbiter] s (s.rechargeEnded.grantTo k) :=
      ((s.arbiter_touches _).mono (by simp)).trans (State.grantTo_touches _ k)
    have harbiter := State.grantTo_arbiter (s := s.rechargeEnded) hqueued
    have hstation := s.rechargeEnded.station_grantTo k
    obtain ⟨hurgent, hfirst⟩ := chooseLamp_first hk hscan
    refine ⟨_, k, hexec, hmem, htouch.settle, ?_⟩
    rw [State.settle_arbiter, harbiter]
    refine ⟨rfl, rfl, rfl, rfl, ?_, ?_, ?_, fun j hj hcls => ?_, fun j hj hcls => ?_, orderAfter_eq _ _ _⟩
    · rw [State.settle_station, hstation]
      rfl
    · have hfire := htouch.fire (by simp)
      rw [State.settle_pins, State.outputs_station, State.stationPins_sk_iff (by rw [hstation]; exact hp), hstation, hfire]
      exact ⟨rfl, htrip, hbooth, hcond⟩
    · rw [State.settle_pins, State.outputs, harbiter]
      rfl
    · simpa [State.urgent] using hurgent j hj (by simp [State.urgent, hcls])
    · have hle := hfirst j hj (by simp [State.urgent, hcls])
      refine ⟨fun hm => ?_, fun hm => ?_⟩ <;> rw [hm] at hle
      · exact number_le_of_idxOf hle
      · exact hle

/-! ### LS -/

/-- A lamp as a strike request leaves it, ready for the queue: its counts 0 (R108). -/
def State.strikeAsked (s : State) (i : StationId) : State :=
  (s.modLamp i fun l => { l with retry := 0, restrike := 0 }).setLamp i .queued (some .normal)

section
variable {s : State} {i : StationId} (hcold : (s.station i).lamp.state = .cold)
include hcold

theorem State.station_strikeAsked : (s.strikeAsked i).station i = { s.station i with
    lamp := { (s.station i).lamp with
      state := .queued, cls := some .normal, granted := none, retry := 0, restrike := 0, establish := 0
      pulseTimer := false }
    channel := { (s.station i).channel with sampleTimer := false, status := .held, jog := none } } := by
  rw [State.strikeAsked, State.station_setLamp_same, State.modLamp, State.station_modStation_same]
  simp [hcold, Lamp.enter, Channel.enter, Carbon.enter, LampState.sampled]

theorem State.strikeAsked_arbiter : (s.strikeAsked i).arbiter = { s.arbiter with queue := s.arbiter.queue ++ [i] } := by
  rw [State.strikeAsked, State.setLamp_arbiter, State.modLamp, State.station_modStation_same]
  simp [hcold, Arbiter.lampMoved, LampState.onSupply]

end

theorem State.strikeAsked_touches (s : State) (i : StationId) : Touches [.station i, .arbiter] s (s.strikeAsked i) :=
  ((s.modStation_touches i _).mono (by simp)).trans
    (State.setLamp_touches (s.modLamp i fun l => { l with retry := 0, restrike := 0 }) i (new := .queued) _ nofun)

section
variable {s : State} {i : StationId}

theorem State.strikeRefusal_none {t₀ : Trim} (h : StrikeAllowed s i t₀) (hcold : (s.station i).lamp.state = .cold) :
    s.strikeRefusal i = none := by
  obtain ⟨hnormal, htrim, htrip, hbooth, hld, hreserve⟩ := h
  have hp : (s.station i).present = true := by rw [Station.present, htrim]; rfl
  have hholds : (s.station i).reserveHolds = true := by simp [Station.reserveHolds, htrim, hreserve]
  simp [State.strikeRefusal, firstRefusal, State.tripped, hnormal, htrip, hbooth, hp, hcold,
    DoorState.not_enforced hld, hholds]

theorem State.strikeRefusal_by (h : (s.station i).condition = .resetting) : s.strikeRefusal i = some .by_ := by
  simp [State.strikeRefusal, firstRefusal, h]

variable (hnormal : (s.station i).condition = .normal)
include hnormal

theorem State.strikeRefusal_fi (h : (s.station i).trip.isSome = true ∨ s.fire.booth.isSome = true) :
    s.strikeRefusal i = some .fi := by
  have htripped : s.tripped i = true := by simpa [State.tripped] using h
  simp [State.strikeRefusal, firstRefusal, hnormal, htripped]

theorem State.strikeRefusal_st (htrip : (s.station i).trip = none) (hbooth : s.fire.booth = none)
    (h : (s.station i).present = false ∨ (s.station i).lamp.state ≠ .cold ∨
      (s.station i).ld = { contact := .opened, mode := .enforce } ∨
      ∃ t₀, (s.station i).trim = some t₀ ∧ (s.station i).carbon.rp < t₀.stub + 20 * t₀.sp) :
    s.strikeRefusal i = some .st := by
  unfold State.strikeRefusal
  rcases h with h | h | h | ⟨t₀, hlength, hlow⟩
  · simp [firstRefusal, State.tripped, hnormal, htrip, hbooth, h]
  · simp [firstRefusal, State.tripped, hnormal, htrip, hbooth, h]
  · simp [firstRefusal, State.tripped, hnormal, htrip, hbooth, h, DoorState.enforced]
  · simp [firstRefusal, State.tripped, hnormal, htrip, hbooth, Station.reserveHolds, hlength, hlow]

end

theorem answerLs_taken {s : State} {i : StationId} (h : s.strikeRefusal i = none) :
    answer (.ls i.number) s = (s.takeStrike i, .ok) := by simp [answer, answerLs, h]

theorem answerLs_refused {s : State} {i : StationId} {c : ErrorCode} (h : s.strikeRefusal i = some c) :
    answer (.ls i.number) s = (s, .no c) := by simp [answer, answerLs, h, refuse]

/-- Settles O40: the lamp joins the queue, and takes a FREE supply that no other lamp waits for. -/
theorem strikeLine : Obligations.StrikeLine := by
  intro s i hfree
  refine ⟨fun t₀ hallowed hcold => ?_,
    fun h => exec_of_refused rfl hfree (answerLs_refused (State.strikeRefusal_by h)),
    fun hn h => exec_of_refused rfl hfree (answerLs_refused (State.strikeRefusal_fi hn h)),
    fun hn ht hb h => exec_of_refused rfl hfree (answerLs_refused (State.strikeRefusal_st hn ht hb h))⟩
  have ha := answerLs_taken (State.strikeRefusal_none hallowed hcold)
  have hasked := s.strikeAsked_touches i
  have harbiter := State.strikeAsked_arbiter hcold
  have hstation := State.station_strikeAsked hcold
  refine ⟨fun hwait => ?_, fun hsupply hrecharge hqueue horder => ?_⟩
  · have htake : s.takeStrike i = s.strikeAsked i :=
      State.testGrant_waits (s := s.strikeAsked i) (by rw [harbiter]; exact hwait)
    rw [htake] at ha
    obtain ⟨hexec, honly⟩ := exec_of_touches (parts := [.station i, .arbiter, .line]) rfl hfree ha
      (hasked.mono (by simp)) (by simp)
    exact ⟨_, hexec, answered_of_line (hasked.line (by simp)) _, honly, harbiter, hstation⟩
  · have hchosen : chooseLamp (s.strikeAsked i).arbiter.mode (s.strikeAsked i).arbiter.order
        (s.strikeAsked i).arbiter.queue (s.strikeAsked i).urgent = some i := by
      rw [harbiter, hqueue]
      exact chooseLamp_single _ horder
    have htake : s.takeStrike i = (s.strikeAsked i).grantTo i :=
      State.testGrant_free (s := s.strikeAsked i) (by rw [harbiter]; exact hsupply) (by rw [harbiter]; exact hrecharge) hchosen
    have htouch := hasked.trans (State.grantTo_touches (s.strikeAsked i) i)
    rw [htake] at ha
    obtain ⟨hexec, honly⟩ := exec_of_touches (parts := [.station i, .arbiter, .line]) rfl hfree ha
      (htouch.mono (by simp)) (by simp)
    have hgranted := State.grantTo_arbiter (s := s.strikeAsked i) (k := i) (by rw [hstation])
    have hlit := (s.strikeAsked i).station_grantTo i
    obtain ⟨hnormal, htrim, htrip, hbooth, -⟩ := hallowed
    refine ⟨_, hexec, answered_of_line (htouch.line (by simp)) _, honly, ?_, ?_, ?_, ?_⟩
    · have hleft : (s.arbiter.queue ++ [i]).erase i = s.arbiter.queue := by simp [hqueue]
      rw [State.settle_arbiter, State.startReply_arbiter, hgranted, harbiter, orderAfter_eq]
      simp only [hleft] <;> rfl
    · rw [State.settle_station, State.startReply_station, hlit, hstation]
      rfl
    · have hfire := htouch.fire (by simp)
      have hpins := State.stationPins_sk_iff (s := ((s.strikeAsked i).grantTo i).startReply s.line.echoCr .ok) (i := i)
      rw [State.startReply_station, State.startReply_fire, hlit, hstation, hfire] at hpins
      rw [State.settle_pins, State.outputs_station, hpins (by rw [Station.present]; simp [htrim])]
      exact ⟨rfl, htrip, hbooth, hnormal⟩
    · rw [State.settle_pins, State.outputs, State.startReply_arbiter, hgranted]
      rfl

/-! ### LX -/

/-- A station with a jog in progress ended (R102). -/
def Station.jogEnded (st : Station) : Station := { st with channel := { st.channel with jog := none } }

theorem Station.extinguished_jogEnded (st : Station) : st.jogEnded.extinguished = st.extinguished.jogEnded := by
  unfold Station.extinguished Station.jogEnded
  dsimp only
  split <;> rfl

theorem answerLx_taken {s : State} {i : StationId} (h : (s.station i).condition = .normal) :
    answer (.lx i.number) s = ((s.endJog i).consoleExtinguish i, .ok) := by
  simp [answer, answerLx, checked_eq, firstRefusal, h]

/-- LX of a lamp not in LOCKOUT, where the engine has no part in it, is an extinguish (R118, R119). -/
theorem State.consoleExtinguish_idle {s : State} {i : StationId} (hidle : s.engaged i = false)
    (hstate : (s.station i).lamp.state ≠ .lockout) : s.consoleExtinguish i = s.extinguish i := by
  obtain ⟨hstart, hscreen, -⟩ := State.not_engaged_iff.1 hidle
  have hhouse : (s.extinguish i).house ((s.extinguish i).station i).house = s.house (s.station i).house := by
    rw [State.station_extinguish_same, Station.extinguished_house, State.house_of_houses (s.extinguish_houses i)]
  have hheard : (s.extinguish i).engineLamp i = s.extinguish i :=
    State.engineLamp_idle (by rw [hhouse]; exact hstart) (by rw [hhouse]; exact hscreen)
  unfold State.consoleExtinguish
  cases hs : (s.station i).lamp.state with
  | queued | striking | establish | burn => exact hheard
  | cold | stub => simp [State.extinguish, hs]
  | lockout => exact absurd hs hstate

/-! ### LC -/

theorem Arbiter.lampMoved_out (a : Arbiter) (i : StationId) {old new : LampState} (hold : old.out = true)
    (hnew : new.out = true) : a.lampMoved i old new = a := by
  refine a.lampMoved_off i ?_ ?_ ?_
  · cases old <;> first | rfl | cases hold
  · rintro rfl; cases hold
  · rintro rfl; cases hnew

theorem answerLc_taken {s : State} {i : StationId} {t₀ : Trim} {n v : Int} (h : (s.station i).condition = .normal)
    (htrim : (s.station i).trim = some t₀) (hout : (s.station i).lamp.state.out = true) (hv : v = clampInt 0 5000 n) :
    answer (.lc i.number n) s =
      (s.recordCarbon i t₀ v.toNat, if v = n then .ok else .clamped ["LENGTH".toList, decimalInt v]) := by
  subst hv
  rw [← Reply.okMoved_clampField]
  simp [answer, answerLc, checked_eq, firstRefusal, h, htrim, hout, clampField]

/-- The record of new carbons (R121). -/
theorem State.recordCarbon_spec {s : State} {i : StationId} (t₀ : Trim) (rp : Nat)
    (hout : (s.station i).lamp.state.out = true) :
    Touches [.station i] s (s.recordCarbon i t₀ rp) ∧
      ((s.recordCarbon i t₀ rp).station i).carbon = { (s.station i).carbon with rp := rp } ∧
      ((s.recordCarbon i t₀ rp).station i).lamp =
        { state := if rp ≤ t₀.stub then .stub else .cold, cls := none, granted := none, retry := 0, restrike := 0
          establish := 0, pulseTimer := false } ∧
      ((s.recordCarbon i t₀ rp).station i).channel.jog = none ∧
      (s.recordCarbon i t₀ rp).station i = { s.station i with
        lamp := ((s.recordCarbon i t₀ rp).station i).lamp
        carbon := ((s.recordCarbon i t₀ rp).station i).carbon
        channel := ((s.recordCarbon i t₀ rp).station i).channel } := by
  unfold State.recordCarbon
  have hnew : (if rp ≤ t₀.stub then LampState.stub else .cold).out = true := by split <;> rfl
  have hlockout : (if rp ≤ t₀.stub then LampState.stub else .cold) ≠ .lockout := by split <;> nofun
  dsimp only
  generalize (if rp ≤ t₀.stub then LampState.stub else .cold) = new at hnew hlockout
  refine ⟨(s.modStation_touches i _).trans (State.setLamp_touches_station none hlockout ?_), ?_, ?_, ?_, ?_⟩
  all_goals
    try rw [State.station_modStation_same]
    try rw [State.station_setLamp_same, State.station_modStation_same]
  · exact Arbiter.lampMoved_out _ i hout hnew
  · cases new <;> cases hs : (s.station i).lamp.state <;> simp_all [Carbon.enter, LampState.out]
  · cases new <;> simp_all [Lamp.enter, LampState.out]
  · simp [Channel.enter]

/-- Settles O41: LX is the end of a jog and an extinguish, or the acknowledge of LOCKOUT; LC one change of the station. -/
theorem extinguishAndCarbonLines : Obligations.ExtinguishAndCarbonLines := by
  intro s i n hfree hnormal
  have hjog := s.modStation_touches i fun st => { st with channel := { st.channel with jog := none } }
  have hended : (s.endJog i).station i = (s.station i).jogEnded := s.station_modStation_same i _
  refine ⟨fun hidle hstate => ?_, fun hlockout => ?_, fun t₀ htrim hout v hv => ?_, fun hlit => ?_⟩
  · have hidle' : (s.endJog i).engaged i = false :=
      (State.engaged_congr (s := s) (t := s.endJog i) rfl (by rw [hended]; rfl)).trans hidle
    have ha := answerLx_taken hnormal
    rw [State.consoleExtinguish_idle hidle' (by rw [hended]; exact hstate)] at ha
    have htouch := (hjog.mono (by simp)).trans ((s.endJog i).extinguish_touches i)
    obtain ⟨hexec, honly⟩ := exec_of_touches (parts := [.station i, .arbiter, .line]) rfl hfree ha
      (htouch.mono (by simp)) (by simp)
    refine ⟨_, hexec, answered_of_line (htouch.line (by simp)) _, honly, ?_, ?_⟩
    · rw [State.settle_arbiter, State.startReply_arbiter, State.extinguish_arbiter, hended]
      rfl
    · rw [State.settle_station, State.startReply_station, State.station_extinguish_same, hended,
        Station.extinguished_jogEnded]
      rfl
  · have ha := answerLx_taken hnormal
    have hcold : (s.endJog i).consoleExtinguish i = (s.endJog i).setLamp i .cold := by
      have hstate : ((s.endJog i).station i).lamp.state = .lockout := by rw [hended]; exact hlockout
      simp [State.consoleExtinguish, hstate]
    rw [hcold] at ha
    have harbiter : (s.endJog i).arbiter.lampMoved i ((s.endJog i).station i).lamp.state .cold = (s.endJog i).arbiter := by
      rw [hended]
      exact Arbiter.lampMoved_out _ i (by rw [Station.jogEnded, hlockout]; rfl) rfl
    have htouch := hjog.trans (State.setLamp_touches_station (s := s.endJog i) (new := .cold) none nofun harbiter)
    obtain ⟨hexec, honly⟩ := exec_of_touches (parts := [.station i, .line]) rfl hfree ha (htouch.mono (by simp)) (by simp)
    refine ⟨_, hexec, answered_of_line (htouch.line (by simp)) _, honly, ?_⟩
    rw [State.settle_station, State.startReply_station, State.station_setLamp_same, hended]
    simp [Station.jogEnded, hlockout, Lamp.enter, Channel.enter, Carbon.enter]
  · obtain ⟨htouch, hcarbon, hlamp, hnojog, hrest⟩ := State.recordCarbon_spec t₀ v.toNat hout
    obtain ⟨hexec, honly⟩ := exec_of_touches (parts := [.station i, .line]) rfl hfree
      (answerLc_taken hnormal htrim hout hv) (htouch.mono (by simp)) (by simp)
    exact ⟨_, hexec, honly, answered_of_line (htouch.line (by simp)) _, hcarbon, hlamp, hnojog, hrest⟩
  · refine exec_of_refused rfl hfree ?_
    simp [answer, answerLc, checked_eq, firstRefusal, hnormal, hlit]

end Sys2Proof.Machine

/-!
The steps of a start (R46 to R48) as later proofs cite them: the start command with the MS action, the RUNUP step, and
what a lamp told to the engine leaves alone.
-/

namespace Sys2Proof.Machine

/-! ### Light actions -/

/-- An action in its ranges is the fade of R140 that claims speak of (R144). -/
theorem State.house_action {s : State} {h : HouseId} {a : Option LightAction}
    (ranged : ∀ x ∈ a, x.level ≤ 1000 ∧ x.time ≤ 60000) :
    (s.action h a).house h = { s.house h with light := (s.house h).light.acted a } := by
  cases a with
  | none => rfl
  | some a =>
    obtain ⟨hlevel, htime⟩ := ranged a rfl
    have hfade : (s.action h (some a)).house h =
        { s.house h with light := (s.house h).light.fadeStart a.level a.time } := s.house_modLight_same h _
    rw [hfade, Light.fadeStart_eq _ hlevel htime]
    rfl

@[simp] theorem State.action_station (s : State) (h : HouseId) (a : Option LightAction) (i : StationId) :
    (s.action h a).station i = s.station i := (s.action_touches h a).station (by simp)

@[simp] theorem State.action_arbiter (s : State) (h : HouseId) (a : Option LightAction) :
    (s.action h a).arbiter = s.arbiter := (s.action_touches h a).arbiter (by simp)

@[simp] theorem State.action_fire (s : State) (h : HouseId) (a : Option LightAction) :
    (s.action h a).fire = s.fire := (s.action_touches h a).fire (by simp)

@[simp] theorem State.action_line (s : State) (h : HouseId) (a : Option LightAction) :
    (s.action h a).line = s.line := (s.action_touches h a).line (by simp)

/-! ### The RUNUP step -/

/-- The house at RUNUP, its lamp waited for no more (R47). -/
def State.atRunUp (s : State) (h : HouseId) : State :=
  s.modHouse h fun hs => { hs with step := some .runUp, lampWait := false }

/-- The state in which a start command is taken and the head's MS action applied (R47, R144). -/
def State.runningUp (s : State) (h : HouseId) (i : StationId) : State :=
  ((s.atRunUp h).modStation i Station.startMotor).action h ((s.house h).queue.head?.bind (·.ms))

section
variable {s : State} {h : HouseId} {i : StationId}

theorem State.startRefusal_modHouse (f : House → House) : (s.modHouse h f).startRefusal i = s.startRefusal i := rfl

theorem State.runUpStep_refused (hr : s.startRefusal i ≠ none) : s.runUpStep h i =
    ((s.atRunUp h).action h ((s.house h).queue.head?.bind (·.ms))).enterFault h .start (some i) := by
  obtain ⟨c, hc⟩ := Option.ne_none_iff_exists'.1 hr
  simp only [State.runUpStep, State.startRefusal_modHouse, hc]
  rfl

theorem State.runUpStep_taken (allowed : StartAllowed s i) (hfb : (s.station i).fb = .closed) : s.runUpStep h i =
    if (s.house h).engine = .starting ∧ (s.station i).startMotor.motor = .atSpeed then (s.runningUp h i).leaderStep h i
    else s.runningUp h i := by
  have hstep : s.runUpStep h i =
      let u := (s.atRunUp h).startMotorThen i fun v => v.action h ((s.house h).queue.head?.bind (·.ms))
      if (u.house h).engine = .starting && (u.station i).motor = .atSpeed then u.leaderStep h i else u := by
    simp only [State.runUpStep, State.startRefusal_modHouse, State.startRefusal_eq_none.2 allowed]
    rfl
  have hstarted : (s.atRunUp h).startMotorThen i (fun v => v.action h ((s.house h).queue.head?.bind (·.ms))) =
      s.runningUp h i := State.startMotorThen_closed (s := s.atRunUp h) hfb _
  have hengine : ((s.runningUp h i).house h).engine = (s.house h).engine := by
    rw [State.runningUp, State.action_engine, State.modStation_house, State.atRunUp, State.house_modHouse_same]
  have hmotor : ((s.runningUp h i).station i).motor = (s.station i).startMotor.motor := by
    rw [State.runningUp, State.action_station, State.station_modStation_same]
    rfl
  rw [hstep, hstarted]
  simp only [hengine, hmotor, Bool.and_eq_true, decide_eq_true_eq]

theorem Station.startMotor_atSpeed {st : Station} : st.startMotor.motor = .atSpeed ↔ st.motor = .atSpeed := by
  rw [Station.startMotor_eq]
  cases hm : st.motor <;> simp [Station.started, hm]

/-- A start of a motor not yet at speed stays in RUNUP (R47). -/
theorem State.runUpStep_runUp (allowed : StartAllowed s i) (hfb : (s.station i).fb = .closed)
    (hm : (s.station i).motor ≠ .atSpeed) : s.runUpStep h i = s.runningUp h i := by
  rw [State.runUpStep_taken allowed hfb, if_neg]
  exact fun hc => hm (Station.startMotor_atSpeed.1 hc.2)

theorem State.runningUp_touches (s : State) (h : HouseId) (i : StationId) :
    Touches [.house h, .station i] s (s.runningUp h i) :=
  (((s.modHouse_touches h _).mono (by simp)).trans ((State.modStation_touches _ i _).mono (by simp))).trans
    ((State.action_touches _ h _).mono (by simp))

theorem State.station_runningUp (s : State) (h : HouseId) (i : StationId) :
    (s.runningUp h i).station i = (s.station i).started := by
  rw [State.runningUp, State.action_station, State.station_modStation_same, Station.startMotor_eq]
  rfl

/-- The house as a taken start leaves it, its head e (R47, R144). -/
theorem State.house_runningUp {e : Entry} (hhead : (s.house h).queue.head? = some e) (taken : e.asTaken) :
    (s.runningUp h i).house h = { s.house h with
      step := some .runUp, lampWait := false, light := (s.house h).light.acted e.ms } := by
  have hms : (s.house h).queue.head?.bind (·.ms) = e.ms := by rw [hhead]; rfl
  obtain ⟨-, -, -, -, -, -, -, hactions⟩ := taken
  rw [State.runningUp, hms, State.house_action (hactions e.ms (by simp)), State.modStation_house, State.atRunUp,
    State.house_modHouse_same]

end

/-! ### What a lamp told to the engine leaves alone -/

/-- Two states agree on the lamp, the arc channel and the carbon of a station, and on the arbiter. -/
def SameArc (i : StationId) (s t : State) : Prop :=
  (t.station i).lamp = (s.station i).lamp ∧ (t.station i).channel = (s.station i).channel ∧
    (t.station i).carbon = (s.station i).carbon ∧ t.arbiter = s.arbiter

theorem SameArc.refl (i : StationId) (s : State) : SameArc i s s := ⟨rfl, rfl, rfl, rfl⟩

theorem Station.stopped_arc (st : Station) :
    st.stopped.lamp = st.lamp ∧ st.stopped.channel = st.channel ∧ st.stopped.carbon = st.carbon := by
  rw [Station.stopped_eq]
  exact ⟨rfl, rfl, rfl⟩

theorem State.enterFault_arc (s : State) (h : HouseId) (cause : FaultCause) (i : Option StationId) (j : StationId) :
    SameArc j s (s.enterFault h cause i) := by
  unfold SameArc
  rw [(s.enterFault_touches h cause i).arbiter (by simp), State.station_enterFault]
  split
  · split
    · obtain ⟨hlamp, hchannel, hcarbon⟩ :=
        Station.stopped_arc ({ s.station j with demandOpen := false, csOpen := false } : Station)
      exact ⟨hlamp, hchannel, hcarbon, rfl⟩
    · exact ⟨rfl, rfl, rfl, rfl⟩
  · exact ⟨rfl, rfl, rfl, rfl⟩

section
variable {s : State} {i : StationId}

theorem State.runUpStep_arc (h : HouseId) (hfb : (s.station i).fb = .closed) (hm : (s.station i).motor ≠ .atSpeed) :
    SameArc i s (s.runUpStep h i) := by
  cases hr : s.startRefusal i with
  | some c =>
    rw [State.runUpStep_refused (by rw [hr]; exact Option.some_ne_none c)]
    obtain ⟨hlamp, hchannel, hcarbon, harbiter⟩ := State.enterFault_arc
      ((s.atRunUp h).action h ((s.house h).queue.head?.bind (·.ms))) h .start (some i) i
    rw [State.action_station] at hlamp hchannel hcarbon
    rw [State.action_arbiter] at harbiter
    exact ⟨hlamp, hchannel, hcarbon, harbiter⟩
  | none =>
    rw [State.runUpStep_runUp (State.startRefusal_eq_none.1 hr) hfb hm]
    unfold SameArc
    rw [State.station_runningUp, (s.runningUp_touches h i).arbiter (by simp)]
    unfold Station.started
    cases hmotor : (s.station i).motor <;> exact ⟨rfl, rfl, rfl, rfl⟩

/-- The engine told that a lamp has gone out leaves the arcs and the arbiter, and asserts at most ATTENTION. -/
theorem State.engineLamp_arc (hout : (s.station i).lamp.state.out = true) : SameArc i s (s.engineLamp i) := by
  by_cases h : (s.house (s.station i).house).startStation = some i ∨ (s.house (s.station i).house).onScreen = some i
  · rw [State.engineLamp_fault hout h]
    exact s.enterFault_arc _ _ _ i
  · rw [State.engineLamp_idle (fun hc => h (.inl hc)) fun hc => h (.inr hc)]
    exact .refl i s

theorem State.engineLamp_line (hout : (s.station i).lamp.state.out = true) (hattention : s.line.attention = true)
    (hreset : s.line.sinceReset = true) : (s.engineLamp i).line = s.line := by
  by_cases h : (s.house (s.station i).house).startStation = some i ∨ (s.house (s.station i).house).onScreen = some i
  · rw [State.engineLamp_fault hout h, State.line_enterFault]
    split
    · generalize s.line = l at hattention hreset ⊢
      cases l
      cases hattention
      cases hreset
      rfl
    · rfl
  · rw [State.engineLamp_idle (fun hc => h (.inl hc)) fun hc => h (.inr hc)]

end

/-- A lamp gone out behind changes of its station, the arbiter and the line unit: the engine of a house in which the
station starts a show or is on screen makes the fault, and any other hears nothing (R46, R47, R61). -/
theorem engineLamp_heard {s u : State} {i : StationId} (touched : Touches [.station i, .arbiter, .line] s u)
    (own : (u.station i).house = (s.station i).house) (counter : (u.station i).counter = (s.station i).counter)
    (hout : (u.station i).lamp.state.out = true) :
    ((s.house (s.station i).house).startStation ≠ some i → (s.house (s.station i).house).onScreen ≠ some i →
        u.engineLamp i = u) ∧
      ((s.house (s.station i).house).startStation = some i ∨ (s.house (s.station i).house).onScreen = some i →
        Faulted s (u.engineLamp i).settle (s.station i).house .lamp i) := by
  have hhouse : ∀ k, u.house k = s.house k := fun k => touched.house (by simp)
  have hother : ∀ j, j ≠ i → u.station j = s.station j := fun j hj => touched.station (by simp [hj])
  have howns : ∀ j, (u.station j).house = (s.station j).house := fun j => by
    by_cases hj : j = i
    · rw [hj, own]
    · rw [hother j hj]
  refine ⟨fun hstart hscreen => State.engineLamp_idle (by rw [own, hhouse]; exact hstart)
    (by rw [own, hhouse]; exact hscreen), fun h => ?_⟩
  have hheard := State.engineLamp_fault hout (by rw [own, hhouse]; exact h)
  have hengaged : u.engaged i = true := by
    simp only [State.engaged, own, hhouse, Bool.or_eq_true, beq_iff_eq]
    exact .inl h
  rw [hheard, own]
  exact faulted_of_enterFault .lamp rfl (by rw [hhouse]) (by rw [hhouse]) (touched.clock (by simp)) howns counter
    (.inl hengaged) (fun j hj => hother j fun heq => hj (by rw [heq])) fun k _ => hhouse k

/-- An entry to LOCKOUT behind a change of the station: the warning, the lamp's records as they then stand, and what the
engine makes of it (R105, R61). -/
theorem lockout_heard {s u : State} {i : StationId} (touched : Touches [.station i] s u)
    (own : (u.station i).house = (s.station i).house) (counter : (u.station i).counter = (s.station i).counter)
    (lit : (u.station i).lamp.state ≠ .lockout) :
    SameArc i (u.setLamp i .lockout) ((u.setLamp i .lockout).engineLamp i) ∧
      ((u.setLamp i .lockout).engineLamp i).line = s.line.warned (.lockout i) ∧
      ((s.house (s.station i).house).startStation ≠ some i → (s.house (s.station i).house).onScreen ≠ some i →
        (u.setLamp i .lockout).engineLamp i = u.setLamp i .lockout) ∧
      ((s.house (s.station i).house).startStation = some i ∨ (s.house (s.station i).house).onScreen = some i →
        Faulted s ((u.setLamp i .lockout).engineLamp i).settle (s.station i).house .lamp i) := by
  have hline : (u.setLamp i .lockout).line = s.line.warned (.lockout i) := by
    rw [State.setLamp_line, if_pos ⟨rfl, lit⟩, touched.line (by simp)]
  have hout : ((u.setLamp i .lockout).station i).lamp.state.out = true := by
    rw [State.station_setLamp_same]
    rfl
  obtain ⟨hidle, hfault⟩ := engineLamp_heard (u := u.setLamp i .lockout)
    ((touched.mono (by simp)).trans (u.setLamp_touches_lockout i .lockout none))
    (by rw [State.station_setLamp_same]; exact own) (by rw [State.station_setLamp_same]; exact counter) hout
  exact ⟨State.engineLamp_arc hout, (State.engineLamp_line hout (by rw [hline]; rfl) (by rw [hline]; rfl)).trans hline,
    hidle, hfault⟩

end Sys2Proof.Machine

/-!
The regulation sample in ESTABLISH and in BURN (R82 to R94, R113 to R117), the jog (R100, R101) and the bucket close
(R129 to R133).
-/

namespace Sys2Proof.Machine

/-! ### What a sample measures -/

/-- The last sample's voltage and current, its steps, and the carbon left. -/
def Station.measured (st : Station) : Option Nat × Option Nat × Nat × Nat :=
  (st.channel.vc, st.channel.ic, st.channel.steps, st.carbon.rp)

theorem State.setLamp_measured (s : State) (i j : StationId) (new : LampState) (cls : Option StrikeClass) :
    ((s.setLamp i new cls).station j).measured = (s.station j).measured := by
  rw [State.station_setLamp]
  split
  · rename_i hj
    rw [hj]
    unfold Station.measured Carbon.enter
    split
    · rfl
    · split <;> rfl
  · rfl

theorem State.testGrant_measured (s : State) (j : StationId) : (s.testGrant.station j).measured = (s.station j).measured := by
  obtain h | ⟨k, -, -, -, -, h⟩ := s.testGrant_cases <;> rw [h]
  exact s.setLamp_measured k j .striking none

theorem State.modStation_measured (s : State) (i j : StationId) {f : Station → Station}
    (hf : ∀ st, (f st).measured = st.measured) : ((s.modStation i f).station j).measured = (s.station j).measured := by
  rw [State.station_modStation]
  split
  · rename_i hj
    rw [hf, hj]
  · rfl

theorem State.extinguish_measured (s : State) (i j : StationId) :
    ((s.extinguish i).station j).measured = (s.station j).measured := by
  rw [State.extinguish_eq]
  split
  · rfl
  · exact s.setLamp_measured i j .cold none

/-- No change of the shared operations or the house engine alters a sample taken or the carbon left. -/
theorem Edit.measured {s t : State} (h : Edit s t) (j : StationId) : (t.station j).measured = (s.station j).measured := by
  have stops : ∀ st : Station, st.stopMotor.measured = st.measured := fun st => by
    unfold Station.stopMotor
    split <;> rfl
  have starts : ∀ st : Station, st.startMotor.measured = st.measured := fun st => by
    unfold Station.startMotor
    split <;> rfl
  cases h with
  | stop i => exact s.modStation_measured i j stops
  | start i => exact s.modStation_measured i j starts
  | shutter i d c => exact s.modStation_measured i j fun _ => rfl
  | mark i m => exact s.modStation_measured i j fun _ => rfl
  | trip i cause => exact (State.extinguish_measured _ i j).trans (s.modStation_measured i j fun st => by
      unfold Station.stopMotor
      split <;> rfl)
  | extinguish i => exact s.extinguish_measured i j
  | strike i =>
    exact (State.testGrant_measured _ j).trans ((State.setLamp_measured _ i j _ _).trans
      (s.modStation_measured i j fun _ => rfl))
  | reelOff h i f => exact (s.modQueue _ _).modStation_measured i j (f := fun st => { st with counterMode := .hold }) fun _ => rfl
  | runOutLeaves i e => exact (s.modQueue _ _).modStation_measured i j (f := fun st => { st with counterMode := .hold }) fun _ => rfl
  | _ => rfl

theorem Edits.measured {s t : State} (h : Edits s t) (j : StationId) :
    (t.station j).measured = (s.station j).measured :=
  h.keeps (P := fun u => (u.station j).measured = (s.station j).measured)
    (fun _ _ he hu => (he.measured j).trans hu) rfl

/-- The state with a sample of station i recorded (R82). -/
def State.sampled (s : State) (i : StationId) (v a : Nat) : State :=
  s.modChannel i fun c => { c with vc := some v, ic := some a, status := .live, steps := 0, fsPulses := 0 }

section
variable (s : State) (i : StationId) (v a : Nat)

theorem State.sampled_touches : Touches [.station i] s (s.sampled i v a) := s.modStation_touches i _

@[simp] theorem State.station_sampled : (s.sampled i v a).station i = { s.station i with channel :=
    { (s.station i).channel with vc := some v, ic := some a, status := .live, steps := 0, fsPulses := 0 } } :=
  s.station_modStation_same i _

@[simp] theorem State.sampled_arbiter : (s.sampled i v a).arbiter = s.arbiter := rfl
@[simp] theorem State.sampled_line : (s.sampled i v a).line = s.line := rfl

end

section
variable {s : State} {i : StationId} {t₀ : Trim} {p : Params} (htrim : (s.station i).trim = some t₀)
  (hparams : (s.station i).channel.params = some p) (htimer : (s.station i).channel.sampleTimer = true)
include htrim hparams htimer

theorem exec_sample_establish (volts amps : Conversions) (h : (s.station i).lamp.state = .establish) :
    exec (.regulationSample i volts amps) s =
      done ((s.sampled i (sampleValue volts) (sampleValue amps)).establishSample i t₀
        (sampleValue volts) (sampleValue amps)) := by
  have hexec : exec (.regulationSample i volts amps) s = execRegulationSample i volts amps s := rfl
  simp only [hexec, execRegulationSample, htrim, hparams, htimer, h, if_true]
  rfl

theorem exec_sample_burn (volts amps : Conversions) (h : (s.station i).lamp.state = .burn) :
    exec (.regulationSample i volts amps) s =
      done ((s.sampled i (sampleValue volts) (sampleValue amps)).burnSample i t₀ p
        (sampleValue volts) (sampleValue amps)) := by
  have hexec : exec (.regulationSample i volts amps) s = execRegulationSample i volts amps s := rfl
  simp only [hexec, execRegulationSample, htrim, hparams, htimer, h, if_true]
  rfl

end

/-! ### Samples in ESTABLISH -/

theorem inBand_iff (t : Trim) (v a : Nat) : inBand t v a = true ↔ t.imin ≤ a ∧ 40 ≤ v ∧ v < 180 := by
  have h : inBand t v a = true ↔ t.imin ≤ a ∧ vShort ≤ v ∧ v < vOpen := by simp [inBand, and_assoc]
  exact h

/-- The state with one more failed attempt of a lamp counted (R113). -/
def State.attemptFailed (s : State) (i : StationId) : State := s.modLamp i fun l => { l with retry := l.retry + 1 }

theorem State.establishSample_measured (s : State) (i : StationId) (t : Trim) (v a : Nat) :
    ((s.establishSample i t v a).station i).measured = (s.station i).measured := by
  have hlamp : ∀ (f : Lamp → Lamp), ((s.modLamp i f).station i).measured = (s.station i).measured := fun f =>
    s.modStation_measured i i fun _ => rfl
  have htold : ∀ u : State, ((u.engineLamp i).station i).measured = (u.station i).measured := fun u =>
    (u.engineLamp_edits i).measured i
  unfold State.establishSample
  dsimp only
  split
  · split
    · exact hlamp _
    · exact (htold _).trans (s.setLamp_measured i i _ _)
  · split
    · exact (State.testGrant_measured _ i).trans ((State.setLamp_measured _ i i _ _).trans (hlamp _))
    · exact (htold _).trans ((State.setLamp_measured _ i i _ _).trans (hlamp _))

section
variable {s : State} {i : StationId} {t₀ : Trim} {v a : Nat} (hestablish : (s.station i).lamp.state = .establish)

theorem State.establishSample_counts (hband : inBand t₀ v a = true) (hfew : (s.station i).lamp.establish < 14) :
    s.establishSample i t₀ v a = s.modLamp i fun l => { l with establish := l.establish + 1 } := by
  have hfew' : (s.station i).lamp.establish + 1 < 15 := by omega
  simp only [State.establishSample, hband, hfew', if_true]

theorem State.establishSample_burns (hband : inBand t₀ v a = true) (hlast : 14 ≤ (s.station i).lamp.establish) :
    s.establishSample i t₀ v a = (s.setLamp i .burn).engineLamp i := by
  have hlast' : ¬ (s.station i).lamp.establish + 1 < 15 := by omega
  simp only [State.establishSample, hband, hlast', if_true, if_false]

theorem State.establishSample_fails (hband : ¬ inBand t₀ v a = true) (hfew : (s.station i).lamp.retry < 2) :
    s.establishSample i t₀ v a =
      ((s.attemptFailed i).setLamp i .queued (s.station i).lamp.granted).testGrant := by
  have hfew' : (s.station i).lamp.retry + 1 < 3 := by omega
  simp only [State.establishSample, hband, hfew', if_true]
  rfl

theorem State.establishSample_locksOut (hband : ¬ inBand t₀ v a = true) (hlast : 2 ≤ (s.station i).lamp.retry) :
    s.establishSample i t₀ v a = ((s.attemptFailed i).setLamp i .lockout).engineLamp i := by
  have hlast' : ¬ (s.station i).lamp.retry + 1 < 3 := by omega
  simp only [State.establishSample, hband, hlast', if_false]
  rfl

/-- A lamp that enters BURN from ESTABLISH (R115, R128). -/
theorem State.station_burning (hestablish : (s.station i).lamp.state = .establish) :
    (s.setLamp i .burn).station i = { s.station i with
      lamp := { (s.station i).lamp with
        state := .burn, cls := none, granted := none, retry := 0, establish := 0, pulseTimer := false }
      channel := { (s.station i).channel with status := .live, loss := 0, short := 0, credit := 0 }
      carbon := { (s.station i).carbon with window := [], openBucket := some 0, bucketTimer := true } } := by
  rw [State.station_setLamp_same, hestablish]
  simp [Lamp.enter, Channel.enter, Carbon.enter, LampState.sampled]

theorem Arbiter.lampMoved_released (a : Arbiter) (i : StationId) {new : LampState} (hnew : new.onSupply = false) :
    a.lampMoved i .establish new = { a with
      grant := none, supply := .recharge, recharge := true
      queue := if new = .queued then a.queue ++ [i] else a.queue } := by
  have hleaves : (LampState.establish.onSupply && !new.onSupply) = true := by
    rw [hnew]
    rfl
  have hwas : LampState.establish ≠ .queued := nofun
  simp only [Arbiter.lampMoved, hleaves, hwas, if_true, if_false]

end

section
variable {s : State} {i : StationId} {t₀ : Trim} {v a : Nat} (hestablish : (s.station i).lamp.state = .establish)
include hestablish

/-- The fifteenth sample in band (R115): the lamp is in BURN, whatever the engine makes of it, unless it starts a motor
already at speed or one with the film broken. -/
theorem State.burning_arc (hlast : (s.house (s.station i).house).startStation ≠ some i ∨
      (s.house (s.station i).house).step ≠ some .lampWait ∨ (s.station i).fb = .closed ∧ (s.station i).motor ≠ .atSpeed) :
    SameArc i (s.setLamp i .burn) ((s.setLamp i .burn).engineLamp i) := by
  have hstation := State.station_burning hestablish
  have hhouse : ∀ k, (s.setLamp i .burn).house k = s.house k := State.house_of_houses (s.setLamp_houses i _ _)
  unfold State.engineLamp
  rw [hstation]
  simp only [hhouse]
  split
  · rename_i hwait
    simp only [Bool.and_eq_true, decide_eq_true_eq] at hwait
    obtain ⟨hfb, hm⟩ := (hlast.resolve_left fun hn => hn hwait.1).resolve_left fun hn => hn hwait.2
    exact State.runUpStep_arc _ (by rw [hstation]; exact hfb) (by rw [hstation]; exact hm)
  · exact .refl i _

theorem State.burning_idle (h : (s.house (s.station i).house).startStation ≠ some i ∨
      (s.house (s.station i).house).step ≠ some .lampWait) :
    (s.setLamp i .burn).engineLamp i = s.setLamp i .burn := by
  have hhouse : ∀ k, (s.setLamp i .burn).house k = s.house k := State.house_of_houses (s.setLamp_houses i _ _)
  unfold State.engineLamp
  rw [State.station_burning hestablish]
  simp only [hhouse, Bool.and_eq_true, decide_eq_true_eq]
  exact if_neg fun hc => h.elim (fun hn => hn hc.1) fun hn => hn hc.2

theorem State.burning_starts (hstart : (s.house (s.station i).house).startStation = some i)
    (hwait : (s.house (s.station i).house).step = some .lampWait) :
    (s.setLamp i .burn).engineLamp i = (s.setLamp i .burn).runUpStep (s.station i).house i := by
  have hhouse : ∀ k, (s.setLamp i .burn).house k = s.house k := State.house_of_houses (s.setLamp_houses i _ _)
  unfold State.engineLamp
  rw [State.station_burning hestablish]
  simp [hhouse, hstart, hwait]

end

/-- Settles O43: the lamp's own step by the band and the counts, then what the house engine makes of BURN and LOCKOUT. -/
theorem establishSamples : Obligations.EstablishSamples := by
  rintro s i volts amps t₀ p hs htrim hparams rfl hestablish htimer v a rfl rfl
  have hexec := exec_sample_establish htrim hparams htimer volts amps hestablish
  have hv : sampleValue volts = (min volts.c1 255 + min volts.c2 255 + min volts.c3 255 + min volts.c4 255) / 4 := rfl
  have ha : sampleValue amps = (min amps.c1 255 + min amps.c2 255 + min amps.c3 255 + min amps.c4 255) / 4 := rfl
  rw [hv, ha] at hexec
  generalize (min volts.c1 255 + min volts.c2 255 + min volts.c3 255 + min volts.c4 255) / 4 = v at hexec ⊢
  generalize (min amps.c1 255 + min amps.c2 255 + min amps.c3 255 + min amps.c4 255) / 4 = a at hexec ⊢
  have htouch := s.sampled_touches i v a
  have hsampled := s.station_sampled i v a
  have hmeasured := (s.sampled i v a).establishSample_measured i t₀ v a
  rw [hsampled] at hmeasured
  simp only [Station.measured, Prod.mk.injEq] at hmeasured
  obtain ⟨hvolts, hamps, -, hcarbon⟩ := hmeasured
  have hstate : ((s.sampled i v a).station i).lamp.state = .establish := by rw [hsampled]; exact hestablish
  have hhouse : (s.sampled i v a).house ((s.sampled i v a).station i).house = s.house (s.station i).house := by
    rw [hsampled]
    rfl
  refine ⟨_, hexec, hvolts, hamps, hcarbon, fun hband => ?_, fun hout => ?_⟩
  · have hin := (inBand_iff t₀ v a).2 hband
    refine ⟨fun hfew => ?_, fun hlast hstart => ?_⟩
    · rw [State.establishSample_counts hin (by rw [hsampled]; exact hfew)]
      refine ⟨(htouch.trans (State.modStation_touches _ i _)).settle, ?_⟩
      rw [State.settle_station, State.modLamp, State.station_modStation_same, hsampled]
      exact ⟨rfl, rfl⟩
    · rw [State.establishSample_burns hin (by rw [hsampled]; exact hlast)]
      have hlit := State.station_burning hstate
      have hburn := htouch.mono (more := [.station i, .arbiter]) (by simp) |>.trans
        (State.setLamp_touches (s.sampled i v a) i (new := .burn) none nofun)
      have harbiter := (s.sampled i v a).setLamp_arbiter i .burn none
      rw [hstate, Arbiter.lampMoved_released _ _ rfl] at harbiter
      rw [hsampled] at hlit
      obtain ⟨hlamp, hchannel, hcarbon', harbiter'⟩ := State.burning_arc hstate (by rw [hhouse, hsampled]; exact hstart)
      rw [State.settle_station, State.settle_arbiter, hlamp, hchannel, hcarbon', harbiter', hlit, harbiter]
      refine ⟨rfl, rfl, rfl, rfl, rfl, htimer, rfl, fun hidle => ?_, fun e hengine hwait hhead hbound hallowed htaken => ?_⟩
      · rw [State.burning_idle hstate (by rw [hhouse]; exact hidle), hlit]
        exact ⟨hburn.settle, rfl⟩
      · have hstation : (s.house (s.station i).house).startStation = some i := by
          simp [House.startStation, hengine, hhead, hbound]
        obtain ⟨hfb, hm⟩ := (hstart.resolve_left fun hn => hn hstation).resolve_left fun hn => hn hwait
        have hfire : ((s.sampled i v a).setLamp i .burn).fire = s.fire := hburn.fire (by simp)
        have hallowed' : StartAllowed ((s.sampled i v a).setLamp i .burn) i := by
          unfold StartAllowed
          rw [hlit, hfire]
          exact hallowed
        have hown : ((s.sampled i v a).station i).house = (s.station i).house := by rw [hsampled]
        have hsame : ((s.sampled i v a).setLamp i .burn).house (s.station i).house = s.house (s.station i).house :=
          hburn.house (by simp)
        rw [State.burning_starts hstate (by rw [hhouse]; exact hstation) (by rw [hhouse]; exact hwait), hown,
          State.runUpStep_runUp hallowed' (by rw [hlit]; exact hfb) (by rw [hlit]; exact hm), State.station_runningUp,
          State.settle_house, State.house_runningUp (by rw [hsame]; exact hhead) htaken, hsame, hlit]
        refine ⟨((hburn.mono ?_).trans ((State.runningUp_touches _ _ i).mono ?_)).settle, ?_, ?_, rfl⟩
        · simp
        · simp
        · cases hmotor : (s.station i).motor <;> simp_all [Station.started]
        · cases hmotor : (s.station i).motor <;> simp [Station.started, hmotor]
  · have hnot : ¬ inBand t₀ v a = true := by
      rw [inBand_iff]
      omega
    have hfailed : Touches [.station i] s ((s.sampled i v a).attemptFailed i) :=
      htouch.trans (State.modStation_touches (s.sampled i v a) i _)
    have hretry : ((s.sampled i v a).attemptFailed i).station i =
        { (s.sampled i v a).station i with lamp :=
          { (s.station i).lamp with retry := (s.station i).lamp.retry + 1 } } := by
      rw [State.attemptFailed, State.modLamp, State.station_modStation_same, hsampled]
    have hstate' : (((s.sampled i v a).attemptFailed i).station i).lamp.state = .establish := by
      rw [hretry]
      exact hestablish
    refine ⟨fun hfew => ?_, fun hlast => ?_⟩
    · rw [State.establishSample_fails hnot (by rw [hsampled]; exact hfew), hsampled]
      have harbiter := ((s.sampled i v a).attemptFailed i).setLamp_arbiter i .queued (s.station i).lamp.granted
      rw [hstate', Arbiter.lampMoved_released _ _ rfl] at harbiter
      rw [State.testGrant_waits (.inr (by rw [harbiter])), State.settle_arbiter, State.settle_station,
        State.station_setLamp_same, harbiter, hretry, hsampled]
      exact ⟨((hfailed.mono (by simp)).trans (State.setLamp_touches ((s.sampled i v a).attemptFailed i) i
        (new := .queued) _ nofun)).settle, rfl, rfl, rfl⟩
    · rw [State.establishSample_locksOut hnot (by rw [hsampled]; exact hlast)]
      obtain ⟨⟨hlamp, -, -, harbiter'⟩, hline, hidle, hfault⟩ := lockout_heard (i := i) hfailed
        (by rw [hretry, hsampled]) (by rw [hretry, hsampled]) (by rw [hstate']; nofun)
      have harbiter := ((s.sampled i v a).attemptFailed i).setLamp_arbiter i .lockout none
      rw [hstate', Arbiter.lampMoved_released _ _ rfl] at harbiter
      rw [State.settle_station, State.settle_arbiter, hlamp, harbiter', State.station_setLamp_same, harbiter, hretry]
      refine ⟨rfl, rfl, hline, fun hstart hscreen => ?_, hfault⟩
      rw [hidle hstart hscreen, State.station_setLamp_same, hretry, hsampled]
      exact ⟨((hfailed.mono (by simp)).trans (State.setLamp_touches_lockout _ i _ _)).settle, rfl⟩

end Sys2Proof.Machine

/-!
The regulation sample in BURN: the feed (R88 to R94, R126, R128), and the loss and the short of the arc (R84 to R86, R116,
R117).
-/

namespace Sys2Proof.Machine

/-! ### Steps offered to the carbon -/

/-- With the carbon for them all, n steps are issued (R126). -/
theorem offerSteps_all (t : Trim) {n rp : Nat} (h : t.stub + n * t.sp ≤ rp ∨ n = 0) :
    offerSteps t n rp = (n, rp - n * t.sp, false) := by
  induction n generalizing rp with
  | zero => simp [offerSteps]
  | succ n ih =>
    have henough : t.stub + (n + 1) * t.sp ≤ rp := h.resolve_right (Nat.succ_ne_zero n)
    rw [Nat.succ_mul] at henough ⊢
    have hstep : offerStep t rp = some (rp - t.sp) := if_pos (by omega)
    rw [offerSteps, hstep]
    dsimp only
    rw [ih (.inl (by omega)), Nat.sub_sub, Nat.add_comm t.sp]

/-- The step that would leave less than the stub is withheld, and those behind it are not offered (R93, R126). -/
theorem offerSteps_withheld (t : Trim) {n k rp : Nat} (hk : k < n) (h : k = 0 ∨ t.stub + k * t.sp ≤ rp)
    (hlow : rp < t.stub + (k + 1) * t.sp) : offerSteps t n rp = (k, rp - k * t.sp, true) := by
  induction n generalizing k rp with
  | zero => cases hk
  | succ n ih =>
    cases k with
    | zero =>
      have hstep : offerStep t rp = none := if_neg (by omega)
      simp [offerSteps, hstep]
    | succ k =>
      have henough : t.stub + (k + 1) * t.sp ≤ rp := h.resolve_left (Nat.succ_ne_zero k)
      rw [Nat.succ_mul] at henough hlow ⊢
      have hstep : offerStep t rp = some (rp - t.sp) := if_pos (by omega)
      rw [offerSteps, hstep]
      dsimp only
      rw [ih (Nat.lt_of_succ_lt_succ hk) (.inr (by omega)) (by omega), Nat.sub_sub, Nat.add_comm t.sp]

/-! ### The feed sample -/

theorem effectiveError_eq (e : Int) (dead : Nat) : effectiveError e dead =
    if e.natAbs ≤ dead then 0 else if (dead : Int) < e then e - dead else e + dead := by
  unfold effectiveError
  split
  · rfl
  · split <;> split <;> omega

theorem stepsDue_eq (p : Params) (c : Nat) : stepsDue p c = match p.mode with
    | .step => if p.thr ≤ c then 1 else 0
    | .burst => if 4 < c / p.thr then 4 else c / p.thr := by
  unfold stepsDue
  cases p.mode with
  | step => rfl
  | burst =>
    dsimp only
    split <;> omega

theorem creditKept_eq (p : Params) (c : Nat) : creditKept p c =
    if p.thr - 1 < c - stepsDue p c * p.thr then p.thr - 1 else c - stepsDue p c * p.thr := by
  unfold creditKept
  split <;> omega

theorem countSteps_eq (b : Option Nat) (k : Nat) : countSteps b k =
    b.map fun n => if n + k ≤ 255 then n + k else 255 := by
  unfold countSteps
  refine congrArg (b.map ·) (funext fun n => ?_)
  split <;> omega

/-- The state with the credit, the counts, the steps issued and the carbon left recorded (R88 to R92, R126, R128). -/
def State.fed (s : State) (i : StationId) (credit issued rp : Nat) : State :=
  s.modStation i fun st => { st with
    channel := { st.channel with loss := 0, short := 0, credit := credit, steps := issued }
    carbon := { st.carbon with rp := rp, openBucket := countSteps st.carbon.openBucket issued } }

/-- The pulses of the steps issued are given (R94). -/
def State.pulsesGiven (s : State) (i : StationId) (n : Nat) : State := s.modChannel i fun c => { c with fsPulses := n }

theorem State.fed_touches (s : State) (i : StationId) (credit issued rp : Nat) :
    Touches [.station i] s (s.fed i credit issued rp) := s.modStation_touches i _

theorem State.pulsesGiven_touches (s : State) (i : StationId) (n : Nat) : Touches [.station i] s (s.pulsesGiven i n) :=
  s.modStation_touches i _

@[simp] theorem State.station_fed (s : State) (i : StationId) (credit issued rp : Nat) :
    (s.fed i credit issued rp).station i = { s.station i with
      channel := { (s.station i).channel with loss := 0, short := 0, credit := credit, steps := issued }
      carbon := { (s.station i).carbon with rp := rp, openBucket := countSteps (s.station i).carbon.openBucket issued } } :=
  s.station_modStation_same i _

section
variable {s : State} {i : StationId} {t : Trim} {p : Params} {v a : Nat}

theorem State.feedSample_paid {n rp : Nat}
    (h : offerSteps t (stepsDue p (creditAdded p (s.station i).channel.credit v)) (s.station i).carbon.rp = (n, rp, false)) :
    s.feedSample i t p v =
      (s.fed i (creditKept p (creditAdded p (s.station i).channel.credit v)) n rp).pulsesGiven i n := by
  simp only [State.feedSample, h]
  rfl

theorem State.feedSample_withheld {n rp : Nat}
    (h : offerSteps t (stepsDue p (creditAdded p (s.station i).channel.credit v)) (s.station i).carbon.rp = (n, rp, true)) :
    s.feedSample i t p v =
      (((s.fed i (creditKept p (creditAdded p (s.station i).channel.credit v)) n rp).setLamp i .stub).pulsesGiven i
        n).engineLamp i := by
  simp only [State.feedSample, h]
  rfl

/-- A sample in band in BURN is a feed sample (R84, R85, R88). -/
theorem State.burnSample_feeds (hcurrent : t.imin ≤ a) (hlow : 40 ≤ v) (hhigh : v < 180) :
    s.burnSample i t p v a = s.feedSample i t p v := by
  have hloss : lossSample t v a = false := by
    have hopen : ¬ vOpen ≤ v := Nat.not_le.2 hhigh
    simp [lossSample, hcurrent, hopen]
  have hshort : shortSample v = false := by
    have hshort : ¬ v < vShort := Nat.not_lt.2 hlow
    simp [shortSample, hshort]
  simp [State.burnSample, hloss, hshort]

end

/-- A lamp in BURN that enters STUB (R93, R120), its pulses then given (R94). -/
theorem State.station_stubbed {u : State} {i : StationId} (n : Nat) (h : (u.station i).lamp.state = .burn) :
    ((u.setLamp i .stub).pulsesGiven i n).station i = { u.station i with
      lamp := { (u.station i).lamp with
        state := .stub, cls := none, granted := none, establish := 0, pulseTimer := false }
      channel := { (u.station i).channel with
        sampleTimer := false, status := .held, loss := 0, short := 0, credit := 0, fsPulses := n }
      carbon := { (u.station i).carbon with window := [], openBucket := none, bucketTimer := false } } := by
  rw [State.pulsesGiven, State.modChannel, State.station_modStation_same, State.station_setLamp_same, h]
  simp [Lamp.enter, Channel.enter, Carbon.enter, LampState.sampled]

/-- Settles O44: the steps the credit pays for are issued one by one; the first one withheld takes the lamp to STUB. -/
theorem feedSampleFeedsTheArc : Obligations.FeedSampleFeedsTheArc := by
  rintro s i volts amps t₀ p htrim hparams hburn htimer v a hv ha hcurrent hlow hhigh e rfl eff heff c hc hthr n hn
  have hexec := exec_sample_burn htrim hparams htimer volts amps hburn
  rw [show sampleValue volts = v from hv.symm, show sampleValue amps = a from ha.symm,
    State.burnSample_feeds hcurrent hlow hhigh] at hexec
  have hsampled := s.station_sampled i v a
  have hcredit : creditAdded p ((s.sampled i v a).station i).channel.credit v = c := by
    rw [hsampled, hc, creditAdded, effectiveError_eq, ← heff]
    dsimp only
    split <;> omega
  have hdue : stepsDue p c = n := by rw [hn, stepsDue_eq] <;> rfl
  have hkept := creditKept_eq p c
  rw [hdue] at hkept
  have hrp : ((s.sampled i v a).station i).carbon.rp = (s.station i).carbon.rp := by rw [hsampled]
  refine ⟨_, hexec, fun henough => ?_, fun k hk hissued hleft hs heq => ?_⟩
  · rw [State.feedSample_paid (by rw [hcredit, hdue, hrp]; exact offerSteps_all t₀ henough), hcredit]
    refine ⟨(((s.sampled_touches i v a).trans (State.fed_touches _ i _ _ _)).trans
      (State.pulsesGiven_touches _ i _)).settle, ?_⟩
    rw [State.settle_station, State.pulsesGiven, State.modChannel, State.station_modStation_same, State.station_fed,
      hsampled, countSteps_eq, hkept]
  · subst heq
    rw [State.feedSample_withheld (by rw [hcredit, hdue, hrp]; exact offerSteps_withheld t₀ hk hissued hleft), hcredit]
    have hfed := (s.sampled i v a).station_fed i (creditKept p c) k ((s.station i).carbon.rp - k * t₀.sp)
    have htouch := (s.sampled_touches i v a).trans
      ((s.sampled i v a).fed_touches i (creditKept p c) k ((s.station i).carbon.rp - k * t₀.sp))
    rw [hsampled] at hfed
    generalize (s.sampled i v a).fed i (creditKept p c) k ((s.station i).carbon.rp - k * t₀.sp) = u at hfed htouch ⊢
    have hlit : (u.station i).lamp.state = .burn := by rw [hfed]; exact hburn
    have hstub := State.station_stubbed k hlit
    have hgone : Touches [.station i] s ((u.setLamp i .stub).pulsesGiven i k) :=
      (htouch.trans (State.setLamp_touches_station (new := .stub) none nofun
        (by rw [hlit]; rfl))).trans (State.pulsesGiven_touches _ i k)
    generalize (u.setLamp i .stub).pulsesGiven i k = w at hstub hgone ⊢
    rw [hfed] at hstub
    have hout : (w.station i).lamp.state.out = true := by rw [hstub]; rfl
    obtain ⟨hlamp, hchannel, hcarbon, -⟩ := State.engineLamp_arc hout
    obtain ⟨hidle, hfault⟩ := engineLamp_heard (hgone.mono (by simp)) (by rw [hstub]) (by rw [hstub]) hout
    rw [State.settle_station, hlamp, hchannel, hcarbon, hstub]
    refine ⟨rfl, rfl, rfl, fun hstart hscreen => ?_, hfault⟩
    rw [hidle hstart hscreen, hstub]
    exact ⟨hgone.settle, rfl, rfl⟩

/-! ### Loss and short -/

section
variable {s : State} {i : StationId} {t : Trim} {p : Params} {v a : Nat}

/-- A sample out of band in BURN: its counts, and what they come to (R84 to R86). -/
theorem State.burnSample_out (h : a < t.imin ∨ 180 ≤ v ∨ v < 40) {l k : Nat}
    (hl : l = if a < t.imin ∨ 180 ≤ v then (s.station i).channel.loss + 1 else 0)
    (hk : k = if v < 40 then (s.station i).channel.short + 1 else 0) : s.burnSample i t p v a =
      if 3 ≤ k then ((s.noFeed i l k).setLamp i .lockout).engineLamp i
      else if 2 ≤ l then (s.noFeed i l k).arcLost i
      else s.noFeed i l k := by
  have hloss : lossSample t v a = decide (a < t.imin ∨ 180 ≤ v) := by
    rw [Bool.decide_or]
    rfl
  have hshort : shortSample v = decide (v < 40) := rfl
  have hout : ¬ (!lossSample t v a && !shortSample v) = true := by
    simp only [hloss, hshort, Bool.and_eq_true, Bool.not_eq_true', decide_eq_false_iff_not]
    omega
  unfold State.burnSample
  dsimp only
  rw [if_neg hout]
  simp only [hloss, hshort, decide_eq_true_eq, ← hl, ← hk]

/-- A restrike is allowed: switched ON, not used up, and with the reserve (R116). -/
def State.mayRestrike (s : State) (i : StationId) : Prop :=
  (s.house (s.station i).house).settings.restrike = true ∧ (s.station i).lamp.restrike < 2 ∧
    (s.station i).reserveHolds = true

/-- The state with one more restrike of a lamp counted (R116). -/
def State.restruck (s : State) (i : StationId) : State := s.modLamp i fun l => { l with restrike := l.restrike + 1 }

theorem State.arcLost_restrikes (h : s.mayRestrike i) : s.arcLost i =
    ((s.restruck i).setLamp i .queued (some (if s.isOnScreen i then .urgent else .normal))).testGrant := by
  obtain ⟨hon, hfew, hreserve⟩ := h
  simp only [State.arcLost, hon, hfew, hreserve, decide_true, Bool.and_self, if_true]
  rfl

theorem State.arcLost_locksOut (h : ¬ s.mayRestrike i) : s.arcLost i = (s.setLamp i .lockout).engineLamp i := by
  have hno : ¬ ((s.house (s.station i).house).settings.restrike && (s.station i).lamp.restrike < 2 &&
      (s.station i).reserveHolds) = true := by
    simpa only [State.mayRestrike, Bool.and_eq_true, decide_eq_true_eq, and_assoc] using h
  simp only [State.arcLost, if_neg hno]

theorem State.lockout_measured : (((s.setLamp i .lockout).engineLamp i).station i).measured = (s.station i).measured :=
  ((State.engineLamp_edits _ i).measured i).trans (s.setLamp_measured i i .lockout none)

theorem State.arcLost_measured : ((s.arcLost i).station i).measured = (s.station i).measured := by
  by_cases h : s.mayRestrike i
  · rw [State.arcLost_restrikes h]
    exact (State.testGrant_measured _ i).trans ((State.setLamp_measured _ i i _ _).trans
      (s.modStation_measured i i fun _ => rfl))
  · rw [State.arcLost_locksOut h]
    exact State.lockout_measured

@[simp] theorem State.station_noFeed (s : State) (i : StationId) (l k : Nat) : (s.noFeed i l k).station i =
    { s.station i with channel := { (s.station i).channel with loss := l, short := k, steps := 0, fsPulses := 0 } } :=
  s.station_modStation_same i _

theorem State.noFeed_touches (s : State) (i : StationId) (l k : Nat) : Touches [.station i] s (s.noFeed i l k) :=
  s.modStation_touches i _

end

/-- A lamp in BURN that goes back into the queue for a restrike, while the supply is not to be had (R116). -/
theorem State.restrike_waits {u : State} {i : StationId} (cls : StrikeClass)
    (hburn : (u.station i).lamp.state = .burn) (hwait : u.arbiter.supply ≠ .free ∨ u.arbiter.recharge = true) :
    ∃ w, ((u.restruck i).setLamp i .queued (some cls)).testGrant = w ∧ Touches [.station i, .arbiter] u w ∧
      w.arbiter = { u.arbiter with queue := u.arbiter.queue ++ [i] } ∧
      w.station i = { u.station i with
        lamp := { (u.station i).lamp with
          state := .queued, granted := none, establish := 0, pulseTimer := false, cls := some cls
          restrike := (u.station i).lamp.restrike + 1 }
        channel := { (u.station i).channel with
          sampleTimer := false, status := .held, loss := 0, short := 0, credit := 0, fsPulses := 0 }
        carbon := { (u.station i).carbon with window := [], openBucket := none, bucketTimer := false } } := by
  have hcounted : (u.restruck i).station i = { u.station i with
      lamp := { (u.station i).lamp with restrike := (u.station i).lamp.restrike + 1 } } :=
    u.station_modStation_same i _
  have harbiter : ((u.restruck i).setLamp i .queued (some cls)).arbiter =
      { u.arbiter with queue := u.arbiter.queue ++ [i] } := by
    rw [State.setLamp_arbiter, hcounted, hburn]
    rfl
  refine ⟨_, State.testGrant_waits (by rw [harbiter]; exact hwait), ?_, harbiter, ?_⟩
  · exact ((u.modStation_touches i _).mono (by simp)).trans
      (State.setLamp_touches (u.restruck i) i (new := .queued) _ nofun)
  · rw [State.station_setLamp_same, hcounted, hburn]
    simp [Lamp.enter, Channel.enter, Carbon.enter, LampState.sampled]

/-- Settles O45: the counts come first; the third short locks out, the second loss restrikes or locks out. -/
theorem lossAndShortSamples : Obligations.LossAndShortSamples := by
  rintro s i v a t₀ p hs htrim hparams rfl hburn htimer hv ha hout l k hl hk hwait
  have hexec := exec_sample_burn htrim hparams htimer ⟨v, v, v, v⟩ ⟨a, a, a, a⟩ hburn
  have hvolts : sampleValue ⟨v, v, v, v⟩ = v := by simp only [sampleValue, convert]; omega
  have hamps : sampleValue ⟨a, a, a, a⟩ = a := by simp only [sampleValue, convert]; omega
  have hsampled := s.station_sampled i v a
  rw [hvolts, hamps, State.burnSample_out hout (l := l) (k := k) (by rw [hsampled, hl]) (by rw [hsampled, hk])] at hexec
  have hcounted := (s.sampled i v a).station_noFeed i l k
  have htouch := (s.sampled_touches i v a).trans ((s.sampled i v a).noFeed_touches i l k)
  rw [hsampled] at hcounted
  generalize (s.sampled i v a).noFeed i l k = u at hcounted htouch hexec
  have hhouse : u.house (u.station i).house = s.house (s.station i).house := by
    rw [hcounted]
    exact htouch.house (by simp)
  have harbiter : u.arbiter = s.arbiter := htouch.arbiter (by simp)
  have hlit : (u.station i).lamp.state = .burn := by rw [hcounted]; exact hburn
  have hmeasured : (u.station i).measured = (some v, some a, 0, (s.station i).carbon.rp) := by rw [hcounted]; rfl
  have hmay : u.mayRestrike i ↔ (s.house (s.station i).house).settings.restrike = true ∧
      (s.station i).lamp.restrike < 2 ∧ t₀.stub + 20 * t₀.sp ≤ (s.station i).carbon.rp := by
    rw [State.mayRestrike, hhouse, hcounted]
    simp [Station.reserveHolds, htrim]
  by_cases hlock : 3 ≤ k ∨ 2 ≤ l ∧ ¬ u.mayRestrike i
  · have hnext : exec (.regulationSample i ⟨v, v, v, v⟩ ⟨a, a, a, a⟩) s = done ((u.setLamp i .lockout).engineLamp i) := by
      rw [hexec]
      rcases hlock with hlock | ⟨hlost, hno⟩
      · rw [if_pos hlock]
      · rw [if_pos hlost, State.arcLost_locksOut hno, ite_self]
    obtain ⟨⟨hlamp, -, -, harc⟩, hline, hidle, hfault⟩ := lockout_heard (i := i) htouch (by rw [hcounted])
      (by rw [hcounted]) (by rw [hlit]; nofun)
    have hkept := State.lockout_measured (s := u) (i := i)
    rw [hmeasured] at hkept
    simp only [Station.measured, Prod.mk.injEq] at hkept
    obtain ⟨-, -, hsteps, hrp⟩ := hkept
    refine ⟨_, hnext, hrp, hsteps, fun hl2 hk3 => absurd hlock (by omega), fun hk3 hl2 hon hfew hreserve => ?_,
      fun _ => ?_⟩
    · exact absurd hlock (by rw [hmay]; rintro (h | ⟨-, h⟩) <;> [omega; exact h ⟨hon, hfew, hreserve⟩])
    rw [State.settle_station, State.settle_arbiter, hlamp, harc, State.station_setLamp_same, State.setLamp_arbiter, hlit]
    refine ⟨by rw [hcounted]; rfl, hline, harbiter, fun hstart hscreen => ?_, hfault⟩
    have harc' : (u.setLamp i .lockout).arbiter = u.arbiter := by
      rw [State.setLamp_arbiter, hlit]
      rfl
    rw [hidle hstart hscreen, State.station_setLamp_same, hcounted]
    exact ⟨((htouch.mono (by simp)).trans
      (((u.setLamp_touches_lockout i .lockout none).without (p := .arbiter) harc').mono (by simp))).settle, rfl⟩
  have hk3 : ¬ 3 ≤ k := fun h => hlock (.inl h)
  rw [if_neg hk3] at hexec
  by_cases hlost : 2 ≤ l
  · have hyes : u.mayRestrike i := not_not.1 fun hno => hlock (.inr ⟨hlost, hno⟩)
    have hscreen : u.isOnScreen i = decide ((s.house (s.station i).house).onScreen = some i) := by
      rw [State.isOnScreen, hhouse]
      exact Bool.eq_iff_iff.2 (by simp)
    obtain ⟨w, hw, htouched, harc, hstation⟩ := State.restrike_waits (i := i)
      (if u.isOnScreen i then .urgent else .normal) hlit (by rw [harbiter]; exact hwait)
    rw [if_pos hlost, State.arcLost_restrikes hyes, hw] at hexec
    obtain ⟨hon, hfew, hreserve⟩ := hmay.1 hyes
    refine ⟨_, hexec, ?_, ?_, fun h => absurd hlost (by omega), fun _ _ _ _ _ => ?_, fun h => ?_⟩
    · rw [State.settle_station, hstation, hcounted]
    · rw [State.settle_station, hstation, hcounted]
    · rw [State.settle_station, State.settle_arbiter, hstation, harc, harbiter, hscreen, hcounted]
      refine ⟨((htouch.mono (by simp)).trans htouched).settle, rfl, ?_, rfl, rfl, rfl, rfl⟩
      simp only [decide_eq_true_eq]
    · rcases h with h | ⟨-, -, h | h | h⟩
      · exact absurd h hk3
      · rw [hon] at h
        cases h
      · omega
      · omega
  · rw [if_neg hlost] at hexec
    refine ⟨_, hexec, ?_, ?_, fun _ _ => ⟨htouch.settle, hcounted⟩, fun _ h => absurd h hlost, fun h => ?_⟩
    · rw [State.settle_station, hcounted]
    · rw [State.settle_station, hcounted]
    · exact absurd h (by omega)

end Sys2Proof.Machine

/-!
The jog of the carbons (R100, R101) and the bucket close (R129 to R133).
-/

namespace Sys2Proof.Machine

/-! ### The jog -/

section
variable {s : State} {i : StationId} {t₀ : Trim} (htrim : (s.station i).trim = some t₀)
include htrim

theorem answerLf_taken {n v : Int} (hnormal : (s.station i).condition = .normal) (hjog : (s.station i).channel.jog = none)
    (htrip : (s.station i).trip = none) (hbooth : s.fire.booth = none) (hcold : (s.station i).lamp.state = .cold)
    (hv : v = clampInt 1 200 n) : answer (.lf i.number n) s =
      (s.modStation i fun st => { st with channel := { st.channel with jog := some v.toNat } },
        if v = n then .ok else .clamped ["COUNT".toList, decimalInt v]) := by
  subst hv
  have hp : (s.station i).present = true := by rw [Station.present, htrim]; rfl
  rw [← Reply.okMoved_clampField]
  simp [answer, answerLf, checked_eq, firstRefusal, State.tripped, State.modChannel, hnormal, hjog, htrip, hbooth, hp,
    hcold, clampField]

/-- A jog step with the carbon for it (R101, R126). -/
theorem exec_jogStep_issued {k : Nat} (hjog : (s.station i).channel.jog = some k)
    (henough : t₀.stub + t₀.sp ≤ (s.station i).carbon.rp) : exec (.jogStep i) s =
      done (s.modStation i fun st => { st with
        carbon := { st.carbon with rp := (s.station i).carbon.rp - t₀.sp }
        channel := { st.channel with jog := if k ≤ 1 then none else some (k - 1), fsPulses := 1 } }) := by
  have hexec : exec (.jogStep i) s = execJogStep i s := rfl
  have hstep : offerStep t₀ (s.station i).carbon.rp = some ((s.station i).carbon.rp - t₀.sp) := if_pos henough
  simp only [hexec, execJogStep, hjog, htrim, hstep]

/-- A withheld jog step: the jog ends, no pulse is given, and the lamp enters STUB (R101, R126). -/
theorem exec_jogStep_withheld {k : Nat} (hjog : (s.station i).channel.jog = some k)
    (hlow : (s.station i).carbon.rp < t₀.stub + t₀.sp) : exec (.jogStep i) s =
      done ((((s.endJog i).pulsesGiven i 0).setLamp i .stub).engineLamp i) := by
  have hexec : exec (.jogStep i) s = execJogStep i s := rfl
  have hstep : offerStep t₀ (s.station i).carbon.rp = none := if_neg (Nat.not_le.2 hlow)
  simp only [hexec, execJogStep, hjog, htrim, hstep]
  rfl

end

/-- Settles O46: LF sets the steps to give; each step is offered to the carbon, and the one withheld ends the jog. -/
theorem jogLineAndSteps : Obligations.JogLineAndSteps := by
  intro s i n t₀ htrim
  refine ⟨fun hfree hnormal hjog htrip hbooth hcold v hv => ?_, fun k hjog henough => ?_,
    fun k hjog hlow hcold hidle => ?_⟩
  · obtain ⟨t, hexec, hanswered, honly, hstation⟩ :=
      exec_of_modStation rfl hfree (answerLf_taken htrim hnormal hjog htrip hbooth hcold hv)
    exact ⟨t, hexec, hanswered, honly, hstation⟩
  · refine ⟨_, exec_jogStep_issued htrim hjog henough, (s.modStation_touches i _).settle, ?_⟩
    have hleft : (if k ≤ 1 then none else some (k - 1)) = if 2 ≤ k then some (k - 1) else none := by
      split <;> split <;> first | rfl | omega
    rw [State.settle_station, State.station_modStation_same, hleft]
  · have hended : ((s.endJog i).pulsesGiven i 0).station i = { s.station i with
        channel := { (s.station i).channel with jog := none, fsPulses := 0 } } := by
      rw [State.pulsesGiven, State.modChannel, State.station_modStation_same, State.endJog, State.modChannel,
        State.station_modStation_same]
    have htouch : Touches [.station i] s ((s.endJog i).pulsesGiven i 0) :=
      (s.modStation_touches i _).trans (State.pulsesGiven_touches _ i 0)
    have hexec := exec_jogStep_withheld htrim hjog hlow
    generalize (s.endJog i).pulsesGiven i 0 = u at hended htouch hexec
    have hout : (u.station i).lamp.state.out = true := by
      rw [hended]
      simp [hcold, LampState.out]
    have hstub := State.setLamp_touches_station (new := .stub) none nofun (Arbiter.lampMoved_out u.arbiter i hout rfl)
    have hstation := u.station_setLamp_same i .stub none
    rw [hended] at hstation
    obtain ⟨hstart, hscreen, -⟩ := State.not_engaged_iff.1 hidle
    obtain ⟨hunheard, -⟩ := engineLamp_heard (i := i) (u := u.setLamp i .stub) ((htouch.trans hstub).mono (by simp))
      (by rw [hstation]) (by rw [hstation]) (by rw [hstation]; rfl)
    rw [hunheard hstart hscreen] at hexec
    refine ⟨_, hexec, (htouch.trans hstub).settle, ?_⟩
    rw [State.settle_station, hstation]
    simp [Lamp.enter, Channel.enter, Carbon.enter, hcold]

/-! ### The bucket close -/

theorem closeBucket_eq {w : List Nat} (h : w.length ≤ 8) (n : Nat) : closeBucket w n =
    if w.length = 8 then w.tail ++ [n] else w ++ [n] := by
  unfold closeBucket
  dsimp only
  rw [List.length_append, List.length_singleton]
  split
  · rename_i hfull
    obtain ⟨b, rest, rfl⟩ : ∃ b rest, w = b :: rest := by
      cases w with
      | nil => cases hfull
      | cons b rest => exact ⟨b, rest, rfl⟩
    rw [hfull]
    rfl
  · rw [Nat.sub_eq_zero_of_le (by omega), List.drop_zero]

/-- The state with the open bucket closed into the window (R129). -/
def State.bucketClosed (s : State) (i : StationId) (n : Nat) : State :=
  s.modCarbon i fun c => { c with window := closeBucket c.window n, openBucket := some 0 }

theorem exec_bucketClose {s : State} {i : StationId} {n : Nat} (hopen : (s.station i).carbon.openBucket = some n)
    (htimer : (s.station i).carbon.bucketTimer = true) :
    exec (.bucketClose i) s = done ((s.bucketClosed i n).onScreenCheck i) := by
  have hexec : exec (.bucketClose i) s = execBucketClose i s := rfl
  simp only [hexec, execBucketClose, hopen, htimer, if_true]
  rfl

theorem State.station_bucketClosed {s : State} {i : StationId} {n : Nat}
    (hfew : (s.station i).carbon.window.length ≤ 8) : (s.bucketClosed i n).station i = { s.station i with
      carbon := { (s.station i).carbon with
        window := if (s.station i).carbon.window.length = 8 then (s.station i).carbon.window.tail ++ [n]
          else (s.station i).carbon.window ++ [n]
        openBucket := some 0 } } := by
  rw [State.bucketClosed, State.modCarbon, State.station_modStation_same, closeBucket_eq hfew]

/-- The seconds of the prediction of a present station's carbon (R131). -/
theorem Station.prediction_of_trim {st : Station} {t₀ : Trim} (htrim : st.trim = some t₀) :
    st.prediction.map (·.1) = some (
      if st.lamp.state = .burn ∧ 4 ≤ st.carbon.window.length then
        if st.carbon.window.sum = 0 then 65535
        else min ((st.carbon.rp - t₀.stub) / t₀.sp * (30 * st.carbon.window.length) / st.carbon.window.sum) 65535
      else min ((st.carbon.rp - t₀.stub) / t₀.sp * 60 / t₀.rate) 65535) := by
  simp only [Station.prediction, htrim, Option.map_some, stepsLeft, Bool.and_eq_true, decide_eq_true_eq]
  split <;> rfl

section
variable {s : State} {i : StationId}

theorem State.onScreenCheck_offScreen (h : (s.house (s.station i).house).onScreen ≠ some i) :
    s.onScreenCheck i = s := by
  simp only [State.onScreenCheck, h, if_false]

/-- The check of the lamp on screen (R133). -/
theorem State.onScreenCheck_onScreen {e : Entry} {burn : Nat}
    (h : (s.house (s.station i).house).onScreen = some i) (hplaying : (s.house (s.station i).house).playing = some e)
    (hburn : (s.station i).prediction.map (·.1) = some burn) : s.onScreenCheck i =
      if burn < (e.length - (s.station i).counter) / 24 + (s.house (s.station i).house).settings.margin ∧
          (s.station i).carbon.mark = .clear then
        (s.modCarbon i fun c => { c with mark := .given }).latch (.shortfall i)
      else s := by
  obtain ⟨⟨seconds, basis⟩, hprediction, hseconds⟩ := Option.map_eq_some_iff.1 hburn
  obtain rfl : seconds = burn := hseconds
  simp only [State.onScreenCheck, h, hplaying, hprediction, Bool.and_eq_true, decide_eq_true_eq, beq_iff_eq, if_true]
  rfl

end

/-- Settles O47: the window moves first; the check on screen then reads the carbon it leaves. -/
theorem bucketCloses : Obligations.BucketCloses := by
  rintro s i n hopen htimer hfew w rfl
  have hexec := exec_bucketClose hopen htimer
  have hclosed := State.station_bucketClosed (n := n) hfew
  have htouch : Touches [.station i] s (s.bucketClosed i n) := s.modStation_touches i _
  have hhouse : (s.bucketClosed i n).house ((s.bucketClosed i n).station i).house = s.house (s.station i).house := by
    rw [hclosed]
    rfl
  generalize s.bucketClosed i n = u at hexec hclosed htouch hhouse
  refine ⟨fun hoff => ?_, fun e t₀ hon hplaying htrim left hleft burn hburn => ?_⟩
  · rw [State.onScreenCheck_offScreen (by rw [hhouse]; exact hoff)] at hexec
    exact ⟨_, hexec, htouch.settle, hclosed⟩
  · have hpredicted : (u.station i).prediction.map (·.1) = some burn := by
      rw [Station.prediction_of_trim (t₀ := t₀) (by rw [hclosed]; exact htrim), hclosed, hburn, hleft]
    rw [State.onScreenCheck_onScreen (by rw [hhouse]; exact hon) (by rw [hhouse]; exact hplaying) hpredicted, hhouse,
      hclosed] at hexec
    refine ⟨_, hexec, fun hlow hclear => ?_, fun henough => ?_⟩
    · rw [if_pos ⟨hlow, hclear⟩]
      refine ⟨(((htouch.trans (State.modStation_touches u i _)).mono ?_).trans ((State.latch_touches _ _).mono ?_)).settle,
        ?_, ?_⟩
      · simp
      · simp
      · rw [State.settle_line, State.latch_line, State.modCarbon_line, htouch.line (by simp)]
      · rw [State.settle_station, State.latch_station, State.modCarbon, State.station_modStation_same, hclosed]
    · rw [if_neg]
      · exact ⟨htouch.settle, hclosed⟩
      · rintro ⟨hlow, hclear⟩
        rcases henough with henough | hgiven
        · exact absurd hlow (Nat.not_lt.2 henough)
        · exact absurd (hclear.symm.trans hgiven) nofun

end Sys2Proof.Machine

/-!
The lines HF, HA and HS of a house (R64, R68, R78), the lamp-wait timer and the ports (R46, R62, R160), and the show clock
and its alarms where no show starts (R71 to R74, R77).
-/

namespace Sys2Proof.Machine

/-! ### The fault record -/

section
variable {s : State} {h : HouseId}

theorem answerHf_none (hf : (s.house h).fault = none) : answer (.hf h.number) s = (s, .okNone) := by
  simp [answer, answerHf, hf]

theorem answerHf_some {r : FaultRecord} (hf : (s.house h).fault = some r) : answer (.hf h.number) s =
    (s.modHouse h fun hs => { hs with fault := some { r with read := true } }, .record r.words) := by
  simp [answer, answerHf, hf]

theorem answerHa_taken (he : (s.house h).engine = .fault) (hread : ∀ r, (s.house h).fault = some r → r.read = true) :
    answer (.ha h.number) s = (s.modHouse h House.acknowledged, .ok) := by
  have hchecks : firstRefusal [((s.house h).engine != .fault, ErrorCode.st),
      (match (s.house h).fault with
        | some r => !r.read
        | none => false, .lk)] = none := by
    rw [firstRefusal_eq_none]
    cases hf : (s.house h).fault with
    | none => simp [he]
    | some r => simp [he, hread r hf]
  have hcalled : answer (.ha h.number) s = answerHa h.number s := rfl
  rw [hcalled, answerHa, onHouse_number, checked_eq]
  exact congrArg (fun c => match c with
    | some c => (s, Reply.no c)
    | none => (s.modHouse h House.acknowledged, Reply.ok)) hchecks

theorem answerHa_st (he : (s.house h).engine ≠ .fault) : answer (.ha h.number) s = (s, .no .st) := by
  simp [answer, answerHa, checked_eq, firstRefusal, he]

theorem answerHa_lk {r : FaultRecord} (he : (s.house h).engine = .fault) (hf : (s.house h).fault = some r)
    (hunread : r.read = false) : answer (.ha h.number) s = (s, .no .lk) := by
  simp [answer, answerHa, checked_eq, firstRefusal, he, hf, hunread]

end

theorem House.acknowledged_eq (hs : House) : hs.acknowledged =
    if hs.queue = [] then { hs with fault := none, engine := .idle, hold := .none }
    else { hs with fault := none, engine := .hold, hold := .fault } := by
  unfold House.acknowledged
  cases hq : hs.queue with
  | nil => simp [House.toIdle, House.readyTest, House.headBound]
  | cons e q => simp

/-- Settles O34: HF reads the record; HA clears one that is read. -/
theorem faultRecordLines : Obligations.FaultRecordLines := by
  intro s h hfree
  refine ⟨fun hf => exec_of_unchanged rfl hfree (answerHf_none hf), fun r hf => ?_, fun he hread => ?_,
    fun he => exec_of_refused rfl hfree (answerHa_st he),
    fun r he hf hunread => exec_of_refused rfl hfree (answerHa_lk he hf hunread)⟩
  · exact exec_of_modHouse rfl hfree (answerHf_some hf)
  · obtain ⟨t, hexec, honly, hanswered, hhouse⟩ := exec_of_modHouse rfl hfree (answerHa_taken he hread)
    rw [House.acknowledged_eq] at hhouse
    exact ⟨t, hexec, hanswered, honly, fun hq => hhouse.trans (if_neg hq), fun hq => hhouse.trans (if_pos hq)⟩

/-! ### Alarms round the clock -/

theorem timeBefore_spec {start : Nat} (h : start < 86400) (lead : Nat) :
    timeBefore start lead < 86400 ∧ (timeBefore start lead + lead) % 86400 = start := by
  unfold timeBefore daySeconds
  omega

theorem preState_eq (start now : Nat) {pre : Nat} (h : pre < 86400) : preState start pre now =
    if (now + 86400 - pre) % 86400 < (start + 86400 - pre) % 86400 then .passed else .armed := by
  unfold preState timeAhead daySeconds
  rw [Nat.mod_eq_of_lt h]

/-! ### HS -/

/-- The house with one setting changed; a new lead works an armed alarm out afresh (R68, R78). -/
def House.setting (hs : House) (a : SettingArg) (now : Nat) : House :=
  { hs with
    settings := (hs.settings.change a).1
    alarm := match a with
      | .lead _ => hs.alarm.map fun x => x.changeLead (hs.settings.change a).1.lead now
      | _ => hs.alarm }

theorem answerHs_setting (s : State) (h : HouseId) (a : SettingArg) : answer (.hs h.number (some a)) s =
    (s.modHouse h fun hs => { hs with
      settings := ((s.house h).settings.change a).1
      alarm := match a with
        | .lead _ => hs.alarm.map fun x => x.changeLead ((s.house h).settings.change a).1.lead s.clock.time
        | _ => hs.alarm }, Reply.okMoved ((s.house h).settings.change a).2) := by
  have hcalled : answer (.hs h.number (some a)) s = answerHs h.number (some a) s := rfl
  rw [hcalled, answerHs, onHouse_number] <;> rfl

theorem exec_hs {s : State} {h : HouseId} (hfree : LineFree s) (a : SettingArg) :
    ∃ t, exec (.hs h.number (some a)) s = .next t ∧ ChangesOnly [.house h, .line] s t ∧
      Answered s t (Reply.okMoved ((s.house h).settings.change a).2) ∧
      t.house h = (s.house h).setting a s.clock.time := by
  obtain ⟨t, hexec, honly, hanswered, hhouse⟩ := exec_of_modHouse rfl hfree (answerHs_setting s h a)
  exact ⟨t, hexec, honly, hanswered, hhouse⟩

/-- A change of lead works out an alarm's pre-strike time and its state afresh; DONE stays DONE (R78). -/
theorem Alarm.changeLead_spec (a : Alarm) (lead : Nat) {now : Nat} (hstart : a.start < 86400) :
    (a.changeLead lead now).pre < 86400 ∧ ((a.changeLead lead now).pre + lead) % 86400 = a.start ∧
      (a.state = .done → (a.changeLead lead now).state = .done) ∧
      (a.state ≠ .done → (a.changeLead lead now).state =
        if (now + 86400 - (a.changeLead lead now).pre) % 86400 < (a.start + 86400 - (a.changeLead lead now).pre) % 86400
        then .passed else .armed) := by
  obtain ⟨hpre, hlead⟩ := timeBefore_spec hstart lead
  exact ⟨hpre, hlead, fun hd => if_pos hd, fun hd => (if_neg hd).trans (preState_eq a.start now hpre)⟩

/-- Settles O35: each word sets its own setting; only a new lead touches the alarm. -/
theorem houseSettingsLine : Obligations.HouseSettingsLine := by
  intro s h n b hfree
  refine ⟨?lead, ?margin, ?level, ?fade, ?restrike⟩
  case lead =>
    rintro v rfl
    obtain ⟨t, hexec, honly, hanswered, hhouse⟩ := exec_hs (h := h) hfree (.lead n)
    rw [← Reply.okMoved_clampField]
    have halarm : (t.house h).alarm =
        (s.house h).alarm.map fun x => x.changeLead (clampInt 10 300 n).toNat s.clock.time := by rw [hhouse]; rfl
    refine ⟨t, hexec, hanswered, honly, by rw [hhouse]; rfl, fun hnone => by rw [halarm, hnone]; rfl, fun a ha => ?_⟩
    exact ⟨a.changeLead (clampInt 10 300 n).toNat s.clock.time, by rw [halarm, ha]; rfl, rfl,
      fun hstart _ => Alarm.changeLead_spec a _ hstart⟩
  case margin =>
    rintro v rfl
    obtain ⟨t, hexec, honly, hanswered, hhouse⟩ := exec_hs (h := h) hfree (.margin n)
    rw [← Reply.okMoved_clampField]
    exact ⟨t, hexec, hanswered, honly, hhouse⟩
  case level =>
    rintro v rfl
    obtain ⟨t, hexec, honly, hanswered, hhouse⟩ := exec_hs (h := h) hfree (.level n)
    rw [← Reply.okMoved_clampField]
    exact ⟨t, hexec, hanswered, honly, hhouse⟩
  case fade =>
    rintro v rfl
    obtain ⟨t, hexec, honly, hanswered, hhouse⟩ := exec_hs (h := h) hfree (.fade n)
    rw [← Reply.okMoved_clampField]
    exact ⟨t, hexec, hanswered, honly, hhouse⟩
  case restrike =>
    obtain ⟨t, hexec, honly, hanswered, hhouse⟩ := exec_hs (h := h) hfree (.restrike b)
    exact ⟨t, hexec, hanswered, honly, hhouse⟩

/-! ### The lamp-wait timer and the ports -/

theorem EngineState.inShow_iff (g : EngineState) :
    g.inShow = true ↔ g ∈ [EngineState.starting, .playing, .preparing, .motorCued, .runDown] := by
  cases g <;> decide

/-- The record that entry to FAULT latches where none is held (R63). -/
theorem State.fault_enterFault {s : State} {h : HouseId} {cause : FaultCause} {i : Option StationId}
    (hnone : (s.house h).fault = none) :
    ((s.enterFault h cause i).house h).fault = some (s.faultRecord h cause i) := by
  rw [State.house_enterFault, if_pos rfl, hnone]
  rfl

/-- The end of the lamp-wait timer (R46). -/
theorem exec_lampWaitTimeout {s : State} {h : HouseId} {i : StationId} (hengine : (s.house h).engine = .starting)
    (hwait : (s.house h).lampWait = true) (hstart : (s.house h).startStation = some i) :
    exec (.lampWaitTimeout h) s = done ((s.extinguish i).enterFault h .lamp (some i)) := by
  have hexec : exec (.lampWaitTimeout h) s = execLampWaitTimeout h s := rfl
  simp only [hexec, execLampWaitTimeout, hengine, hwait, hstart, BEq.rfl, Bool.and_self, if_true]

section
variable {s : State} {h : HouseId}

/-- The state with the port of a house recorded (R160). -/
def State.portRecorded (s : State) (h : HouseId) (p : PortState) : State := s.modHouse h fun hs => { hs with port := p }

@[simp] theorem State.house_portRecorded (s : State) (h : HouseId) (p : PortState) :
    (s.portRecorded h p).house h = { s.house h with port := p } := s.house_modHouse_same h _

theorem exec_pdChange_quiet (hquiet : (s.house h).engine.inShow = false) :
    exec (.pdChange h .closed) s = done (s.portRecorded h .down) := by
  have hexec : exec (.pdChange h .closed) s = execPdChange h .closed s := rfl
  simp [hexec, execPdChange, hquiet, State.portRecorded]

theorem exec_pdChange_fault (hshow : (s.house h).engine.inShow = true) (hport : (s.house h).port = .up) :
    exec (.pdChange h .closed) s =
      done ((s.portRecorded h .down).enterFault h .port (s.house h).showStation) := by
  have hexec : exec (.pdChange h .closed) s = execPdChange h .closed s := rfl
  simp [hexec, execPdChange, hshow, hport, State.portRecorded]

end

/-- Settles O36: the timer and the ports each bring their house to FAULT, behind the lamp put out and the port recorded. -/
theorem lampWaitAndPortFaults : Obligations.LampWaitAndPortFaults := by
  intro s h
  refine ⟨fun i hengine hwait hstart hown => ?_, ?_, fun hquiet => ?_, fun hshow hport => ?_⟩
  · have hhouse : ∀ k, (s.extinguish i).house k = s.house k := State.house_of_houses (s.extinguish_houses i)
    obtain ⟨hlamp, -, -, harbiter⟩ := (s.extinguish i).enterFault_arc h .lamp (some i) i
    refine ⟨_, exec_lampWaitTimeout hengine hwait hstart, ?_, ?_, ?_, ?_, ?_, fun k hk => ?_, fun hnone => ?_⟩
    · rw [State.settle_house, State.house_enterFault, if_pos rfl]
    · rw [State.settle_house, State.house_enterFault, if_pos rfl]
    · rw [State.settle_station, hlamp, State.station_extinguish_same]
    · rw [State.settle_arbiter, harbiter, State.extinguish_arbiter]
    · rw [State.settle_line, State.line_enterFault, hhouse, State.extinguish_line]
      cases (s.house h).fault <;> simp
    · rw [State.settle_house, State.house_enterFault, if_neg hk, hhouse]
    · refine ⟨_, State.fault_enterFault (by rw [hhouse]; exact hnone), rfl, rfl, ?_, ?_, rfl⟩
      · have hcounter : ((s.extinguish i).station i).counter = (s.station i).counter :=
          (Edit.extinguish s i).counter i
        exact congrArg some hcounter
      · exact congrArg Clock.time (s.extinguish_clock i)
  · have hexec : exec (.pdChange h .opened) s = done (s.portRecorded h .up) := rfl
    exact ⟨_, hexec, changesOnly_settle_modHouse s h _, s.house_portRecorded h _⟩
  · have hquiet' : (s.house h).engine.inShow = false := by
      rw [← Bool.not_eq_true, EngineState.inShow_iff]
      exact hquiet
    exact ⟨_, exec_pdChange_quiet hquiet', changesOnly_settle_modHouse s h _, s.house_portRecorded h _⟩
  · have hexec := exec_pdChange_fault ((EngineState.inShow_iff _).2 hshow) hport
    have hhouse : (s.portRecorded h .down).house h = { s.house h with port := .down } := s.house_portRecorded h _
    refine ⟨_, hexec, ?_, ?_, fun k hk => ?_, fun i => ⟨?_, fun hi => ?_⟩, fun hnone => ?_⟩
    · rw [State.settle_house, State.house_enterFault, if_pos rfl, hhouse]
    · rw [State.settle_house, State.house_enterFault, if_pos rfl]
    · rw [State.settle_house, State.house_enterFault, if_neg hk]
      exact s.house_modHouse_other _ hk
    · obtain ⟨hlamp, -⟩ := (s.portRecorded h .down).enterFault_arc h .port (s.house h).showStation i
      exact hlamp
    · rw [State.settle_station, State.station_enterFault]
      exact if_neg hi
    · refine ⟨_, State.fault_enterFault (by rw [hhouse]; exact hnone), rfl, rfl, ?_⟩
      rw [State.settle_line, State.line_enterFault, hhouse, if_pos hnone]
      rfl

/-! ### CK and AT -/

section
variable {s : State}

theorem answerCk_taken {hh mm : Int} {sec : Option Int} (h : 0 ≤ hh ∧ hh ≤ 23 ∧ 0 ≤ mm ∧ mm ≤ 59 ∧
    0 ≤ sec.getD 0 ∧ sec.getD 0 ≤ 59) : answer (.ck hh mm sec) s =
      ({ s with clock := { s.clock with
        time := (hh * 3600 + mm * 60 + sec.getD 0).toNat, cycles := 0, isSet := true } }, .ok) := by
  simp [answer, answerCk, checked_eq, firstRefusal, h]

theorem answerCk_refused {hh mm : Int} {sec : Option Int} (h : ¬ (0 ≤ hh ∧ hh ≤ 23 ∧ 0 ≤ mm ∧ mm ≤ 59 ∧
    0 ≤ sec.getD 0 ∧ sec.getD 0 ≤ 59)) : answer (.ck hh mm sec) s = (s, .no .rg) := by
  have hfails : (!(decide (0 ≤ hh) && decide (hh ≤ 23) && decide (0 ≤ mm) && decide (mm ≤ 59) &&
      decide (0 ≤ sec.getD 0) && decide (sec.getD 0 ≤ 59))) = true := by
    simpa only [Bool.not_eq_true', ← Bool.not_eq_true, Bool.and_eq_true, decide_eq_true_eq, and_assoc] using h
  simp only [answer, answerCk, checked_eq, firstRefusal, hfails, if_true]

variable {h : HouseId}

theorem answerAt_off : answer (.atAlarm h.number .off) s = (s.modHouse h fun hs => { hs with alarm := none }, .ok) := by
  simp [answer, answerAt]

variable {hh mm : Int}

theorem answerAt_refused (hr : ¬ (0 ≤ hh ∧ hh ≤ 23 ∧ 0 ≤ mm ∧ mm ≤ 59)) :
    answer (.atAlarm h.number (.arm hh mm)) s = (s, .no .rg) := by
  have hfails : (!(decide (0 ≤ hh) && decide (hh ≤ 23) && decide (0 ≤ mm) && decide (mm ≤ 59))) = true := by
    simpa only [Bool.not_eq_true', ← Bool.not_eq_true, Bool.and_eq_true, decide_eq_true_eq, and_assoc] using hr
  simp only [answer, answerAt, onHouse_number, checked_eq, firstRefusal, hfails, if_true]

variable (hr : 0 ≤ hh ∧ hh ≤ 23 ∧ 0 ≤ mm ∧ mm ≤ 59)
include hr

theorem answerAt_notSet (hset : s.clock.isSet = false) :
    answer (.atAlarm h.number (.arm hh mm)) s = (s, .no .st) := by
  simp [answer, answerAt, checked_eq, firstRefusal, hr, hset]

theorem answerAt_taken (hset : s.clock.isSet = true) : answer (.atAlarm h.number (.arm hh mm)) s =
    (s.modHouse h fun hs => { hs with
      alarm := some (armAlarm (hh * 3600 + mm * 60).toNat hs.settings.lead s.clock.time) }, .ok) := by
  simp [answer, answerAt, checked_eq, firstRefusal, hr, hset]

end

/-- Settles O39: CK sets the clock alone; AT arms one alarm, its pre-strike worked out round the clock. -/
theorem clockAndAlarmLines : Obligations.ClockAndAlarmLines := by
  intro s h hh mm sec hfree
  refine ⟨fun h1 h2 h3 h4 hsec => ?_, fun hout => exec_of_refused rfl hfree (answerCk_refused (by omega)),
    fun h1 h2 h3 h4 hset _ => ?_,
    fun h1 h2 h3 h4 hset => exec_of_refused rfl hfree (answerAt_notSet ⟨h1, h2, h3, h4⟩ hset),
    fun hout => exec_of_refused rfl hfree (answerAt_refused (by omega)), ?_⟩
  · obtain ⟨hexec, honly⟩ := exec_of_touches (parts := [.clock, .line]) rfl hfree
      (answerCk_taken ⟨h1, h2, h3, h4, hsec⟩) ((s.clock_touches _).mono (by simp)) (by simp)
    refine ⟨_, hexec, answered_of_line rfl _, honly, ?_⟩
    have htime : (hh * 3600 + mm * 60 + sec.getD 0).toNat = hh.toNat * 3600 + mm.toNat * 60 + (sec.getD 0).toNat := by
      omega
    rw [State.settle_clock, State.startReply_clock, htime]
  · obtain ⟨t, hexec, honly, hanswered, hhouse⟩ :=
      exec_of_modHouse rfl hfree (answerAt_taken (h := h) ⟨h1, h2, h3, h4⟩ hset)
    have hstart : (hh * 3600 + mm * 60).toNat = hh.toNat * 3600 + mm.toNat * 60 := by omega
    obtain ⟨hpre, hlead⟩ := timeBefore_spec (start := (hh * 3600 + mm * 60).toNat) (by omega) (s.house h).settings.lead
    exact ⟨t, _, hexec, hanswered, honly, hhouse, hstart, hpre, hlead, preState_eq _ _ hpre⟩
  · obtain ⟨t, hexec, honly, hanswered, hhouse⟩ := exec_of_modHouse rfl hfree (answerAt_off (h := h))
    exact ⟨t, hexec, hanswered, honly, hhouse⟩

end Sys2Proof.Machine

/-!
The lines that take entries from a running order, and those that bind a station and take its binding back (R32, R33,
R37 to R39).
-/

namespace Sys2Proof.Machine

/-! ### PD -/

theorem positionOk_succ {k : Nat} (hk : k < 12) : positionOk (k + 1) = true := by
  simp only [positionOk, Bool.and_eq_true, decide_eq_true_eq]
  omega

section
variable {s : State} {h : HouseId} {k : Nat}

theorem answerPd_taken {e : Entry} (hk : k < 12) (he : (s.house h).queue[k]? = some e) (hbound : e.bound = none)
    (hengine : (s.house h).engine ≠ .starting) : answer (.pd h.number (k + 1)) s =
    (s.modHouse h fun hs => ({ hs with queue := hs.queue.eraseIdx k } : House).readyTest.emptyTest, .ok) := by
  simp only [answer, answerPd, onEntry, onHouse_number, positionOk_succ hk, if_true, add_sub_cancel_right,
    Int.toNat_natCast, he, checked_eq, firstRefusal, hbound, State.modQueue, State.modHouse_modHouse]
  simp [hengine]

theorem answerPd_st {e : Entry} (hk : k < 12) (he : (s.house h).queue[k]? = some e)
    (hkept : e.bound.isSome = true ∨ (s.house h).engine = .starting) :
    answer (.pd h.number (k + 1)) s = (s, .no .st) := by
  simp [answer, answerPd, onEntry, positionOk_succ hk, he, checked_eq, firstRefusal, hkept.symm]

theorem answerPd_em (hk : k < 12) (hnone : (s.house h).queue.length ≤ k) :
    answer (.pd h.number (k + 1)) s = (s, .no .em) := by
  simp [answer, answerPd, onEntry, positionOk_succ hk, List.getElem?_eq_none hnone, refuse]

end

/-! ### PC -/

/-- What the clearing of bindings keeps of a station: the counter's reading, the lamp and the demand stand, the motor may
stop, and a held counter stays held (R33). -/
def Station.Cleared (st st' : Station) : Prop :=
  st'.counter = st.counter ∧ st'.lamp = st.lamp ∧ st'.demandOpen = st.demandOpen ∧
    (st.motor.running = false → st'.motor.running = false) ∧ (st.counterMode = .hold → st'.counterMode = .hold)

theorem Station.Cleared.refl (st : Station) : st.Cleared st := ⟨rfl, rfl, rfl, id, id⟩

theorem Station.Cleared.trans {a b c : Station} (h : a.Cleared b) (k : b.Cleared c) : a.Cleared c := by
  obtain ⟨counter, lamp, demand, motor, mode⟩ := h
  obtain ⟨counter', lamp', demand', motor', mode'⟩ := k
  exact ⟨counter'.trans counter, lamp'.trans lamp, demand'.trans demand, motor' ∘ motor, mode' ∘ mode⟩

theorem Station.stopped_running (st : Station) : st.stopped.motor.running = false := by
  unfold Station.stopped
  cases h : st.motor <;> simp [h, Motor.running]

theorem Station.stopped_cleared (st : Station) : st.Cleared st.stopped := by
  rw [Station.stopped_eq]
  exact ⟨rfl, rfl, rfl, fun _ => st.stopped_running, id⟩

/-- An entry's clearing moves the station bound to it, whose counter holds; a RUN-OUT entry's motor does not run on. -/
theorem State.station_clearBinding (s : State) (e : Entry) (j : StationId) :
    (e.bound ≠ some j → (s.clearBinding e).station j = s.station j) ∧
      (s.station j).Cleared ((s.clearBinding e).station j) ∧
      (e.bound = some j → ((s.clearBinding e).station j).counterMode = .hold ∧
        (e.status = .runOut → ((s.clearBinding e).station j).motor.running = false)) := by
  unfold State.clearBinding
  cases hb : e.bound with
  | none => exact ⟨fun _ => rfl, .refl _, nofun⟩
  | some i =>
    dsimp only
    rw [State.station_holdCounter]
    by_cases hj : j = i
    · subst hj
      rw [if_pos rfl]
      refine ⟨fun hne => absurd rfl hne, ?_, fun _ => ⟨rfl, fun hr => ?_⟩⟩
      · by_cases hr : e.status = .runOut
        · rw [if_pos hr, State.station_stopMotor_same]
          obtain ⟨counter, lamp, demand, motor, -⟩ := (s.station j).stopped_cleared
          exact ⟨counter, lamp, demand, motor, fun _ => rfl⟩
        · rw [if_neg hr]
          exact ⟨rfl, rfl, rfl, id, fun _ => rfl⟩
      · rw [if_pos hr, State.station_stopMotor_same]
        exact Station.stopped_running _
    · rw [if_neg hj]
      have hsame : (if e.status = .runOut then s.stopMotor i else s).station j = s.station j := by
        split
        · rw [State.station_stopMotor, if_neg hj]
        · rfl
      rw [hsame]
      exact ⟨fun _ => rfl, .refl _, fun heq => absurd (Option.some.inj heq).symm hj⟩

theorem State.clearBinding_touches (s : State) (e : Entry) :
    Touches (StationId.all.map .station) s (s.clearBinding e) := by
  unfold State.clearBinding
  cases e.bound with
  | none => exact .refl _ s
  | some i =>
    have hi : [Part.station i] ⊆ StationId.all.map .station := by simpa using StationId.mem_all i
    have hstop : Touches [.station i] s (if e.status = .runOut then s.stopMotor i else s) :=
      .ite (fun _ => s.modStation_touches i _) fun _ => .refl _ s
    exact (hstop.trans (State.modStation_touches _ i _)).mono hi

theorem State.clearedBindings (l : List Entry) (s : State) :
    Touches (StationId.all.map .station) s (l.foldl State.clearBinding s) ∧ ∀ j,
      ((∀ e ∈ l, e.bound ≠ some j) → (l.foldl State.clearBinding s).station j = s.station j) ∧
      (s.station j).Cleared ((l.foldl State.clearBinding s).station j) ∧
      ∀ e ∈ l, e.bound = some j → ((l.foldl State.clearBinding s).station j).counterMode = .hold ∧
        (e.status = .runOut → ((l.foldl State.clearBinding s).station j).motor.running = false) := by
  induction l generalizing s with
  | nil => exact ⟨.refl _ s, fun j => ⟨fun _ => rfl, .refl _, nofun⟩⟩
  | cons x l ih =>
    obtain ⟨htouch, hrest⟩ := ih (s.clearBinding x)
    refine ⟨(s.clearBinding_touches x).trans htouch, fun j => ?_⟩
    obtain ⟨hsame, hcleared, hbound⟩ := s.station_clearBinding x j
    obtain ⟨hsame', hcleared', hbound'⟩ := hrest j
    rw [List.foldl_cons]
    refine ⟨fun hl => (hsame' fun e he => hl e (List.mem_cons_of_mem x he)).trans (hsame (hl x List.mem_cons_self)),
      hcleared.trans hcleared', fun e he hb => ?_⟩
    rcases List.mem_cons.1 he with rfl | he
    · obtain ⟨hold, stops⟩ := hbound hb
      obtain ⟨-, -, -, motor, mode⟩ := hcleared'
      exact ⟨mode hold, fun hr => motor (stops hr)⟩
    · exact hbound' e he hb

theorem answerPc_taken {s : State} {h : HouseId} (he : (s.house h).engine ∈ [.idle, .ready, .hold, .interval]) :
    answer (.pc h.number) s = (((s.house h).queue.foldl State.clearBinding s).modHouse h fun hs =>
      ({ hs with queue := [] } : House).readyTest.emptyTest, .ok) := by
  simp only [answer, answerPc, onHouse_number, checked_eq, firstRefusal]
  simp only [List.mem_cons, List.not_mem_nil, or_false] at he
  rcases he with he | he | he | he <;> simp [he]

theorem answerPc_st {s : State} {h : HouseId} (he : (s.house h).engine ∉ [.idle, .ready, .hold, .interval]) :
    answer (.pc h.number) s = (s, .no .st) := by
  simp only [answer, answerPc, onHouse_number, checked_eq, firstRefusal]
  cases hc : (s.house h).engine <;> simp_all

/-- A house whose order is emptied rests in IDLE (R41, R65). -/
theorem House.emptied_idle (hs : House) (he : hs.engine ∈ [.idle, .ready, .hold, .interval]) :
    (({ hs with queue := [] } : House).readyTest.emptyTest).queue = [] ∧
      (({ hs with queue := [] } : House).readyTest.emptyTest).engine = .idle := by
  simp only [List.mem_cons, List.not_mem_nil, or_false] at he
  rcases he with he | he | he | he <;> simp [House.readyTest, House.emptyTest, House.toIdle, House.headBound, he]

/-- Settles O25: each line is refused by its own check, and PC's clearing is followed entry by entry. -/
theorem entriesLeaveTheRunningOrder : Obligations.EntriesLeaveTheRunningOrder := by
  intro s h hfree
  refine ⟨fun k e hk he => ⟨fun hbound hengine => ?_, fun hkept => exec_of_refused rfl hfree (answerPd_st hk he hkept)⟩,
    fun k hk hnone => exec_of_refused rfl hfree (answerPd_em hk hnone), fun he => ?_,
    fun he => exec_of_refused rfl hfree (answerPc_st he)⟩
  · obtain ⟨t, hexec, honly, hanswered, hhouse⟩ := exec_of_modHouse rfl hfree (answerPd_taken hk he hbound hengine)
    exact ⟨t, hexec, hanswered, honly, hhouse⟩
  · obtain ⟨htouch, hstations⟩ := State.clearedBindings (s.house h).queue s
    have htouched : Touches (.house h :: StationId.all.map .station) s
        (((s.house h).queue.foldl State.clearBinding s).modHouse h fun hs =>
          ({ hs with queue := [] } : House).readyTest.emptyTest) :=
      (htouch.mono (List.subset_cons_self _ _)).trans ((State.modHouse_touches _ h _).mono (by simp))
    have hown : (((s.house h).queue.foldl State.clearBinding s).house h).engine ∈
        [.idle, .ready, .hold, .interval] := by
      rw [htouch.house (by simp)]
      exact he
    obtain ⟨hqueue, hengine⟩ := House.emptied_idle _ hown
    refine ⟨_, ?_, answered_of_line (htouched.line (by simp)) .ok, ?_, ?_, fun k hk => ?_, ?_, ?_, ?_, fun i hi => ?_,
      fun i e hmem hbound => ?_⟩
    · rw [exec_console_free rfl hfree, answerPc_taken he]
    · rw [State.settle_house, State.startReply_house, State.house_modHouse_same]
      exact hqueue
    · rw [State.settle_house, State.startReply_house, State.house_modHouse_same]
      exact hengine
    · exact htouched.house (by simp [hk])
    · exact htouched.clock (by simp)
    · exact htouched.arbiter (by simp)
    · exact htouched.fire (by simp)
    · exact (hstations i).1 hi
    · obtain ⟨-, ⟨counter, lamp, demand, -, -⟩, hcleared⟩ := hstations i
      obtain ⟨hold, stops⟩ := hcleared e hmem hbound
      exact ⟨hold, counter, lamp, demand, stops⟩

/-! ### TH and UT -/

section
variable {s : State} {i : StationId} {k : Nat} {e : Entry}

/-- A present, unbound, stopped station may be threaded with the first unbound entry (R37). -/
theorem State.threadBlocked_of (hpresent : (s.station i).present = true) (hmotor : (s.station i).motor = .stopped)
    (hunbound : s.boundEntry i = none) (hwaiting : e.status = .waiting)
    (hplace : k = 0 ∨ k = 1 ∧ s.mode (s.station i).house = .changeover ∧
      ∃ j, ((s.house (s.station i).house).queue.head?.bind fun x => x.bound) = some j ∧ j ≠ i ∧
        (s.station j).house = (s.station i).house) : s.threadBlocked i k e = false := by
  rcases hplace with rfl | ⟨rfl, hmode, j, hhead, hj, hhouse⟩
  · simp [State.threadBlocked, hpresent, hmotor, hunbound, hwaiting]
  · simp [State.threadBlocked, hpresent, hmotor, hunbound, hwaiting, hmode, hhead, hj, hhouse]

theorem answerTh_taken (hcondition : (s.station i).condition = .normal)
    (he : (s.house (s.station i).house).queue[k]? = some e) (hopen : s.threadBlocked i k e = false) :
    answer (.th i.number (k + 1)) s =
      (((s.modQueue (s.station i).house fun q => q.set k { e with status := .threaded, bound := some i }).threadCounter
        i).readyTest (s.station i).house, .ok) := by
  obtain ⟨-, -, -, hk⟩ := State.threadBlocked_eq_false hopen
  have hin : k < (s.house (s.station i).house).queue.length := (List.getElem?_eq_some_iff.1 he).1
  simp only [answer, answerTh, onStation_number, checked_eq, firstRefusal, add_sub_cancel_right, Int.toNat_natCast,
    positionOk_succ (show k < 12 by omega), hcondition, he, hopen]
  simp [Nat.not_le.2 hin]

theorem answerUt_taken (hcondition : (s.station i).condition = .normal) (hmotor : (s.station i).motor = .stopped)
    (he : s.boundEntry i = some e) (hstatus : e.status = .threaded)
    (hstart : (s.house (s.station i).house).startStation ≠ some i) : answer (.ut i.number) s =
      (((s.modQueue (s.station i).house fun q => unbindEntry q i).holdCounter i).readyTest (s.station i).house, .ok) := by
  simp only [answer, answerUt, onStation_number, checked_eq, firstRefusal, hcondition, he]
  simp [hmotor, hstatus, hstart]

end

/-- A change of a running order, its station's counter and the test of R41 touch that house and that station. -/
theorem State.bindingMoved_touches (s : State) (h : HouseId) (i : StationId) (f : List Entry → List Entry)
    (g : Station → Station) : Touches [.station i, .house h, .line] s (((s.modQueue h f).modStation i g).readyTest h) :=
  (((s.modHouse_touches h _).mono (by simp)).trans ((State.modStation_touches _ i g).mono (by simp))).trans
    ((State.modHouse_touches _ h _).mono (by simp))

theorem State.house_bindingMoved (s : State) (h : HouseId) (i : StationId) (f : List Entry → List Entry)
    (g : Station → Station) : (((s.modQueue h f).modStation i g).readyTest h).house h =
      ({ s.house h with queue := f (s.house h).queue } : House).readyTest := by
  rw [State.house_readyTest, if_pos rfl, State.modStation_house, State.house_modQueue, if_pos rfl]

theorem State.station_bindingMoved (s : State) (h : HouseId) (i : StationId) (f : List Entry → List Entry)
    (g : Station → Station) : (((s.modQueue h f).modStation i g).readyTest h).station i = g (s.station i) := by
  show ((s.modQueue h f).modStation i g).station i = _
  rw [State.station_modStation, if_pos rfl, State.modQueue_station]

/-- A console line answered OK that moves a binding leaves the counter and the order as the move gives them. -/
theorem exec_of_bindingMoved {c : Instr} (hc : c.isConsole = true) {s : State} (hfree : LineFree s) {h : HouseId}
    {i : StationId} {f : List Entry → List Entry} {g : Station → Station}
    (ha : answer c s = (((s.modQueue h f).modStation i g).readyTest h, .ok)) :
    ∃ t, exec c s = .next t ∧ Answered s t .ok ∧ ChangesOnly [.station i, .house h, .line] s t ∧
      t.station i = g (s.station i) ∧
      t.house h = ({ s.house h with queue := f (s.house h).queue } : House).readyTest := by
  obtain ⟨hexec, honly⟩ := exec_of_touches hc hfree ha (s.bindingMoved_touches h i f g) (by simp)
  exact ⟨_, hexec, answered_of_line rfl .ok, honly, s.station_bindingMoved h i f g, s.house_bindingMoved h i f g⟩

/-- Settles O26: each line is one move of a binding. -/
theorem threadingLines : Obligations.ThreadingLines := by
  intro s i hfree hcondition hmotor
  refine ⟨fun k e hpresent hunbound he hwaiting hplace => ?_, fun e he hstatus hstart => ?_⟩
  · have hopen := State.threadBlocked_of hpresent hmotor hunbound hwaiting hplace
    exact exec_of_bindingMoved rfl hfree (answerTh_taken hcondition he hopen)
  · exact exec_of_bindingMoved rfl hfree (answerUt_taken hcondition hmotor he hstatus hstart)

end Sys2Proof.Machine

/-!
How a show starts (R45, R46): the checks of GO, the LAMP-WAIT step, and a strike request of the house engine, which does
what the line LS would do.
-/

namespace Sys2Proof.Machine

/-! ### A strike request sees the lamps and the arbiter -/

theorem PerStation.ext_get {α : Type} {p q : PerStation α} (h : ∀ i, p.get i = q.get i) : p = q := by
  obtain ⟨p1, p2, p3, p4, p5, p6⟩ := p
  obtain ⟨q1, q2, q3, q4, q5, q6⟩ := q
  obtain rfl : p1 = q1 := h .s1
  obtain rfl : p2 = q2 := h .s2
  obtain rfl : p3 = q3 := h .s3
  obtain rfl : p4 = q4 := h .s4
  obtain rfl : p5 = q5 := h .s5
  obtain rfl : p6 = q6 := h .s6
  rfl

/-- Two states with the same lamps and the same arbiter, the stations chosen standing alike whole. -/
def SupplyAlike (J : StationId → Prop) (s v : State) : Prop :=
  v.arbiter = s.arbiter ∧ (∀ j, (v.station j).lamp = (s.station j).lamp) ∧ ∀ j, J j → v.station j = s.station j

section
variable {J : StationId → Prop} {s v : State} (h : SupplyAlike J s v)
include h

theorem SupplyAlike.modLamp (i : StationId) (f : Lamp → Lamp) : SupplyAlike J (s.modLamp i f) (v.modLamp i f) := by
  obtain ⟨arbiter, lamps, stations⟩ := h
  refine ⟨arbiter, fun j => ?_, fun j hj => ?_⟩
  · rw [State.modLamp, State.modLamp, State.station_modStation, State.station_modStation]
    split
    · exact congrArg f (lamps i)
    · exact lamps j
  · rw [State.modLamp, State.modLamp, State.station_modStation, State.station_modStation]
    split
    · subst j
      rw [stations i hj]
    · exact stations j hj

theorem SupplyAlike.setLamp (i : StationId) (new : LampState) (cls : Option StrikeClass) :
    SupplyAlike J (s.setLamp i new cls) (v.setLamp i new cls) := by
  obtain ⟨arbiter, lamps, stations⟩ := h
  refine ⟨?_, fun j => ?_, fun j hj => ?_⟩
  · rw [State.setLamp_arbiter, State.setLamp_arbiter, arbiter, lamps]
  · rw [State.station_setLamp, State.station_setLamp]
    split
    · exact congrArg (fun l => Lamp.enter l new cls) (lamps i)
    · exact lamps j
  · rw [State.station_setLamp, State.station_setLamp]
    split
    · subst j
      rw [stations i hj]
    · exact stations j hj

theorem SupplyAlike.urgent : v.urgent = s.urgent := by
  funext k
  rw [State.urgent, State.urgent, h.2.1]

theorem SupplyAlike.grantTo (k : StationId) : SupplyAlike J (s.grantTo k) (v.grantTo k) := by
  obtain ⟨arbiter, lamps, stations⟩ := h.setLamp k .striking none
  exact ⟨congrArg (fun a : Arbiter =>
    { a with grant := some k, supply := .granted, order := orderAfter a.mode a.order k }) arbiter, lamps, stations⟩

theorem SupplyAlike.testGrant : SupplyAlike J s.testGrant v.testGrant := by
  unfold State.testGrant
  rw [h.urgent, h.1]
  split
  · split
    · exact h.grantTo _
    · exact h
  · exact h

/-- A strike request taken does the same to lamps and arbiter that stand alike (R108, R109). -/
theorem SupplyAlike.takeStrike (i : StationId) : SupplyAlike J (s.takeStrike i) (v.takeStrike i) :=
  ((h.modLamp i _).setLamp i .queued (some .normal)).testGrant

end

theorem DoorState.not_enforced_iff {d : DoorState} : d.enforced = false ↔ d.mode = .advisory ∨ d.contact = .closed := by
  refine ⟨fun h => ?_, DoorState.not_enforced⟩
  obtain ⟨contact, mode⟩ := d
  cases contact <;> cases mode <;> simp_all [DoorState.enforced]

/-- The conditions of LS are those of `StrikeAllowed`, with the lamp COLD (R106). -/
theorem State.strikeRefusal_eq_none {s : State} {i : StationId} : s.strikeRefusal i = none ↔
    (∃ t₀, StrikeAllowed s i t₀) ∧ (s.station i).lamp.state = .cold := by
  refine ⟨fun h => ?_, fun ⟨⟨t₀, ha⟩, hcold⟩ => State.strikeRefusal_none ha hcold⟩
  simp only [State.strikeRefusal, firstRefusal_eq_none, List.mem_cons, List.not_mem_nil, or_false, forall_eq_or_imp,
    forall_eq, beq_eq_false_iff_ne, Bool.not_eq_false', bne_eq_false_iff_eq] at h
  obtain ⟨hcondition, htripped, hpresent, hcold, hld, hreserve⟩ := h
  rw [Station.present, Option.isSome_iff_exists] at hpresent
  obtain ⟨t₀, htrim⟩ := hpresent
  simp only [State.tripped, Bool.or_eq_false_iff, Option.isSome_eq_false_iff, Option.isNone_iff_eq_none] at htripped
  refine ⟨⟨t₀, ?_, htrim, htripped.1, htripped.2, DoorState.not_enforced_iff.1 hld, ?_⟩, hcold⟩
  · cases hc : (s.station i).condition with
    | normal => rfl
    | resetting => exact absurd hc hcondition
  · simpa [Station.reserveHolds, htrim] using hreserve

/-- A lamp requested to strike behind changes that leave the lamps, the arbiter and every station alone is struck as LS
would strike it (R106 to R109). -/
theorem struckAs_of_takeStrike {s v t : State} {i : StationId} {t₀ : Trim} (stations : ∀ j, v.station j = s.station j)
    (arbiter : v.arbiter = s.arbiter) (allowed : StrikeAllowed s i t₀) (cold : (s.station i).lamp.state = .cold)
    (hstations : ∀ j, t.station j = (v.takeStrike i).station j) (harbiter : t.arbiter = (v.takeStrike i).arbiter) :
    StruckAs s t i := by
  have hfree : LineFree { s with line := { s.line with transmit := .idle, waiting := none } } := ⟨rfl, rfl⟩
  have ha := answerLs_taken
    (State.strikeRefusal_none (s := { s with line := { s.line with transmit := .idle, waiting := none } }) allowed cold)
  have hexec := exec_console_free (c := .ls i.number) rfl hfree
  rw [ha] at hexec
  have halike : SupplyAlike (fun _ => True) { s with line := { s.line with transmit := .idle, waiting := none } } v :=
    ⟨arbiter, fun j => congrArg Station.lamp (stations j), fun j _ => stations j⟩
  obtain ⟨harbiter', -, hstations'⟩ := halike.takeStrike i
  exact ⟨_, hexec, PerStation.ext_get fun j => (hstations j).trans (hstations' j trivial), harbiter.trans harbiter'⟩

theorem StationId.mem_stationParts (i : StationId) : Part.station i ∈ StationId.all.map Part.station :=
  List.mem_map_of_mem (StationId.mem_all i)

/-- A strike request moves stations and the arbiter, and nothing else (R108, R109). -/
theorem State.takeStrike_touches (s : State) (i : StationId) :
    Touches (.arbiter :: StationId.all.map .station) s (s.takeStrike i) := by
  have own : ∀ k, [Part.station k, .arbiter] ⊆ .arbiter :: StationId.all.map .station := fun k p hp => by
    rcases List.mem_cons.1 hp with rfl | hp
    · exact List.mem_cons_of_mem _ (StationId.mem_stationParts k)
    · rw [List.mem_singleton.1 hp]
      exact List.mem_cons_self
  have hgrant : ∀ u : State, Touches (.arbiter :: StationId.all.map .station) u u.testGrant := fun u => by
    unfold State.testGrant
    split
    · split
      · exact (u.grantTo_touches _).mono (own _)
      · exact .refl _ u
    · exact .refl _ u
  exact ((s.strikeAsked_touches i).mono (own i)).trans (hgrant _)

/-- A request for a COLD lamp is LS's request, or is refused (R107). -/
theorem State.requestStrike_cold {s : State} {i : StationId} (cold : (s.station i).lamp.state = .cold) :
    s.requestStrike i = match s.strikeRefusal i with
      | some c => (s, some c)
      | none => (s.takeStrike i, none) := by
  simp only [State.requestStrike, cold] <;> rfl

/-! ### The checks of GO -/

section
variable {s : State} {h : HouseId} {i : StationId}

theorem House.threadedHead_of {hs : House} {e : Entry} (head : hs.queue.head? = some e) (threaded : e.status = .threaded) :
    hs.threadedHead = e.bound := by
  unfold House.threadedHead
  cases hq : hs.queue with
  | nil => simp [hq] at head
  | cons x q =>
    simp only [hq, List.head?_cons, Option.some.injEq] at head
    simp [head, threaded]

theorem House.threadedHead_eq_none {hs : House}
    (h : ∀ e, hs.queue.head? = some e → e.status ≠ .threaded ∨ e.bound = none) : hs.threadedHead = none := by
  unfold House.threadedHead
  cases hq : hs.queue with
  | nil => rfl
  | cons x q =>
    rcases h x (by rw [hq]; rfl) with hx | hx <;> simp [hx]

theorem State.goCheck_starting (he : (s.house h).engine = .starting) : s.goCheck h = .error .by_ := by
  simp [State.goCheck, he]

theorem State.goCheck_suspended (he : (s.house h).engine = .suspended) : s.goCheck h = .error .fi := by
  simp [State.goCheck, he]

/-- The states in which GO is refused ST (R45). -/
def EngineState.goBarred : EngineState → Bool
  | .idle | .playing | .preparing | .motorCued | .runDown | .fault => true
  | _ => false

theorem State.goCheck_barred (he : (s.house h).engine.goBarred = true) : s.goCheck h = .error .st := by
  unfold State.goCheck
  cases hc : (s.house h).engine <;> simp [hc, EngineState.goBarred, EngineState.startable] at he ⊢

theorem State.goCheck_startable (he : (s.house h).engine.startable = true) : s.goCheck h =
    match (s.house h).threadedHead with
    | none => .error .st
    | some i => if (s.house h).port = .down || s.tripped i then .error .fi else .ok i := by
  unfold State.goCheck
  cases hc : (s.house h).engine <;> simp [hc, EngineState.startable] at he ⊢ <;> rfl

theorem answerGo_refused {c : ErrorCode} (hc : s.goCheck h = .error c) : answer (.go h.number) s = (s, .no c) := by
  simp [answer, answerGo, hc, refuse]

theorem answerGo_taken (hc : s.goCheck h = .ok i) : answer (.go h.number) s = (s.startSequence h i, .ok) := by
  simp [answer, answerGo, hc]

/-- Out of MOTOR-CUED the changeover button makes a start (R45). -/
theorem exec_cbClosing_start (he : (s.house h).engine ≠ .motorCued) : exec (.cbClosing h) s = done (s.eventStart h) := by
  have hexec : exec (.cbClosing h) s = execCbClosing h s := rfl
  simp [hexec, execCbClosing, State.manualChangeReady, he]

theorem State.eventStart_ok (he : (s.house h).engine.startable = true) (hc : s.goCheck h = .ok i) :
    s.eventStart h = s.startSequence h i := by simp [State.eventStart, he, hc]

theorem State.eventStart_fi (he : (s.house h).engine.startable = true) (hc : s.goCheck h = .error .fi) :
    s.eventStart h = s.enterFault h .start (s.house h).threadedHead := by simp [State.eventStart, he, hc]

theorem State.eventStart_st (he : (s.house h).engine.startable = true) (hc : s.goCheck h = .error .st) :
    s.eventStart h = s := by simp [State.eventStart, he, hc]

theorem State.eventStart_barred (he : (s.house h).engine.startable = false) : s.eventStart h = s := by
  rw [State.eventStart, if_neg (by simp [he])]

end

theorem EngineState.startable_iff {e : EngineState} : e.startable = true ↔ e ∈ [.ready, .interval, .hold] := by
  cases e <;> simp [EngineState.startable]

/-! ### The LAMP-WAIT step -/

/-- The house at the entry to STARTING (R46). -/
def State.atStart (s : State) (h : HouseId) : State := s.modHouse h House.atStart

section
variable {s : State} {h : HouseId} {i : StationId}

theorem State.startSequence_eq : s.startSequence h i = (s.atStart h).lampWaitStep h i := rfl

/-- A head lamp on its way is waited for (R46). -/
theorem State.startSequence_waits (lit : (s.station i).lamp.state ∈ [.queued, .striking, .establish]) :
    s.startSequence h i = s.modHouse h fun hs => { hs.atStart with lampWait := true } := by
  have hwaits : s.startSequence h i = (s.atStart h).awaitLamp h := by
    simp only [List.mem_cons, List.not_mem_nil, or_false] at lit
    rw [State.startSequence_eq, State.lampWaitStep, State.atStart, State.modHouse_station]
    rcases lit with lit | lit | lit <;> rw [lit]
  rw [hwaits]
  exact s.modHouse_modHouse h _ _

/-- A COLD head lamp that may strike is requested, and waited for (R46). -/
theorem State.startSequence_strikes (cold : (s.station i).lamp.state = .cold) (allowed : ∃ t₀, StrikeAllowed s i t₀) :
    s.startSequence h i = ((s.atStart h).takeStrike i).awaitLamp h := by
  have hcold : ((s.atStart h).station i).lamp.state = .cold := cold
  have hnone : (s.atStart h).strikeRefusal i = none := State.strikeRefusal_eq_none.2 ⟨allowed, hcold⟩
  rw [State.startSequence_eq, State.lampWaitStep, hcold, State.requestStrike_cold hcold, hnone]

/-- A head lamp that cannot strike brings FAULT with cause LAMP (R46). -/
theorem State.startSequence_faults (dead : (s.station i).lamp.state ∈ [.stub, .lockout] ∨
    (s.station i).lamp.state = .cold ∧ ∀ t₀, ¬ StrikeAllowed s i t₀) :
    s.startSequence h i = (s.atStart h).enterFault h .lamp (some i) := by
  rcases dead with dead | ⟨cold, barred⟩
  · simp only [List.mem_cons, List.not_mem_nil, or_false] at dead
    rw [State.startSequence_eq, State.lampWaitStep, State.atStart, State.modHouse_station]
    rcases dead with dead | dead <;> rw [dead]
  · have hcold : ((s.atStart h).station i).lamp.state = .cold := cold
    obtain ⟨c, hc⟩ : ∃ c, (s.atStart h).strikeRefusal i = some c := by
      refine Option.ne_none_iff_exists'.1 fun hnone => ?_
      obtain ⟨⟨t₀, ha⟩, -⟩ := State.strikeRefusal_eq_none.1 hnone
      exact barred t₀ ha
    rw [State.startSequence_eq, State.lampWaitStep, hcold, State.requestStrike_cold hcold, hc]

end

end Sys2Proof.Machine

/-!
GO and the changeover button at a house that may start, and their refusals (R45, R46).
-/

namespace Sys2Proof.Machine

/-! ### One start by two ways -/

theorem LineUnit.Told.echo {a b : LineUnit} (h : a.Told b) : b.echoCr = a.echoCr := by rw [h.unit]; rfl

/-- A console line answered OK leaves what the same act leaves without a line, but for the reply. -/
theorem exec_beside {c : Instr} (hc : c.isConsole = true) {s v : State} (hfree : LineFree s) {r : Reply}
    (ha : answer c s = (v, r)) (told : s.line.Told v.line) :
    ∃ u, exec c s = .next u ∧ u = { v.settle with line := v.line.sent r, pins := u.pins } := by
  refine ⟨(v.startReply s.line.echoCr r).settle, ?_, ?_⟩
  · rw [exec_console_free hc hfree, ha]
  · rw [← told.echo]
    rfl

section
variable {s : State} {h : HouseId} {i : StationId}

theorem State.startSequence_told (was : (s.house h).engine.startable = true) (head : (s.house h).threadedHead = some i) :
    s.line.Told (s.startSequence h i).line :=
  (s.startSequence_edits was head).keeps (P := fun u => s.line.Told u.line) (fun _ _ e hu => hu.trans e.told) (.refl _)

/-! ### The start -/

theorem State.atStart_engaged (own : (s.station i).house = h) (head : (s.house h).queue.head?.bind (·.bound) = some i) :
    (s.atStart h).engaged i = true := by
  have hstart : ((s.atStart h).house h).startStation = some i := by
    rw [State.atStart, State.house_modHouse_same]
    exact head
  have hown : ((s.atStart h).station i).house = h := own
  simp [State.engaged, hown, hstart]

/-- A start that the head lamp cannot follow (R46, R61, R63). -/
theorem State.startSequence_faulted {e : Entry} (head : (s.house h).queue.head? = some e) (bound : e.bound = some i)
    (own : (s.station i).house = h) (dead : (s.station i).lamp.state ∈ [.stub, .lockout] ∨
      (s.station i).lamp.state = .cold ∧ ∀ t₀, ¬ StrikeAllowed s i t₀) :
    Faulted s (s.startSequence h i).settle h .lamp i ∧ ((s.startSequence h i).house h).hold = .none ∧
      ((s.startSequence h i).station i).lamp = (s.station i).lamp ∧ (s.startSequence h i).arbiter = s.arbiter ∧
      (s.startSequence h i).fire = s.fire ∧ (s.startSequence h i).clock = s.clock := by
  have hhouse : (s.atStart h).house h = (s.house h).atStart := State.house_modHouse_same _ _ _
  have htouch := (s.atStart h).enterFault_touches h .lamp (some i)
  rw [State.startSequence_faults dead]
  refine ⟨faulted_of_enterFault .lamp own ?_ ?_ rfl (fun _ => rfl) rfl (.inl ?_) (fun _ _ => rfl) fun k hk => ?_, ?_, ?_,
    htouch.arbiter (by simp), htouch.fire (by simp), htouch.clock (by simp)⟩
  · rw [hhouse]
    rfl
  · rw [hhouse]
    rfl
  · exact State.atStart_engaged own (by rw [head]; exact bound)
  · exact (s.house_modHouse h k _).trans (if_neg hk)
  · rw [State.house_enterFault, if_pos rfl, hhouse]
    rfl
  · exact ((s.atStart h).enterFault_arc h .lamp (some i) i).1

/-- A start whose head lamp is requested to strike (R46, R107). -/
theorem State.startSequence_struck {t₀ : Trim} (cold : (s.station i).lamp.state = .cold) (allowed : StrikeAllowed s i t₀) :
    StruckAs s (s.startSequence h i).settle i ∧
      (∀ k, (s.startSequence h i).house k = if k = h then { (s.house h).atStart with lampWait := true } else s.house k) ∧
      Touches (.house h :: .arbiter :: StationId.all.map .station) s (s.startSequence h i) := by
  have hasked := State.takeStrike_touches (s.atStart h) i
  rw [State.startSequence_strikes cold ⟨t₀, allowed⟩]
  refine ⟨struckAs_of_takeStrike (v := s.atStart h) (fun _ => rfl) rfl allowed cold (fun _ => rfl) rfl, fun k => ?_, ?_⟩
  · rw [State.awaitLamp, State.house_modHouse, hasked.house (by simp), hasked.house (by simp), State.atStart,
      State.house_modHouse_same, State.house_modHouse]
    by_cases hk : k = h
    · rw [if_pos hk, if_pos hk]
    · rw [if_neg hk, if_neg hk, if_neg hk]
  · exact (((s.modHouse_touches h _).mono (by simp)).trans (hasked.mono (by simp))).trans
      ((State.modHouse_touches _ h _).mono (by simp))

end

/-- Settles O27: both ways of starting run the LAMP-WAIT step, and both are refused by the checks of GO. -/
theorem showStartsFromItsHead : Obligations.ShowStartsFromItsHead := by
  intro s h hfree
  have idle : s.eventStart h = s → (s.house h).engine ≠ .motorCued →
      exec (.cbClosing h) s = .next { s with pins := s.outputs } := fun hstays hnot => by
    rw [exec_cbClosing_start hnot, hstays]
    rfl
  have unheaded : (s.house h).engine ∈ [.ready, .interval, .hold] →
      (∀ e, (s.house h).queue.head? = some e → e.status ≠ .threaded ∨ e.bound = none) →
      s.goCheck h = .error .st := fun he hhead => by
    rw [State.goCheck_startable (EngineState.startable_iff.2 he), House.threadedHead_eq_none hhead]
  refine ⟨fun e i he hhead hthreaded hbound hown => ⟨fun hport htrip hbooth hlamp => ?start, fun hfi => ?fi⟩,
    fun he => exec_of_refused rfl hfree (answerGo_refused (State.goCheck_starting he)),
    fun he => exec_of_refused rfl hfree (answerGo_refused (State.goCheck_suspended he)), ?st, ?nothing⟩
  case start =>
    have hstartable := EngineState.startable_iff.2 he
    have hthread := (House.threadedHead_of hhead hthreaded).trans hbound
    have hgo : s.goCheck h = .ok i := by
      rw [State.goCheck_startable hstartable, hthread]
      simp [hport, State.tripped, htrip, hbooth]
    have hcued : (s.house h).engine ≠ .motorCued := fun hc => by simp [hc, EngineState.startable] at hstartable
    have hbutton := exec_cbClosing_start hcued
    rw [State.eventStart_ok hstartable hgo] at hbutton
    obtain ⟨u, hexec, hbeside⟩ := exec_beside (c := .go h.number) rfl hfree (answerGo_taken hgo)
      (State.startSequence_told hstartable hthread)
    refine ⟨_, u, hbutton, hexec, hbeside, fun hlit => ?_, fun t₀ hcold hallowed => ?_, fun hdead => ?_⟩
    · rw [State.startSequence_waits hlit]
      exact ⟨(s.modHouse_touches h _).settle, by rw [State.settle_house, State.house_modHouse_same]⟩
    · obtain ⟨hstruck, hhouses, htouch⟩ := State.startSequence_struck (h := h) hcold hallowed
      exact ⟨hstruck, hhouses, htouch.clock (by simp), htouch.fire (by simp), htouch.line (by simp),
        htouch.draws (by simp), htouch.straps (by simp)⟩
    · exact State.startSequence_faulted hhead hbound hown hdead
  case fi =>
    have hstartable := EngineState.startable_iff.2 he
    have hthread := (House.threadedHead_of hhead hthreaded).trans hbound
    have hgo : s.goCheck h = .error .fi := by
      rw [State.goCheck_startable hstartable, hthread]
      exact if_pos (by simpa [State.tripped] using hfi)
    have hcued : (s.house h).engine ≠ .motorCued := fun hc => by simp [hc, EngineState.startable] at hstartable
    have hbutton := exec_cbClosing_start hcued
    rw [State.eventStart_fi hstartable hgo, hthread] at hbutton
    have hfault := s.house_enterFault h h .start (some i)
    rw [if_pos rfl] at hfault
    refine ⟨exec_of_refused rfl hfree (answerGo_refused hgo), _, hbutton, ?_, fun hnone => ?_⟩
    · rw [State.settle_house, hfault]
    · rw [State.settle_house, hfault, hnone]
      exact ⟨_, rfl, rfl, rfl, rfl⟩
  case st =>
    rintro (he | ⟨he, hhead⟩)
    · refine exec_of_refused rfl hfree (answerGo_refused (State.goCheck_barred ?_))
      cases hc : (s.house h).engine <;> simp [hc, EngineState.goBarred] at he ⊢
    · exact exec_of_refused rfl hfree (answerGo_refused (unheaded he hhead))
  case nothing =>
    rintro (he | ⟨he, hhead⟩)
    · refine idle (State.eventStart_barred ?_) ?_ <;>
        cases hc : (s.house h).engine <;> simp [hc, EngineState.startable] at he ⊢
    · exact idle (State.eventStart_st (EngineState.startable_iff.2 he) (unheaded he hhead)) fun hc => by simp [hc] at he

end Sys2Proof.Machine

/-!
The show clock counts, and its alarms fire (R71, R75, R76).
-/

namespace Sys2Proof.Machine

/-! ### Counting -/

/-- The state with the second counted on (R71). -/
def State.ticked (s : State) : State :=
  { s with clock := { s.clock with cycles := 0, time := (s.clock.time + 1) % daySeconds } }

theorem exec_clockSecond (s : State) : exec .clockSecond s = done s.clockSecond := rfl

/-- At most one house due is taken as it comes (log 9 concerns several). -/
theorem State.freeOrder_short {α : Type} (s : State) {l : List α} (h : l.length ≤ 1) : s.freeOrder l = (l, s) := by
  rw [State.freeOrder, if_pos h]

section
variable {s : State}

theorem State.clockSecond_quiet (h : s.ticked.housesDue = []) : s.clockSecond = s.ticked := by
  have hfold : s.clockSecond = (s.ticked.freeOrder s.ticked.housesDue).2.forHouses
      (s.ticked.freeOrder s.ticked.housesDue).1 fun h u => u.clockHouse h := rfl
  rw [hfold, State.freeOrder_short _ (by simp [h]), h]
  rfl

theorem State.clockSecond_one {h : HouseId} (hdue : s.ticked.housesDue = [h]) :
    s.clockSecond = s.ticked.clockHouse h := by
  have hfold : s.clockSecond = (s.ticked.freeOrder s.ticked.housesDue).2.forHouses
      (s.ticked.freeOrder s.ticked.housesDue).1 fun h u => u.clockHouse h := rfl
  rw [hfold, State.freeOrder_short _ (by simp [hdue]), hdue]
  rfl

theorem House.alarmDue_of {hs : House} {a : Alarm} (h : hs.alarm = some a) (t : Nat) :
    hs.alarmDue t = decide (a.start = t) := by
  rw [House.alarmDue, h, Bool.eq_iff_iff]
  simp

theorem House.preStrikeDue_of {hs : House} {a : Alarm} (h : hs.alarm = some a) (t : Nat) :
    hs.preStrikeDue t = decide (a.state = .armed ∧ a.pre = t) := by
  rw [House.preStrikeDue, h, Bool.eq_iff_iff]
  simp

theorem House.alarmDue_none {hs : House} (h : hs.alarm = none) (t : Nat) : hs.alarmDue t = false := by
  simp [House.alarmDue, h]

theorem House.preStrikeDue_none {hs : House} (h : hs.alarm = none) (t : Nat) : hs.preStrikeDue t = false := by
  simp [House.preStrikeDue, h]

theorem State.housesDue_eq_nil {t : State} (h : ∀ k a, (t.house k).alarm = some a →
    a.start ≠ t.clock.time ∧ (a.state = .armed → a.pre ≠ t.clock.time)) : t.housesDue = [] := by
  refine List.filter_eq_nil_iff.2 fun k _ => ?_
  cases ha : (t.house k).alarm with
  | none => simp [House.alarmDue_none ha, House.preStrikeDue_none ha]
  | some a =>
    obtain ⟨hstart, hpre⟩ := h k a ha
    simp [House.alarmDue_of ha, House.preStrikeDue_of ha, hstart]
    exact hpre

/-- With one alarm set, its house alone is due, at its time (R75, R76). -/
theorem State.housesDue_one {t : State} {h : HouseId} {a : Alarm} (ha : (t.house h).alarm = some a)
    (alone : ∀ k, k ≠ h → (t.house k).alarm = none)
    (due : a.start = t.clock.time ∨ a.state = .armed ∧ a.pre = t.clock.time) : t.housesDue = [h] := by
  have hp : ∀ k, ((t.house k).preStrikeDue t.clock.time || (t.house k).alarmDue t.clock.time) = decide (k = h) := by
    intro k
    by_cases hk : k = h
    · subst hk
      rw [House.alarmDue_of ha, House.preStrikeDue_of ha]
      simpa using due.symm
    · simp [House.alarmDue_none (alone k hk), House.preStrikeDue_none (alone k hk), hk]
  rw [State.housesDue]
  simp only [hp]
  cases h <;> rfl

end

/-- Settles O37: the second counted reaches no alarm, or the cycle counted reaches no second. -/
theorem clockCountsTheMains : Obligations.ClockCountsTheMains := by
  intro s hz hhz
  have hmains : mainsHertz s.clock.mains = hz := by
    rw [hhz]
    cases s.clock.mains <;> rfl
  have hcycle : exec .mainsCycle s = execMainsCycle s := rfl
  refine ⟨fun hlow => ?_, fun hhigh => ?_, fun hquiet => ?_⟩
  · rw [hcycle, execMainsCycle, hmains, if_pos hlow]
    exact ⟨_, rfl, (s.clock_touches _).settle, rfl⟩
  · rw [hcycle, execMainsCycle, hmains, if_neg (by omega)]
    rfl
  · rw [exec_clockSecond, State.clockSecond_quiet (State.housesDue_eq_nil hquiet)]
    exact ⟨_, rfl, (s.clock_touches _).settle, rfl⟩

/-! ### A pre-strike -/

/-- The house with its pre-strike DONE (R75). -/
def State.preStruck (s : State) (h : HouseId) : State :=
  s.modHouse h fun hs => { hs with alarm := hs.alarm.map fun a => { a with state := .done } }

section
variable {s : State} {h : HouseId} {i : StationId}

/-- A lamp that is not COLD, or may not strike, is not requested (R75). -/
theorem State.firePreStrike_off (off : (s.house h).engine = .ready → ∀ i,
    ((s.house h).queue.head?.bind fun e => e.bound) = some i →
      (s.station i).lamp.state ≠ .cold ∨ ∀ t₀, ¬ StrikeAllowed s i t₀) : s.firePreStrike h = s.preStruck h := by
  unfold State.firePreStrike
  dsimp only
  split
  case isFalse => rfl
  case isTrue hready =>
    split
    case h_2 => rfl
    case h_1 i hhead =>
      split
      case isFalse => rfl
      case isTrue hcold =>
        have hnot := (off hready i hhead).resolve_left (fun hne => hne hcold)
        obtain ⟨c, hc⟩ : ∃ c, (s.preStruck h).strikeRefusal i = some c := by
          refine Option.ne_none_iff_exists'.1 fun hnone => ?_
          obtain ⟨⟨t₀, ha⟩, -⟩ := State.strikeRefusal_eq_none.1 hnone
          exact hnot t₀ ha
        have hrequest := State.requestStrike_cold (s := s.preStruck h) hcold
        rw [hc] at hrequest
        exact congrArg Prod.fst hrequest

theorem State.firePreStrike_on (ready : (s.house h).engine = .ready)
    (head : ((s.house h).queue.head?.bind fun e => e.bound) = some i) (cold : (s.station i).lamp.state = .cold)
    (allowed : ∃ t₀, StrikeAllowed s i t₀) : s.firePreStrike h = (s.preStruck h).takeStrike i := by
  have hnone : (s.preStruck h).strikeRefusal i = none := State.strikeRefusal_eq_none.2 ⟨allowed, cold⟩
  have hrequest := State.requestStrike_cold (s := s.preStruck h) cold
  rw [hnone] at hrequest
  have hfired : s.firePreStrike h = ((s.preStruck h).requestStrike i).1 := by
    simp only [State.firePreStrike, ready, head, cold, if_true] <;> rfl
  rw [hfired, hrequest]

theorem State.firePreStrike_house (s : State) (h k : HouseId) : (s.firePreStrike h).house k = (s.preStruck h).house k := by
  by_cases hon : (s.house h).engine = .ready ∧ ∃ i, ((s.house h).queue.head?.bind fun e => e.bound) = some i ∧
      (s.station i).lamp.state = .cold ∧ ∃ t₀, StrikeAllowed s i t₀
  · obtain ⟨hready, i, hhead, hcold, hallowed⟩ := hon
    rw [State.firePreStrike_on hready hhead hcold hallowed]
    exact (State.takeStrike_touches _ i).house (by simp)
  · rw [State.firePreStrike_off fun hready i hhead => ?_]
    by_cases hcold : (s.station i).lamp.state = .cold
    · exact .inr fun t₀ ha => hon ⟨hready, i, hhead, hcold, t₀, ha⟩
    · exact .inl hcold

end

/-! ### The start alarm -/

/-- The state with the second counted on and the alarm of a house OFF (R76). -/
def State.alarmTaken (s : State) (h : HouseId) : State := s.ticked.modHouse h fun hs => { hs with alarm := none }

section
variable {s : State} {h : HouseId} {a : Alarm} (ha : (s.house h).alarm = some a)
  (alone : ∀ k, k ≠ h → (s.house k).alarm = none)
include ha alone

/-- A start alarm fires with no pre-strike in the same second (R76). -/
theorem State.clockSecond_alarm (hstart : a.start = (s.clock.time + 1) % 86400)
    (hpre : a.state = .armed → a.pre ≠ (s.clock.time + 1) % 86400) : s.clockSecond =
      if (s.house h).engine = .ready then (s.alarmTaken h).eventStart h
      else (s.alarmTaken h).latch (.missedStart h) := by
  have hstrike : (s.ticked.house h).preStrikeDue s.ticked.clock.time = false := by
    rw [House.preStrikeDue_of (hs := s.ticked.house h) ha]
    exact decide_eq_false fun hc => hpre hc.1 hc.2
  have halarm : (s.ticked.house h).alarmDue s.ticked.clock.time = true := by
    rw [House.alarmDue_of (hs := s.ticked.house h) ha]
    exact decide_eq_true hstart
  rw [State.clockSecond_one (State.housesDue_one (t := s.ticked) ha alone (.inl hstart)), State.clockHouse]
  simp only [hstrike, Bool.false_eq_true, if_false, halarm, if_true]
  rfl

/-- A pre-strike fires with no start alarm in the same second (R75). -/
theorem State.clockSecond_preStrike (harmed : a.state = .armed) (hpre : a.pre = (s.clock.time + 1) % 86400)
    (hstart : a.start ≠ (s.clock.time + 1) % 86400) : s.clockSecond = s.ticked.firePreStrike h := by
  have hstrike : (s.ticked.house h).preStrikeDue s.ticked.clock.time = true := by
    rw [House.preStrikeDue_of (hs := s.ticked.house h) ha]
    exact decide_eq_true ⟨harmed, hpre⟩
  have hfired : ((s.ticked.firePreStrike h).house h).alarm = some { a with state := .done } := by
    rw [State.firePreStrike_house, State.preStruck, State.house_modHouse_same]
    exact congrArg (Option.map _) ha
  have halarm : ((s.ticked.firePreStrike h).house h).alarmDue s.ticked.clock.time = false := by
    rw [House.alarmDue_of hfired]
    exact decide_eq_false hstart
  rw [State.clockSecond_one (State.housesDue_one (t := s.ticked) ha alone (.inr ⟨harmed, hpre⟩)), State.clockHouse]
  simp only [hstrike, if_true, halarm, Bool.false_eq_true, if_false]

end

theorem State.alarmTaken_touches (s : State) (h : HouseId) : Touches [.clock, .house h] s (s.alarmTaken h) :=
  ((s.clock_touches _).mono (by simp)).trans ((State.modHouse_touches _ h _).mono (by simp))

theorem State.preStruck_touches (s : State) (h : HouseId) : Touches [.clock, .house h] s (s.ticked.preStruck h) :=
  ((s.clock_touches _).mono (by simp)).trans ((State.modHouse_touches _ h _).mono (by simp))

/-- Settles O38: the one house due is started as by its button, or its pre-strike requests its head lamp. -/
theorem alarmTimesFire : Obligations.AlarmTimesFire := by
  intro s h a now hnow ha alone
  subst hnow
  have hcleared : (s.alarmTaken h).house h = { s.house h with alarm := none } := State.house_modHouse_same _ _ _
  refine ⟨fun hstart hpre hnot => ?missed, fun e i hstart hpre hready hhead hthreaded hbound hport htrip hbooth hlit => ?waits,
    fun hstart hpre hready u hu => ?button, fun harmed hpre hstart => ?preStrike⟩
  case missed =>
    rw [exec_clockSecond, State.clockSecond_alarm ha alone hstart hpre, if_neg hnot]
    have htouch := ((s.alarmTaken_touches h).mono (by simp)).trans
      (((s.alarmTaken h).latch_touches (.missedStart h)).mono (more := [.clock, .house h, .line]) (by simp))
    exact ⟨_, rfl, htouch.settle, hcleared, rfl⟩
  case waits =>
    rw [exec_clockSecond, State.clockSecond_alarm ha alone hstart hpre, if_pos hready]
    have hstartable : ((s.alarmTaken h).house h).engine.startable = true := by
      rw [hcleared]
      exact EngineState.startable_iff.2 (by rw [hready]; simp)
    have hgo : (s.alarmTaken h).goCheck h = .ok i := by
      have hthread : ((s.alarmTaken h).house h).threadedHead = some i := by
        rw [hcleared]
        exact (House.threadedHead_of (hs := { s.house h with alarm := none }) hhead hthreaded).trans hbound
      have huntripped : (s.alarmTaken h).tripped i = false :=
        (show (s.alarmTaken h).tripped i = s.tripped i from rfl).trans (by simp [State.tripped, htrip, hbooth])
      rw [State.goCheck_startable hstartable, hthread, hcleared]
      simp [hport, huntripped]
    rw [State.eventStart_ok hstartable hgo, State.startSequence_waits (s := s.alarmTaken h) hlit]
    have htouch := (s.alarmTaken_touches h).trans
      (((s.alarmTaken h).modHouse_touches h fun hs => { hs.atStart with lampWait := true }).mono
        (more := [.clock, .house h]) (by simp))
    refine ⟨_, rfl, htouch.settle, ?_⟩
    rw [State.settle_house, State.house_modHouse_same, hcleared]
    rfl
  case button =>
    subst hu
    have hengine : ((s.alarmTaken h).house h).engine ≠ .motorCued := by
      rw [hcleared]
      exact hready ▸ nofun
    have hbutton := exec_cbClosing_start hengine
    rw [exec_clockSecond, State.clockSecond_alarm ha alone hstart hpre, if_pos hready]
    exact hbutton.symm
  case preStrike =>
    rw [exec_clockSecond, State.clockSecond_preStrike ha alone harmed hpre hstart]
    refine ⟨_, rfl, ?_, fun hnot => ?_, fun i hready hhead => ⟨fun hoff => ?_, fun t₀ hcold hallowed => ?_⟩⟩
    · rw [State.settle_house, State.firePreStrike_house, State.preStruck, State.house_modHouse_same]
      exact congrArg (fun x => { s.house h with alarm := Option.map (fun a : Alarm => { a with state := .done }) x }) ha
    · rw [State.firePreStrike_off (s := s.ticked) fun hready => absurd hready hnot]
      exact (s.preStruck_touches h).settle
    · rw [State.firePreStrike_off (s := s.ticked) fun _ j hj => ?_]
      · exact (s.preStruck_touches h).settle
      · cases hhead.symm.trans hj
        exact hoff
    · rw [State.firePreStrike_on (s := s.ticked) hready hhead hcold ⟨t₀, hallowed⟩]
      have htaken := State.takeStrike_touches (s.ticked.preStruck h) i
      refine ⟨struckAs_of_takeStrike (v := s.ticked.preStruck h) (fun _ => rfl) rfl hallowed hcold (fun _ => rfl) rfl,
        fun k hk => ?_, htaken.fire (by simp), htaken.line (by simp), htaken.draws (by simp)⟩
      rw [State.settle_house, htaken.house (by simp), (s.preStruck_touches h).house (by simp [hk])]

end Sys2Proof.Machine

/-!
Where the reel on screen and the reel behind it stand in a running order that keeps its invariant (R35, R36, R43), what the
changes of an order make of an entry at its place, and when a reel has no cue and no tail due (R28, R50).
-/

namespace Sys2Proof.Machine

/-! ### Entries by their places -/

section
variable {q : List Entry} {k : Nat} {x : Entry} (order : QueueOk q) (at_ : q[k]? = some x)
include order at_

/-- A bound entry stands at position 1 or 2 (R36). -/
theorem QueueOk.bound_front (bound : x.bound.isSome = true) : k ≤ 1 := by
  obtain ⟨-, waits, -⟩ := (queueOk_iff q).1 order
  by_contra hk
  have hmem : x ∈ q.drop 2 := List.mem_of_getElem? (i := k - 2) (by
    rw [List.getElem?_drop, show 2 + (k - 2) = k by omega, at_])
  rw [waits x hmem] at bound
  cases bound

/-- No two places hold the entries of one station (R36). -/
theorem QueueOk.place_of_bound {i : StationId} (bound : x.bound = some i) {j : Nat} {e : Entry} (he : q[j]? = some e)
    (be : e.bound = some i) : j = k := by
  have hk := order.bound_front at_ (by rw [bound]; rfl)
  have hj := order.bound_front he (by rw [be]; rfl)
  rcases q with _ | ⟨a, _ | ⟨b, rest⟩⟩
  · simp at at_
  · have hk0 := List.getElem?_eq_some_iff.1 at_ |>.1
    have hj0 := List.getElem?_eq_some_iff.1 he |>.1
    simp only [List.length_singleton] at hk0 hj0
    omega
  · obtain ⟨⟨-, -, apart, -⟩, -⟩ := order
    have hcases : (k = 0 ∨ k = 1) ∧ (j = 0 ∨ j = 1) := by omega
    obtain ⟨rfl | rfl, rfl | rfl⟩ := hcases
    · rfl
    · cases at_
      cases he
      exact absurd be (apart i bound)
    · cases at_
      cases he
      exact absurd bound (apart i be)
    · rfl

/-- The entry of a station at its place takes a status (R35). -/
theorem QueueOk.setStatus_at {i : StationId} (bound : x.bound = some i) (st : EntryStatus) :
    setStatus q i st = q.set k { x with status := st } := by
  have hin := (List.getElem?_eq_some_iff.1 at_).1
  refine List.ext_getElem? fun j => ?_
  rw [setStatus, List.getElem?_map, List.getElem?_set]
  by_cases hj : k = j
  · subst hj
    rw [if_pos rfl, if_pos hin, at_, Option.map_some, if_pos bound]
  · rw [if_neg hj]
    cases he : q[j]? with
    | none => rfl
    | some e =>
      rw [Option.map_some, if_neg fun be => hj (order.place_of_bound at_ bound he be).symm]

/-- The entry of a station at its place leaves (R24, R40). -/
theorem QueueOk.dropEntry_at {i : StationId} (bound : x.bound = some i) : Machine.dropEntry q i = q.eraseIdx k := by
  have hplace : q.findIdx? (fun e => e.bound == some i) = some k := by
    refine List.findIdx?_eq_some_iff_getElem.2 ?_
    obtain ⟨hk, hx⟩ := List.getElem?_eq_some_iff.1 at_
    refine ⟨hk, by simp [hx, bound], fun j hj be => ?_⟩
    have hjk : j = k := order.place_of_bound at_ bound (List.getElem?_eq_getElem (by omega)) (by simpa using be)
    omega
  rw [Machine.dropEntry, List.eraseP_eq_eraseIdx, hplace]

theorem QueueOk.place_of_playing (playing : x.status = .playing) {j : Nat} {e : Entry} (he : q[j]? = some e)
    (pe : e.status = .playing) : j = k := by
  have hsame := order.playing_inj (List.mem_of_getElem? he) (List.mem_of_getElem? at_) pe playing
  have hsome : x.bound.isSome = true := (order.entry (List.mem_of_getElem? at_)).2 (by rw [playing]; nofun)
  obtain ⟨i, hi⟩ := Option.isSome_iff_exists.1 hsome
  exact order.place_of_bound at_ hi he (hsame ▸ hi)

theorem QueueOk.playingIndex_at (playing : x.status = .playing) : playingIndex q = some k := by
  refine List.findIdx?_eq_some_iff_getElem.2 ?_
  obtain ⟨hk, hx⟩ := List.getElem?_eq_some_iff.1 at_
  refine ⟨hk, by simp [hx, playing], fun j hj pe => ?_⟩
  have hjk : j = k := order.place_of_playing at_ playing (List.getElem?_eq_getElem (by omega)) (by simpa using pe)
  omega

theorem QueueOk.find_playing (playing : x.status = .playing) :
    (q.find? fun e => e.status == .playing) = some x := by
  have hplace := order.playingIndex_at at_ playing
  rw [playingIndex, List.findIdx?_eq_map_findFinIdx?_val] at hplace
  cases hf : q.find? fun e => e.status == .playing with
  | none => exact absurd (List.find?_eq_none.1 hf x (List.mem_of_getElem? at_)) (by simp [playing])
  | some e =>
    have he : e.status = .playing := by simpa using List.find?_some hf
    rw [order.playing_inj (List.mem_of_find?_eq_some hf) (List.mem_of_getElem? at_) he playing]

end

/-! ### A bound entry of a house -/

section
variable {s : State} (inv : OrderInv s) {h : HouseId} {k : Nat} {x : Entry} {i : StationId}
  (at_ : (s.house h).queue[k]? = some x) (bound : x.bound = some i)
include inv

theorem OrderInv.order (h : HouseId) : QueueOk (s.house h).queue := (((orderInv_iff s).1 inv).1 h).queue

include at_ bound

theorem OrderInv.bindable : s.bindable h i :=
  (((orderInv_iff s).1 inv).2).1 h i (mem_boundStations.2 ⟨x, List.mem_of_getElem? at_, bound⟩)

theorem OrderInv.own : (s.station i).house = h := (inv.bindable at_ bound).1

theorem OrderInv.boundEntry : s.boundEntry i = some x := by
  rw [State.boundEntry, inv.own at_ bound]
  exact (inv.order h).entryOf_eq (List.mem_of_getElem? at_) bound

end

section
variable {s : State} (inv : OrderInv s) {h : HouseId} {k : Nat} {x : Entry} (at_ : (s.house h).queue[k]? = some x)
  (playing : x.status = .playing)
include inv at_ playing

/-- With an entry PLAYING a picture is on the screen (R35). -/
theorem OrderInv.showing : (s.house h).engine.showing = true :=
  (((orderInv_iff s).1 inv).1 h).plays.1 ⟨x, List.mem_of_getElem? at_, playing⟩

theorem OrderInv.playing_at : (s.house h).playing = some x := (inv.order h).find_playing at_ playing

theorem OrderInv.next_at : (s.house h).next = (s.house h).queue[k + 1]? := by
  rw [House.next, (inv.order h).playingIndex_at at_ playing]
  rfl

theorem OrderInv.onScreen_at : (s.house h).onScreen = x.bound := by
  rw [House.onScreen, if_pos (inv.showing at_ playing), inv.playing_at at_ playing]
  rfl

theorem OrderInv.not_starting : (s.house h).startStation = none := by
  have hshowing := inv.showing at_ playing
  unfold House.startStation
  cases he : (s.house h).engine <;> simp [he, EngineState.showing] at hshowing ⊢

end

/-! ### A reel whose cues and tail lie ahead -/

section
variable {s : State} {h : HouseId}

/-- With no frame reached no cue is taken (R50). -/
theorem State.takeCues_zero (start : State → State) (s : State) (h : HouseId) : s.takeCues start h 0 = s := by
  simp [State.takeCues]

theorem Entry.ahead_footage {e : Entry} {lead counter : Nat} (ahead : e.ahead lead counter) :
    footageLevel e lead counter = 0 := by
  obtain ⟨hmotor, hchange, -⟩ := ahead
  have hstrike : ¬ strikeFrame e.motor lead ≤ counter := by
    unfold strikeFrame
    omega
  simp [footageLevel, hstrike, show ¬ e.motor ≤ counter by omega, show ¬ e.change ≤ counter by omega]

theorem State.footage_eq {e : Entry} {i : StationId} (playing : (s.house h).playing = some e)
    (screen : (s.house h).onScreen = some i) :
    s.footage h = footageLevel e (s.house h).settings.lead (s.station i).counter := by
  simp [State.footage, playing, screen]

/-- A reel that begins with its cues and its tail ahead only plays (R48, R55). -/
theorem State.testReel_ahead {e : Entry} {i : StationId} (playing : (s.house h).playing = some e)
    (screen : (s.house h).onScreen = some i) (bound : s.boundEntry i = some e)
    (ahead : e.ahead (s.house h).settings.lead (s.station i).counter) : s.testReel h = s := by
  have hfootage : s.footage h = 0 := (State.footage_eq playing screen).trans (Entry.ahead_footage ahead)
  have htail : s.atTail i = false := by
    obtain ⟨-, -, hlength⟩ := ahead
    simp [State.atTail, bound, hlength]
  rw [State.testReel, State.beginReel, hfootage, State.takeCues_zero]
  simp [screen, htail]

end

/-! ### The pulse of a bound station -/

/-- A bound station as a FORWARD pulse leaves it at speed (R7, R9). -/
def Station.counted (st : Station) : Station :=
  { st with counter := st.counter + 1, counterMode := .forward, stallTimer := true }

/-- The state with the pulse of a station at speed counted. -/
def State.counted (s : State) (i : StationId) : State := s.modStation i Station.counted

theorem State.counted_touches (s : State) (i : StationId) : Touches [.station i] s (s.counted i) := s.modStation_touches i _

@[simp] theorem State.station_counted_same (s : State) (i : StationId) :
    (s.counted i).station i = (s.station i).counted := s.station_modStation_same i _

theorem State.station_counted_other {s : State} {i j : StationId} (h : j ≠ i) : (s.counted i).station j = s.station j :=
  (s.counted_touches i).station (by simp [h])

@[simp] theorem State.counted_house (s : State) (i : StationId) (k : HouseId) : (s.counted i).house k = s.house k := rfl

/-- The mode of a house follows from assignments and trims alone (R4). -/
theorem State.mode_counted (s : State) (i : StationId) (h : HouseId) : (s.counted i).mode h = s.mode h := by
  refine State.mode_congr h (fun j => ?_) fun j => ?_ <;> by_cases hj : j = i
  · rw [hj, State.station_counted_same]
    rfl
  · rw [State.station_counted_other hj]
  · rw [hj, State.station_counted_same]
    rfl
  · rw [State.station_counted_other hj]

section
variable {s : State} {i : StationId} {e : Entry} (bound : s.boundEntry i = some e)
include bound

/-- The engine hears nothing of a motor that was at speed already (R47). -/
theorem State.pulseHeard_atSpeed (interval : Nat) (motor : (s.station i).motor = .atSpeed)
    (low : (s.station i).counter + 1 ≤ 99999) : s.pulseHeard i .forward interval = s.counted i := by
  have hstation : (s.station i).pulsed (s.boundEntry i).isSome .forward interval = (s.station i).counted := by
    rw [bound]
    simp [Station.pulsed, Station.countPulse, Station.motorPulse, Station.counted, motor, low]
  have hpulsed : s.pulsed i .forward interval = s.counted i := congrArg (fun st => s.modStation i fun _ => st) hstation
  unfold State.pulseHeard
  simp [motor, hpulsed]

/-- The pulse of a bound station keeps the invariant of the bindings: its counter ran already. -/
theorem OrderInv.counted (inv : OrderInv s) : OrderInv (s.counted i) := by
  refine inv.modStation i _ ⟨rfl, rfl, rfl, ?_⟩
  have hforward : (s.station i).counterMode ≠ .hold := fun hhold => by
    rw [(((orderInv_iff s).1 inv).2.2 i).1 hhold] at bound
    cases bound
  simp [Station.counted, hforward]

/-- A FORWARD pulse at speed short of the tail is counted, and the engine's tests are made (R9, R48, R50). -/
theorem exec_tachPulse_short (interval : Nat) (motor : (s.station i).motor = .atSpeed) (long : e.length ≤ 99999)
    (short : (s.station i).counter + 1 < e.length) :
    exec (.tachPulse i .forward interval) s = done ((s.counted i).pulseTests i) := by
  have hno : ¬ ((s.station i).counter < e.length && (s.station i).counter + 1 = e.length) = true := by simp; omega
  rw [exec_tachPulse_forward interval bound, State.pulseHeard_atSpeed bound interval motor (by omega), if_neg hno]

/-- The FORWARD pulse that comes to the reel's length reports the tail after the engine's tests (R10). -/
theorem exec_tachPulse_tail (interval : Nat) (motor : (s.station i).motor = .atSpeed) (long : e.length ≤ 99999)
    (reached : (s.station i).counter + 1 = e.length) :
    exec (.tachPulse i .forward interval) s = done (((s.counted i).pulseTests i).tail i) := by
  have hyes : ((s.station i).counter < e.length && (s.station i).counter + 1 = e.length) = true := by simp; omega
  rw [exec_tachPulse_forward interval bound, State.pulseHeard_atSpeed bound interval motor (by omega), if_pos hyes]

end

end Sys2Proof.Machine

/-!
From RUNUP by LEADER to the picture (R46 to R48).
-/

namespace Sys2Proof.Machine

/-! ### The steps of a start -/

section
variable {s : State} {h : HouseId} {i : StationId} {e : Entry}

/-- A head lamp that burns passes LAMP-WAIT by in the event of the start (R46). -/
theorem State.startSequence_burns (lit : (s.station i).lamp.state = .burn) :
    s.startSequence h i = (s.atStart h).runUpStep h i := by
  have hlit : ((s.atStart h).station i).lamp.state = .burn := lit
  rw [State.startSequence_eq, State.lampWaitStep, hlit]

/-- The house passes to LEADER (R47). -/
def State.atLeader (s : State) (h : HouseId) : State := s.modHouse h fun hs => { hs with step := some .leader }

theorem State.leaderTest_waits (head : (s.house h).queue.head? = some e) (early : (s.station i).counter < e.first) :
    s.leaderTest h i = s := by
  simp [State.leaderTest, head, early]

theorem State.leaderTest_picture (head : (s.house h).queue.head? = some e) (reached : e.first ≤ (s.station i).counter) :
    s.leaderTest h i = s.picture h i := by
  simp [State.leaderTest, head, reached]

theorem State.leaderStep_waits (head : (s.house h).queue.head? = some e) (early : (s.station i).counter < e.first) :
    s.leaderStep h i = s.atLeader h := by
  refine State.leaderTest_waits (s := s.atLeader h) ?_ early
  rw [State.atLeader, State.house_modHouse_same]
  exact head

/-! ### The picture -/

/-- The state in which the head's reel has taken the screen (R48). -/
def State.pictured (s : State) (h : HouseId) (i : StationId) : State :=
  ((s.takeScreen i).action h ((s.house h).queue.head?.bind (·.pi))).modHouse h fun hs =>
    { hs with engine := .playing, step := none, lampWait := false, regime := (s.mode h).regime
              queue := setStatus hs.queue i .playing }

theorem State.picture_eq : s.picture h i = (s.pictured h i).testReel h := rfl

theorem HouseMode.regime_eq (m : HouseMode) : m.regime = match m with
    | .changeover => some .changeover
    | .single => some .single
    | .unused => none := by cases m <;> rfl

/-- A reel takes the screen at an untripped station: the demand OPEN, the shutter open, the mark CLEAR (R12, R48, R134). -/
theorem State.station_takeScreen (trip : (s.station i).trip = none) (booth : s.fire.booth = none) :
    (s.takeScreen i).station i = { s.station i with
      demandOpen := true, csOpen := true, carbon := { (s.station i).carbon with mark := .clear } } := by
  have huntripped : ((s.modCarbon i fun c => { c with mark := .clear }).openDemand i).tripped i = false := by
    have hsame : (((s.modCarbon i fun c => { c with mark := .clear }).openDemand i).station i).trip = none := by
      rw [State.openDemand, State.station_modStation_same, State.modCarbon, State.station_modStation_same]
      exact trip
    have hfire : ((s.modCarbon i fun c => { c with mark := .clear }).openDemand i).fire = s.fire := rfl
    simp [State.tripped, hsame, hfire, booth]
  rw [State.takeScreen, State.openShutter_eq, huntripped]
  simp [State.openDemand, State.modCarbon]

theorem State.pictured_touches (s : State) (h : HouseId) (i : StationId) :
    Touches [.house h, .station i] s (s.pictured h i) :=
  (((s.takeScreen_touches i).mono (by simp)).trans ((State.action_touches _ h _).mono (by simp))).trans
    ((State.modHouse_touches _ h _).mono (by simp))

theorem State.station_pictured (trip : (s.station i).trip = none) (booth : s.fire.booth = none) :
    (s.pictured h i).station i = { s.station i with
      demandOpen := true, csOpen := true, carbon := { (s.station i).carbon with mark := .clear } } := by
  rw [State.pictured, State.modHouse_station, State.action_station, State.station_takeScreen trip booth]

theorem State.house_pictured (head : (s.house h).queue.head? = some e) (taken : e.asTaken) :
    (s.pictured h i).house h = { s.house h with
      engine := .playing, step := none, lampWait := false, regime := (s.mode h).regime
      queue := setStatus (s.house h).queue i .playing, light := (s.house h).light.acted e.pi } := by
  have hpi : (s.house h).queue.head?.bind (·.pi) = e.pi := by rw [head]; rfl
  obtain ⟨-, -, -, -, -, -, -, hactions⟩ := taken
  have hscreen : (s.takeScreen i).house h = s.house h := (s.takeScreen_touches i).house (by simp)
  rw [State.pictured, State.house_modHouse_same, hpi, State.house_action (hactions e.pi (by simp)), hscreen]

end

section
variable {s : State} {h : HouseId} {i : StationId} {e : Entry} {q : List Entry}

/-- The head of a STARTING house becomes the PLAYING entry (R35, R48). -/
theorem State.pictured_queue (inv : OrderInv s) (queue : (s.house h).queue = e :: q) (bound : e.bound = some i) :
    setStatus (s.house h).queue i .playing = { e with status := .playing } :: q := by
  rw [(inv.order h).setStatus_at (k := 0) (by rw [queue]; rfl) bound, queue]
  rfl

/-- A picture whose cues and tail lie ahead brings nothing with it (R48). -/
theorem State.picture_ahead (inv : OrderInv s) (queue : (s.house h).queue = e :: q) (bound : e.bound = some i)
    (taken : e.asTaken) (trip : (s.station i).trip = none) (booth : s.fire.booth = none)
    (ahead : e.ahead (s.house h).settings.lead (s.station i).counter) : s.picture h i = s.pictured h i := by
  have hhead : (s.house h).queue.head? = some e := by rw [queue]; rfl
  have hown : (s.station i).house = h := inv.own (k := 0) (by rw [queue]; rfl) bound
  have hhouse := State.house_pictured (i := i) hhead taken
  rw [State.pictured_queue inv queue bound] at hhouse
  have hstation := State.station_pictured (h := h) trip booth
  rw [State.picture_eq]
  refine State.testReel_ahead (e := { e with status := .playing }) (i := i) ?_ ?_ ?_ ?_
  · rw [hhouse]
    exact List.find?_cons_of_pos rfl
  · rw [hhouse]
    simp [House.onScreen, House.playing, EngineState.showing, bound]
  · rw [State.boundEntry, hstation, hown, hhouse]
    exact List.find?_cons_of_pos (by simp [bound])
  · rw [hhouse, hstation]
    exact ahead

end

/-! ### The pulse of a station that starts a show -/

section
variable {s : State} {h : HouseId} {i : StationId} {e : Entry} {q : List Entry}

theorem State.pulseTests_start (own : (s.station i).house = h) (start : (s.house h).startStation = some i) :
    s.pulseTests i = if (s.house h).step = some .leader then s.leaderTest h i else s := by
  simp only [State.pulseTests, own, start, if_true]

theorem House.startStation_of {hs : House} (engine : hs.engine = .starting) (queue : hs.queue = e :: q)
    (bound : e.bound = some i) : hs.startStation = some i := by
  rw [House.startStation, if_pos engine, queue]
  exact bound

end

/-- A start whose head lamp burns runs the motor up, and passes to LEADER where it is at speed already (R46, R47). -/
theorem State.startSequence_runsUp {s : State} {h : HouseId} {i : StationId} {e : Entry}
    (head : (s.house h).queue.head? = some e) (allowed : StartAllowed s i) (fb : (s.station i).fb = .closed)
    (lit : (s.station i).lamp.state = .burn) (early : (s.station i).motor = .atSpeed → (s.station i).counter < e.first)
    (taken : e.asTaken) : Touches [.house h, .station i] s (s.startSequence h i) ∧
      (s.startSequence h i).station i = (s.station i).started ∧
      (s.startSequence h i).house h = { (s.house h).atStart with
        step := if (s.station i).motor = .atSpeed then some .leader else some .runUp
        lampWait := false, light := (s.house h).light.acted e.ms } := by
  have hstart : (s.atStart h).house h = (s.house h).atStart := State.house_modHouse_same _ _ _
  have hhead : ((s.atStart h).house h).queue.head? = some e := by rw [hstart]; exact head
  have hengine : ((s.atStart h).house h).engine = .starting := by rw [hstart]; rfl
  have hstation := (s.atStart h).station_runningUp h i
  have hhouse := State.house_runningUp (i := i) hhead taken
  have htouch : Touches [.house h, .station i] s ((s.atStart h).runningUp h i) :=
    ((s.modHouse_touches h _).mono (by simp)).trans ((s.atStart h).runningUp_touches h i)
  rw [State.startSequence_burns lit, State.runUpStep_taken (s := s.atStart h) allowed fb]
  by_cases hspeed : (s.station i).motor = .atSpeed
  · have hcounter : (((s.atStart h).runningUp h i).station i).counter < e.first := by
      rw [hstation]
      have hsame : (s.station i).started.counter = (s.station i).counter := by simp [Station.started, hspeed]
      exact hsame ▸ early hspeed
    have hleads : (((s.atStart h).runningUp h i).house h).queue.head? = some e := by rw [hhouse, hstart]; exact head
    rw [if_pos ⟨hengine, Station.startMotor_atSpeed.2 hspeed⟩, State.leaderStep_waits hleads hcounter, if_pos hspeed]
    refine ⟨htouch.trans ((State.modHouse_touches _ h _).mono (by simp)), hstation, ?_⟩
    rw [State.atLeader, State.house_modHouse_same, hhouse, hstart]
    rfl
  · rw [if_neg fun hc => hspeed (Station.startMotor_atSpeed.1 hc.2), if_neg hspeed]
    refine ⟨htouch, hstation, ?_⟩
    rw [hhouse, hstart]
    rfl

/-- The station whose twelfth interval brings it to speed, its counter moved on (R6, R9). -/
def Station.broughtToSpeed (st : Station) : Station :=
  { st with
    counter := st.counter + 1, counterMode := .forward, runUpCount := 12, motor := .atSpeed, runUpTimer := false
    stallTimer := true }

/-- The pulse that brings a start-sequence station to speed passes RUNUP to LEADER (R47). -/
theorem State.pulseHeard_leader {s : State} {h : HouseId} {i : StationId} {e : Entry} {interval : Nat}
    (own : (s.station i).house = h) (start : (s.house h).startStation = some i) (step : (s.house h).step = some .runUp)
    (head : (s.house h).queue.head? = some e) (bound : s.boundEntry i = some e) (motor : (s.station i).motor = .runUp)
    (opened : (s.station i).intervalOpen = true) (count : (s.station i).runUpCount = 11) (short : interval ≤ 46)
    (low : (s.station i).counter + 1 ≤ 99999) (early : (s.station i).counter + 1 < e.first) :
    s.pulseHeard i .forward interval = (s.modStation i Station.broughtToSpeed).atLeader h := by
  have hstation : (s.station i).pulsed (s.boundEntry i).isSome .forward interval = (s.station i).broughtToSpeed := by
    rw [bound]
    simp [Station.pulsed, Station.countPulse, Station.motorPulse, Station.broughtToSpeed, motor, opened, count, low,
      show ¬ 46 < interval by omega]
  have hpulsed : s.pulsed i .forward interval = s.modStation i Station.broughtToSpeed :=
    congrArg (fun st => s.modStation i fun _ => st) hstation
  have hreached : (s.modStation i Station.broughtToSpeed).station i = (s.station i).broughtToSpeed :=
    s.station_modStation_same i _
  have hleads : (s.modStation i Station.broughtToSpeed).leaderStep h i =
      (s.modStation i Station.broughtToSpeed).atLeader h :=
    State.leaderStep_waits (s := s.modStation i Station.broughtToSpeed) head (by rw [hreached]; exact early)
  have hheard : (s.modStation i Station.broughtToSpeed).engineAtSpeed i =
      (s.modStation i Station.broughtToSpeed).atLeader h := by
    have hown : ((s.modStation i Station.broughtToSpeed).station i).house = h := by rw [hreached]; exact own
    simp only [State.engineAtSpeed, hown, State.modStation_house, start, step, hleads, decide_true, Bool.and_self, if_true]
  rw [State.pulseHeard, hpulsed]
  simp only [hreached, motor, hheard]
  rfl

section
variable {s : State} {h : HouseId} {i : StationId} {e : Entry} (own : (s.station i).house = h)
  (start : (s.house h).startStation = some i) (head : (s.house h).queue.head? = some e)
include own start head

/-- A pulse before the first picture brings nothing at LEADER (R48). -/
theorem State.pulseTests_early (early : (s.station i).counter < e.first) : s.pulseTests i = s := by
  rw [State.pulseTests_start own start, State.leaderTest_waits head early, ite_self]

/-- The pulse that reaches the first picture takes it (R48). -/
theorem State.pulseTests_picture (step : (s.house h).step = some .leader) (reached : e.first ≤ (s.station i).counter) :
    s.pulseTests i = s.picture h i := by
  rw [State.pulseTests_start own start, if_pos step, State.leaderTest_picture head reached]

end

/-- Settles O28: the start with a burning lamp, and the two pulses that take it on. -/
theorem startWithBurningLampRunsUp : Obligations.StartWithBurningLampRunsUp := by
  refine ⟨fun s h e i hfree he hhead hthreaded hbound hport hallowed hfb hlit hearly htaken => ?go,
    fun s h e i interval q hengine hqueue hbound inv n hn hlength htaken => ?pulse⟩
  case go =>
    obtain ⟨-, -, htrip, hbooth, -⟩ := id hallowed
    have hgo : s.goCheck h = .ok i := by
      rw [State.goCheck_startable (EngineState.startable_iff.2 he), House.threadedHead_of hhead hthreaded, hbound]
      simp [hport, State.tripped, htrip, hbooth]
    obtain ⟨htouch, hstation, hhouse⟩ := State.startSequence_runsUp hhead hallowed hfb hlit hearly htaken
    obtain ⟨hexec, honly⟩ := exec_of_touches (parts := [.house h, .station i, .line]) rfl hfree (answerGo_taken hgo)
      (htouch.mono (by simp)) (by simp)
    exact ⟨_, hexec, answered_of_line (htouch.line (by simp)) .ok, honly, hstation, hhouse⟩
  case pulse =>
    subst hn
    have hat : (s.house h).queue[0]? = some e := by rw [hqueue]; rfl
    have hhead : (s.house h).queue.head? = some e := by rw [hqueue]; rfl
    have hown := inv.own hat hbound
    have hentry := inv.boundEntry hat hbound
    have hstart := House.startStation_of hengine hqueue hbound
    obtain ⟨-, -, hlong, -⟩ := id htaken
    refine ⟨fun hstep hmotor hopen hcount hinterval hearly => ?_, fun hstep hmotor => ?_⟩
    · have htouch : Touches [.house h, .station i] s ((s.modStation i Station.broughtToSpeed).atLeader h) :=
        ((s.modStation_touches i _).mono (by simp)).trans ((State.modHouse_touches _ h _).mono (by simp))
      have hstation : ((s.modStation i Station.broughtToSpeed).atLeader h).station i = (s.station i).broughtToSpeed :=
        s.station_modStation_same i _
      have hhouse : ((s.modStation i Station.broughtToSpeed).atLeader h).house h =
          { s.house h with step := some .leader } := State.house_modHouse_same _ _ _
      have htests := State.pulseTests_early (s := (s.modStation i Station.broughtToSpeed).atLeader h) (i := i) (h := h)
        (e := e) (by rw [hstation]; exact hown) (by rw [hhouse]; exact hstart) (by rw [hhouse]; exact hhead)
        (by rw [hstation]; exact hearly)
      have hexec := exec_tachPulse_forward interval hentry
      rw [State.pulseHeard_leader hown hstart hstep hhead hentry hmotor hopen hcount hinterval (by omega) hearly,
        htests, if_neg (by simp; omega)] at hexec
      exact ⟨_, hexec, htouch.settle, hstation, hhouse⟩
    · have hexec := exec_tachPulse_short hentry interval hmotor hlong hlength
      have hstation := s.station_counted_same i
      have hcounted := OrderInv.counted hentry inv
      have hown' : ((s.counted i).station i).house = h := by rw [hstation]; exact hown
      refine ⟨_, hexec, fun hearly => ?_, fun hreached hahead htrip hbooth => ?_⟩
      · rw [State.pulseTests_early hown' hstart hhead (by rw [hstation]; exact hearly)]
        exact ⟨(s.counted_touches i).settle, hstation⟩
      · have htrip' : ((s.counted i).station i).trip = none := by rw [hstation]; exact htrip
        rw [State.pulseTests_picture hown' hstart hhead hstep (by rw [hstation]; exact hreached),
          State.picture_ahead hcounted hqueue hbound htaken htrip' hbooth (by rw [hstation]; exact hahead)]
        refine ⟨(((s.counted_touches i).mono (by simp)).trans ((s.counted i).pictured_touches h i)).settle, ?_, ?_⟩
        · rw [State.settle_station, State.station_pictured htrip' hbooth, hstation]
          rfl
        · rw [State.settle_house, State.house_pictured (s := s.counted i) hhead htaken,
            State.pictured_queue (s := s.counted i) hcounted hqueue hbound, State.mode_counted, HouseMode.regime_eq]
          rfl

end Sys2Proof.Machine

/-!
How a show ends by EN (R60): the stations of the house closed down, the RUN-OUT entry gone, the hold level faded to.
-/

namespace Sys2Proof.Machine

/-! ### A station closed down -/

/-- A station with its motor stopped, its demand and shutter closed and its lamp put out (R58 to R60). -/
def Station.closedDown (st : Station) : Station :=
  { st.extinguished with
    motor := st.stopped.motor, runUpTimer := st.stopped.runUpTimer, stallTimer := st.stopped.stallTimer
    stopTimer := st.stopped.stopTimer, demandOpen := false, csOpen := false }

theorem Station.closedDown_eq (st : Station) :
    (({ st with demandOpen := false, csOpen := false } : Station).stopped).extinguished = st.closedDown := by
  unfold Station.closedDown Station.extinguished
  rw [Station.stopped_eq]
  by_cases hout : st.lamp.state.out = true <;> cases hm : st.motor <;> simp [hout, hm, Station.stopped]

theorem Station.closedDown_house (st : Station) : st.closedDown.house = st.house := by
  unfold Station.closedDown Station.extinguished
  split <;> rfl

theorem State.station_closeDown (s : State) (i j : StationId) :
    (s.closeDown i).station j = if j = i then (s.station i).closedDown else s.station j := by
  by_cases hj : j = i
  · subst hj
    rw [State.closeDown, State.station_extinguish_same, State.station_stopMotor_same, State.station_darken, if_pos rfl,
      if_pos rfl, Station.closedDown_eq]
  · rw [if_neg hj, (s.closeDown_touches i).station (by simp [hj])]

theorem State.closeDown_arbiter (s : State) (i : StationId) :
    (s.closeDown i).arbiter = s.arbiter.without i (s.station i).lamp.state := by
  have hlamp : (((s.darken i).stopMotor i).station i).lamp = (s.station i).lamp := by
    rw [State.station_stopMotor_same, State.station_darken, if_pos rfl]
    exact (Station.stopped_arc _).1
  rw [State.closeDown, State.extinguish_arbiter, hlamp]
  rfl

/-! ### One operation at each station of a list -/

/-- An operation that changes its own station alone, done once at each station of a list. -/
theorem State.station_forStations {f : StationId → State → State} {g : Station → Station}
    (one : ∀ i (t : State) j, (f i t).station j = if j = i then g (t.station i) else t.station j)
    {l : List StationId} (once : l.Nodup) (s : State) (j : StationId) :
    (s.forStations l f).station j = if j ∈ l then g (s.station j) else s.station j := by
  induction l generalizing s with
  | nil => exact (if_neg List.not_mem_nil).symm
  | cons i l ih =>
    obtain ⟨hi, hl⟩ := List.nodup_cons.1 once
    have hstep : s.forStations (i :: l) f = (f i s).forStations l f := rfl
    rw [hstep, ih hl, one]
    by_cases hj : j = i
    · subst hj
      simp [hi]
    · simp [hj]

theorem State.stationsOf_nodup (s : State) (h : HouseId) : (s.stationsOf h).Nodup :=
  List.Nodup.filter _ (by decide)

theorem State.forStations_touches {f : StationId → State → State} {parts : List Part} (l : List StationId)
    (one : ∀ i ∈ l, ∀ t : State, Touches parts t (f i t)) (s : State) : Touches parts s (s.forStations l f) := by
  induction l generalizing s with
  | nil => exact .refl _ s
  | cons i l ih =>
    exact (one i List.mem_cons_self s).trans (ih (fun j hj => one j (List.mem_cons_of_mem i hj)) (f i s))

/-! ### RUN-OUT entries leave -/

/-- A running order has at most one RUN-OUT entry, and its leaving leaves the others (R35, R40). -/
theorem QueueOk.dropEntry_runOut {q : List Entry} (order : QueueOk q) {e : Entry} {i : StationId} (he : e ∈ q)
    (bound : e.bound = some i) (out : e.status = .runOut) :
    Machine.dropEntry q i = q.filter fun x => x.status ≠ .runOut := by
  obtain ⟨l, rfl⟩ := order.runOut_head he out
  have hothers : ∀ x ∈ l, x.status ≠ .runOut := by
    obtain ⟨-, -, -, stays, -⟩ := (queueOk_iff _).1 order
    exact fun x hx => stays x hx
  rw [Machine.dropEntry, List.eraseP_cons_of_pos (by simp [bound]), List.filter_cons_of_neg (by simp [out]),
    List.filter_eq_self.2 fun x hx => decide_eq_true (hothers x hx)]

theorem State.dropRunOut_of_none {s : State} {i : StationId}
    (none : ∀ e ∈ (s.house (s.station i).house).queue, e.status ≠ .runOut) : s.dropRunOut i = s := by
  unfold State.dropRunOut
  split
  · rename_i e hb
    exact if_neg (none e (entryOf_eq_some hb).1)
  · rfl

theorem State.dropRunOuts_none {h : HouseId} {s : State} (none : ∀ e ∈ (s.house h).queue, e.status ≠ .runOut)
    {l : List StationId} (own : ∀ i ∈ l, (s.station i).house = h) :
    (s.forStations l fun i t => t.dropRunOut i) = s := by
  induction l with
  | nil => rfl
  | cons i l ih =>
    have hi : s.dropRunOut i = s := State.dropRunOut_of_none (by rw [own i List.mem_cons_self]; exact none)
    have hstep : (s.forStations (i :: l) fun i t => t.dropRunOut i) =
        (s.dropRunOut i).forStations l fun i t => t.dropRunOut i := rfl
    rw [hstep, hi, ih fun j hj => own j (List.mem_cons_of_mem i hj)]

theorem State.station_removeEntry (s : State) (i j : StationId) : (s.removeEntry i).station j =
    if j = i then { s.station i with counterMode := .hold } else s.station j := by
  rw [State.removeEntry, State.station_holdCounter]
  rfl

section
variable {s : State} (inv : OrderInv s) {h : HouseId} {e : Entry} {i : StationId} (he : e ∈ (s.house h).queue)
  (bound : e.bound = some i) (out : e.status = .runOut)
include inv he bound out

/-- A RUN-OUT entry leaves its house as R40 has it. -/
theorem State.house_runOutGone : (s.removeEntry i).house h =
    { s.house h with queue := (s.house h).queue.filter fun e => e.status ≠ .runOut } := by
  obtain ⟨k, hk⟩ := List.mem_iff_getElem?.1 he
  rw [State.removeEntry_house, inv.own hk bound, if_pos rfl, (inv.order h).dropEntry_runOut he bound out]

theorem State.dropRunOuts_some {l : List StationId} (own : ∀ j ∈ l, (s.station j).house = h) :
    (s.forStations l fun i t => t.dropRunOut i) = if i ∈ l then s.removeEntry i else s := by
  obtain ⟨k, hk⟩ := List.mem_iff_getElem?.1 he
  have hgone : ∀ x ∈ ((s.removeEntry i).house h).queue, x.status ≠ .runOut := by
    rw [State.house_runOutGone inv he bound out]
    exact fun x hx => by simpa using (List.mem_filter.1 hx).2
  have howns : ∀ j, ((s.removeEntry i).station j).house = (s.station j).house := fun j => by
    rw [State.station_removeEntry]
    split
    · rename_i hj
      rw [hj]
    · rfl
  induction l with
  | nil => rfl
  | cons j l ih =>
    have hl : ∀ m ∈ l, (s.station m).house = h := fun m hm => own m (List.mem_cons_of_mem j hm)
    have hstep : (s.forStations (j :: l) fun i t => t.dropRunOut i) =
        (s.dropRunOut j).forStations l fun i t => t.dropRunOut i := rfl
    rw [hstep]
    by_cases hj : j = i
    · subst hj
      have hdrop : s.dropRunOut j = s.removeEntry j := by
        simp [State.dropRunOut, inv.boundEntry hk bound, out]
      rw [hdrop, State.dropRunOuts_none hgone fun m hm => (howns m).trans (hl m hm), if_pos List.mem_cons_self]
    · have hdrop : s.dropRunOut j = s := by
        unfold State.dropRunOut
        split
        · rename_i x hx
          refine if_neg fun hr => hj ?_
          have hmem := (entryOf_eq_some hx)
          rw [own j List.mem_cons_self] at hmem
          obtain ⟨hmem, hbound⟩ := hmem
          obtain ⟨q, hq⟩ := (inv.order h).runOut_head he out
          obtain ⟨p, hp⟩ := (inv.order h).runOut_head hmem hr
          obtain ⟨rfl, -⟩ := List.cons.inj (hq.symm.trans hp)
          exact Option.some.inj (hbound.symm.trans bound)
        · rfl
      rw [hdrop, ih hl]
      simp [Ne.symm hj]

end

/-- The stations of a house drop its RUN-OUT entry, whose counter goes into HOLD (R40, R60). -/
theorem State.dropRunOuts {s : State} (inv : OrderInv s) (h : HouseId) {l : List StationId}
    (all : ∀ i, i ∈ l ↔ (s.station i).house = h) :
    Touches (.house h :: l.map .station) s (s.forStations l fun i t => t.dropRunOut i) ∧
      (s.forStations l fun i t => t.dropRunOut i).house h =
        { s.house h with queue := (s.house h).queue.filter fun e => e.status ≠ .runOut } ∧
      ∀ j, (s.forStations l fun i t => t.dropRunOut i).station j = { s.station j with
        counterMode := ((s.forStations l fun i t => t.dropRunOut i).station j).counterMode } := by
  by_cases hout : ∃ e ∈ (s.house h).queue, e.status = .runOut
  · obtain ⟨e, he, out⟩ := hout
    obtain ⟨i, bound⟩ := Option.isSome_iff_exists.1 (((inv.order h).entry he).2 (by rw [out]; nofun))
    obtain ⟨k, hk⟩ := List.mem_iff_getElem?.1 he
    have hown := inv.own hk bound
    rw [State.dropRunOuts_some inv he bound out fun i hi => (all i).1 hi, if_pos ((all i).2 hown)]
    refine ⟨(s.removeEntry_touches i).mono ?_, State.house_runOutGone inv he bound out, fun j => ?_⟩
    · rw [hown]
      simpa using (all i).2 hown
    · rw [State.station_removeEntry]
      split
      · rename_i hj
        rw [hj]
      · rfl
  · have hnone : ∀ e ∈ (s.house h).queue, e.status ≠ .runOut := fun e he hr => hout ⟨e, he, hr⟩
    rw [State.dropRunOuts_none hnone fun i hi => (all i).1 hi]
    refine ⟨.refl _ s, ?_, fun j => rfl⟩
    rw [List.filter_eq_self.2 fun e he => decide_eq_true (hnone e he)]

/-! ### EN -/

/-- The house as EN leaves it, its fade apart (R60). -/
def House.ended (hs : House) : House :=
  ({ hs with lampWait := false, step := none, regime := none, reel := Reel.clear
             queue := stopPlaying hs.queue } : House).toIdle

section
variable {s : State} {h : HouseId}

theorem State.holdFade_touches (s : State) (h : HouseId) : Touches [.house h] s (s.holdFade h) := s.modHouse_touches h _

theorem State.house_holdFade (level : (s.house h).settings.level ≤ 1000) (fade : (s.house h).settings.fade ≤ 60000) :
    (s.holdFade h).house h = { s.house h with
      light := (s.house h).light.faded (s.house h).settings.level (s.house h).settings.fade } := by
  rw [← Light.fadeStart_eq _ level fade]
  exact s.house_modLight_same h _

/-- The end of a show, its stations, house and frame (R60). -/
theorem State.endShow_spec (inv : OrderInv s) (level : (s.house h).settings.level ≤ 1000)
    (fade : (s.house h).settings.fade ≤ 60000) :
    Touches (.house h :: .arbiter :: (s.stationsOf h).map .station) s (s.endShow h) ∧
      (∀ j, (s.station j).house = h → (s.endShow h).station j = { (s.station j).closedDown with
        counterMode := ((s.endShow h).station j).counterMode }) ∧
      (s.endShow h).house h = House.ended { s.house h with
        queue := (s.house h).queue.filter fun e => e.status ≠ .runOut
        light := (s.house h).light.faded (s.house h).settings.level (s.house h).settings.fade } := by
  have hclosed := State.forStations_touches (parts := .arbiter :: (s.stationsOf h).map .station)
    (f := fun i t => t.closeDown i) (s.stationsOf h) (fun i hi t => (t.closeDown_touches i).mono (by simpa using hi)) s
  have hstation := fun j => State.station_forStations (f := fun i t => t.closeDown i) (g := Station.closedDown)
    (fun i t j => t.station_closeDown i j) (s.stationsOf_nodup h) s j
  have hinv := inv.edits (Edits.forStations s (s.stationsOf h) _ fun i t => t.closeDown_edits i)
  have hend : s.endShow h = ((((s.forStations (s.stationsOf h) fun i t => t.closeDown i).forStations (s.stationsOf h)
      fun i t => t.dropRunOut i).holdFade h).modHouse h House.ended) := rfl
  rw [hend]
  generalize (s.forStations (s.stationsOf h) fun i t => t.closeDown i) = u at hclosed hstation hinv
  have howns : ∀ j, (u.station j).house = (s.station j).house := fun j => by
    rw [hstation]
    split
    · exact (s.station j).closedDown_house
    · rfl
  obtain ⟨htouch, hhouse, hcounters⟩ := State.dropRunOuts hinv h (l := s.stationsOf h)
    fun i => by rw [State.mem_stationsOf, howns]
  have hsame : u.house h = s.house h := hclosed.house (by simp)
  generalize (u.forStations (s.stationsOf h) fun i t => t.dropRunOut i) = v at htouch hhouse hcounters
  rw [hsame] at hhouse
  refine ⟨?_, fun j hj => ?_, ?_⟩
  · refine ((hclosed.mono ?_).trans (htouch.mono ?_)).trans ((v.holdFade_touches h).mono ?_ |>.trans
      ((State.modHouse_touches _ h _).mono ?_)) <;> simp
  · have hv := hcounters j
    rw [hstation, if_pos ((s.mem_stationsOf h j).2 hj)] at hv
    exact hv
  · rw [State.house_modHouse_same, State.house_holdFade (by rw [hhouse]; exact level) (by rw [hhouse]; exact fade), hhouse]

end

theorem House.ended_eq (hs : House) : hs.ended = { hs with
    engine := if hs.ended.headBound then .ready else .idle
    step := none, lampWait := false, regime := none, hold := .none, reel := Reel.clear
    queue := stopPlaying hs.queue } := rfl

/-- Settles O29: EN is the end of a show, or is refused. -/
theorem endOfShowLine : Obligations.EndOfShowLine := by
  intro s h hfree
  refine ⟨fun he inv hlevel hfade => ?_, fun he => exec_of_refused rfl hfree ?_⟩
  · obtain ⟨htouch, hstation, hhouse⟩ := State.endShow_spec inv hlevel hfade
    have ha : answer (.en h.number) s = (s.endShow h, .ok) := by
      have hshow : (s.house h).engine.inShow = true := (EngineState.inShow_iff _).2 he
      simp [answer, answerEn, checked_eq, firstRefusal, hshow]
    have hother : ∀ j, (s.station j).house ≠ h → j ∉ s.stationsOf h := fun j hj hmem =>
      hj ((s.mem_stationsOf h j).1 hmem)
    refine ⟨_, by rw [exec_console_free rfl hfree, ha], answered_of_line (htouch.line (by simp)) .ok,
      fun k hk => htouch.house (by simp [hk]), htouch.clock (by simp), htouch.fire (by simp),
      fun i hi => htouch.station (by simpa using hother i hi), hstation, ?_⟩
    rw [State.settle_house, State.startReply_house, hhouse, House.ended_eq]
    rfl
  · have hshow : (s.house h).engine.inShow = false := by
      cases hc : (s.house h).engine <;> simp [hc, EngineState.inShow] at he ⊢
    simp [answer, answerEn, checked_eq, firstRefusal, hshow]

end Sys2Proof.Machine

/-!
The change instant, as the console and the changeover button make it (R54 to R56).
-/

namespace Sys2Proof.Machine

/-! ### The two reels of a changeover -/

/-- With the entry behind the PLAYING one bound, the two stand at the front of the running order (R36). -/
theorem QueueOk.two_reels {q : List Entry} {k : Nat} {x y : Entry} {inc : StationId} (order : QueueOk q)
    (hx : q[k]? = some x) (hy : q[k + 1]? = some y) (bound : y.bound = some inc) : ∃ rest, k = 0 ∧ q = x :: y :: rest := by
  have hk := order.bound_front hy (by rw [bound]; rfl)
  obtain rfl : k = 0 := by omega
  rcases q with _ | ⟨a, _ | ⟨b, rest⟩⟩
  · cases hx
  · cases hy
  · cases hx
    cases hy
    exact ⟨rest, rfl, rfl⟩

section
variable {x y : Entry} {rest : List Entry} {out inc : StationId} (order : QueueOk (x :: y :: rest))
  (hout : x.bound = some out) (hinc : y.bound = some inc)
include order hout hinc

theorem QueueOk.reels_apart : out ≠ inc := by
  obtain ⟨⟨-, -, apart, -⟩, -⟩ := order
  rintro rfl
  exact apart out hout hinc

/-- The picture passes from the front entry to the one behind it (R35). -/
theorem QueueOk.setStatus_change : setStatus (setStatus (x :: y :: rest) out .runOut) inc .playing =
    { x with status := .runOut } :: { y with status := .playing } :: rest := by
  have hapart := order.reels_apart hout hinc
  obtain ⟨-, waits⟩ := order
  have hrest : ∀ i st, setStatus rest i st = rest := setStatus_waits waits
  have hcons : ∀ (e : Entry) (l : List Entry) i st, setStatus (e :: l) i st =
      (if e.bound = some i then { e with status := st } else e) :: setStatus l i st := fun _ _ _ _ => rfl
  have hfirst : setStatus (x :: y :: rest) out .runOut = { x with status := .runOut } :: y :: rest := by
    rw [hcons, hcons, hrest, if_pos hout, if_neg (by simp [hinc, hapart.symm])]
  rw [hfirst, hcons, hcons, hrest, if_neg (by simp [hout, hapart]), if_pos hinc]

end

/-! ### The change instant -/

section
variable (s : State) (h : HouseId) (out inc : StationId) (e : Entry)

/-- The frames by which the change comes late, or early (R56). -/
def State.skewOf : Int := ((s.station inc).counter : Int) - e.first

/-- The picture passed from one station to the other, the house not yet moved on (R55). -/
def State.screensPassed : State := ((s.takeScreen inc).darken out).extinguish out

theorem State.screensPassed_touches : Touches [.station out, .station inc, .arbiter] s (s.screensPassed out inc) :=
  (((s.takeScreen_touches inc).mono (by simp)).trans ((State.darken_touches _ out).mono (by simp))).trans
    ((State.extinguish_touches _ out).mono (by simp))

/-- The state at the change instant, before a skew is warned of. -/
def State.changed : State :=
  ((((s.screensPassed out inc).modQueue h fun q => setStatus (setStatus q out .runOut) inc .playing).action h e.pi).modHouse
    h fun hs => { hs with
      engine := .playing, skew := some (s.skewOf inc e), reel := Reel.clear, regime := (s.mode h).regime })

theorem State.changeInstant_eq : s.changeInstant h out inc e =
    if 24 < (s.skewOf inc e).natAbs then (s.changed h out inc e).latch (.cueSkew h) else s.changed h out inc e := rfl

theorem State.changed_touches :
    Touches [.house h, .station out, .station inc, .arbiter] s (s.changed h out inc e) :=
  ((((s.screensPassed_touches out inc).mono (by simp)).trans ((State.modHouse_touches _ h _).mono (by simp))).trans
    ((State.action_touches _ h _).mono (by simp))).trans ((State.modHouse_touches _ h _).mono (by simp))

theorem State.changeInstant_touches :
    Touches [.house h, .station out, .station inc, .arbiter, .line] s (s.changeInstant h out inc e) := by
  rw [State.changeInstant_eq]
  have hchanged := (s.changed_touches h out inc e).mono (more := [.house h, .station out, .station inc, .arbiter, .line])
    (by simp)
  exact .ite (fun _ => hchanged.trans ((State.latch_touches _ _).mono (by simp))) fun _ => hchanged

@[simp] theorem State.changeInstant_station (j : StationId) :
    (s.changeInstant h out inc e).station j = (s.screensPassed out inc).station j := by
  have hlatch : ∀ u : State, (if 24 < (s.skewOf inc e).natAbs then u.latch (.cueSkew h) else u).station j = u.station j :=
    fun u => by split <;> rfl
  rw [State.changeInstant_eq, hlatch, State.changed, State.modHouse_station, State.action_station]
  rfl

theorem State.changeInstant_line : (s.changeInstant h out inc e).line =
    if 24 < (s.skewOf inc e).natAbs then s.line.warned (.cueSkew h) else s.line := by
  have hline : (s.changed h out inc e).line = s.line := (s.changed_touches h out inc e).line (by simp)
  rw [State.changeInstant_eq]
  split
  · rw [← hline]
    rfl
  · exact hline

variable {s h out inc e}

theorem State.changeInstant_arbiter (apart : out ≠ inc) : (s.changeInstant h out inc e).arbiter =
    s.arbiter.without out (s.station out).lamp.state := by
  have hscreen : ((s.takeScreen inc).darken out).station out =
      { s.station out with demandOpen := false, csOpen := false } := by
    rw [State.station_darken, if_pos rfl, (s.takeScreen_touches inc).station (by simp [apart])]
  have hlatch : ∀ u : State, (if 24 < (s.skewOf inc e).natAbs then u.latch (.cueSkew h) else u).arbiter = u.arbiter :=
    fun u => by split <;> rfl
  have harbiter : (s.screensPassed out inc).arbiter = s.arbiter.without out (s.station out).lamp.state := by
    rw [State.screensPassed, State.extinguish_arbiter, hscreen, (State.darken_touches _ out).arbiter (by simp),
      (s.takeScreen_touches inc).arbiter (by simp)]
  rw [State.changeInstant_eq, hlatch, ← harbiter, State.changed, State.modHouse_arbiter, State.action_arbiter]
  rfl

/-- The incoming station takes the screen, and the outgoing one is darkened and put out (R55). -/
theorem State.station_screensPassed (apart : out ≠ inc) (trip : (s.station inc).trip = none) (booth : s.fire.booth = none) :
    (s.screensPassed out inc).station inc = { s.station inc with
        demandOpen := true, csOpen := true, carbon := { (s.station inc).carbon with mark := .clear } } ∧
      (s.screensPassed out inc).station out = { (s.station out).extinguished with demandOpen := false, csOpen := false } := by
  have hout : (s.takeScreen inc).station out = s.station out := (s.takeScreen_touches inc).station (by simp [apart])
  refine ⟨?_, ?_⟩
  · rw [State.screensPassed, (State.extinguish_touches _ out).station (by simp [apart.symm]),
      (State.darken_touches _ out).station (by simp [apart.symm]), State.station_takeScreen trip booth]
  · rw [State.screensPassed, State.station_extinguish_same, State.station_darken, if_pos rfl, hout]
    unfold Station.extinguished
    split <;> rfl

theorem State.house_changeInstant (taken : e.asTaken) : (s.changeInstant h out inc e).house h = { s.house h with
    engine := .playing, skew := some (s.skewOf inc e), reel := Reel.clear, regime := (s.mode h).regime
    queue := setStatus (setStatus (s.house h).queue out .runOut) inc .playing
    light := (s.house h).light.acted e.pi } := by
  obtain ⟨-, -, -, -, -, -, -, hactions⟩ := taken
  have hlatch : ∀ u : State, (if 24 < (s.skewOf inc e).natAbs then u.latch (.cueSkew h) else u).house h = u.house h :=
    fun u => by split <;> rfl
  have hscreen : (s.screensPassed out inc).house h = s.house h := (s.screensPassed_touches out inc).house (by simp)
  rw [State.changeInstant_eq, hlatch, State.changed, State.house_modHouse_same, State.house_action (hactions e.pi (by simp)),
    State.house_modQueue, if_pos rfl, hscreen]

end

/-! ### The change by hand -/

section
variable {s : State} {h : HouseId} {out inc : StationId} {x y : Entry} {rest : List Entry}

/-- A change to a reel whose cues and tail lie ahead brings nothing with it (R55). -/
theorem State.changeInstant_ahead (order : QueueOk (s.house h).queue) (queue : (s.house h).queue = x :: y :: rest)
    (hout : x.bound = some out) (hinc : y.bound = some inc) (own : (s.station inc).house = h)
    (trip : (s.station inc).trip = none) (booth : s.fire.booth = none) (taken : y.asTaken)
    (ahead : y.ahead (s.house h).settings.lead (s.station inc).counter) :
    (s.changeInstant h out inc y).testReel h = s.changeInstant h out inc y := by
  rw [queue] at order
  have hapart := order.reels_apart hout hinc
  have hhouse := State.house_changeInstant (s := s) (h := h) (out := out) (inc := inc) taken
  rw [queue, order.setStatus_change hout hinc] at hhouse
  have hstation := s.changeInstant_station h out inc y inc
  rw [(State.station_screensPassed hapart trip booth).1] at hstation
  refine State.testReel_ahead (e := { y with status := .playing }) (i := inc) ?_ ?_ ?_ ?_
  · rw [hhouse]
    simp [House.playing]
  · rw [hhouse]
    simp [House.onScreen, House.playing, EngineState.showing, hinc]
  · rw [State.boundEntry, hstation, own, hhouse]
    simp [entryOf, hout, hinc, hapart]
  · rw [hhouse, hstation]
    exact ahead

theorem State.makeChange_eq {start : State → State} (screen : (s.house h).onScreen = some out)
    (next : (s.house h).next = some y) (cueing : (s.house h).engine.cueing = true) (hinc : y.bound = some inc) :
    s.makeChange start h = start (s.changeInstant h out inc y) := by
  have hincoming : (s.house h).incoming = some inc := by simp [House.incoming, cueing, next, hinc]
  simp only [State.makeChange, screen, next, hincoming]

end

/-- The incoming reel is ready (R54). -/
theorem State.changeReady_iff {s : State} {h : HouseId} (cueing : (s.house h).engine.cueing = true) :
    s.changeReady h = true ↔ ∃ y inc, (s.house h).next = some y ∧ y.bound = some inc ∧
      (s.house h).reel.missed = none ∧ (s.station inc).lamp.state = .burn ∧ (s.station inc).motor = .atSpeed ∧
      (s.house h).port = .up := by
  have hincoming : (s.house h).incoming = (s.house h).next.bind (·.bound) := by rw [House.incoming, if_pos cueing]
  simp only [State.changeReady, hincoming]
  cases hn : (s.house h).next with
  | none => simp
  | some y =>
    cases hb : y.bound with
    | none => simp [hb]
    | some inc => simp [hb, and_assoc]

section
variable {s : State} {h : HouseId}

theorem exec_cbClosing_change (ready : s.manualChangeReady h = true) :
    exec (.cbClosing h) s = done (s.makeChange (fun t => t.testReel h) h) := by
  have hexec : exec (.cbClosing h) s = execCbClosing h s := rfl
  rw [hexec, execCbClosing, if_pos ready]

/-- In MOTOR-CUED the button of a house that is not ready does nothing (R45, R54). -/
theorem exec_cbClosing_waits (cued : (s.house h).engine = .motorCued) (waits : s.manualChangeReady h = false) :
    exec (.cbClosing h) s = .next { s with pins := s.outputs } := by
  have hexec : exec (.cbClosing h) s = execCbClosing h s := rfl
  have hstart : s.eventStart h = s := State.eventStart_barred (by rw [cued]; rfl)
  simp only [hexec, execCbClosing, waits, Bool.false_eq_true, if_false, hstart]
  rfl

theorem answerCo_taken (ready : s.manualChangeReady h = true) :
    answer (.co h.number) s = (s.makeChange (fun t => t.testReel h) h, .ok) := by simp [answer, answerCo, ready]

theorem answerCo_refused (waits : s.manualChangeReady h = false) : answer (.co h.number) s = (s, .no .st) := by
  simp [answer, answerCo, waits, refuse]

end

/-- Settles O30: CO and the button make one change instant, or neither makes any. -/
theorem manualChangeover : Obligations.ManualChangeover := by
  intro s h hfree
  refine ⟨fun k x y out inc hcued hregime hx hplaying hstop hy hout hinc inv hmissed hlamp hmotor hport htrip hbooth htaken
      hahead => ?change, fun hnot => exec_of_refused rfl hfree (answerCo_refused ?_), fun hcued hwaits => ?waits⟩
  case change =>
    have hcueing : (s.house h).engine.cueing = true := by rw [hcued]; rfl
    have hnext : (s.house h).next = some y := (inv.next_at hx hplaying).trans hy
    have hscreen : (s.house h).onScreen = some out := (inv.onScreen_at hx hplaying).trans hout
    have hown := inv.own hy hinc
    have horder := inv.order h
    obtain ⟨rest, rfl, hqueue⟩ := horder.two_reels hx hy hinc
    have hready : s.manualChangeReady h = true := by
      have hpermitted : (s.house h).cuesPermitted = true := by
        simp [House.cuesPermitted, hcueing, hregime, hnext, inv.playing_at hx hplaying, hstop]
      have hchange := (State.changeReady_iff hcueing).2 ⟨y, inc, hnext, hinc, hmissed, hlamp, hmotor, hport⟩
      simp [State.manualChangeReady, hcued, hpermitted, hchange]
    have hmake : s.makeChange (fun t => t.testReel h) h = s.changeInstant h out inc y :=
      (State.makeChange_eq hscreen hnext hcueing hinc).trans
        (State.changeInstant_ahead horder hqueue hout hinc hown htrip hbooth htaken hahead)
    have hfront : QueueOk (x :: y :: rest) := hqueue ▸ horder
    have hapart := hfront.reels_apart hout hinc
    obtain ⟨hincoming, houtgoing⟩ := State.station_screensPassed hapart htrip hbooth
    have hbutton := exec_cbClosing_change hready
    have hconsole := answerCo_taken hready
    rw [hmake] at hbutton hconsole
    have hline := s.changeInstant_line h out inc y
    obtain ⟨u, hexec, hbeside⟩ := exec_beside (c := .co h.number) rfl hfree hconsole (by
      rw [hline]
      split
      · exact s.line.warned_told _
      · exact .refl _)
    refine ⟨_, u, hbutton, hexec, by rw [hbeside]; rfl, by rw [hbeside], by rw [hbeside], by rw [hbeside],
      (s.changeInstant_touches h out inc y).settle, ?_, ?_, State.changeInstant_arbiter hapart, hline, ?_⟩
    · rw [State.settle_station, State.changeInstant_station, hincoming]
    · rw [State.settle_station, State.changeInstant_station, houtgoing]
    · rw [State.settle_house, State.house_changeInstant htaken, hqueue, hfront.setStatus_change hout hinc,
        HouseMode.regime_eq]
      rfl
  · simp [State.manualChangeReady, hnot]
  case waits =>
    have hcueing : (s.house h).engine.cueing = true := by rw [hcued]; rfl
    have hunready : s.manualChangeReady h = false := by
      rw [State.manualChangeReady, Bool.and_eq_false_iff]
      refine .inr (Bool.eq_false_iff.2 fun hready => ?_)
      obtain ⟨y, inc, hnext, hinc, hmissed, hlamp, hmotor, hport⟩ := (State.changeReady_iff hcueing).1 hready
      rcases hwaits with hw | hw | hw | ⟨y', inc', hnext', hinc', hw⟩
      · simp [hmissed] at hw
      · simp [hport] at hw
      · simp [hw y hnext] at hinc
      · cases hnext.symm.trans hnext'
        cases hinc.symm.trans hinc'
        rcases hw with hw | hw
        · exact hw hlamp
        · exact hw hmotor
    exact ⟨exec_of_refused rfl hfree (answerCo_refused hunready), exec_cbClosing_waits hcued hunready⟩

end Sys2Proof.Machine

/-!
Station trips: what the capture takes, what the station loses, and what its house makes of it (R153 to R156, R162, R163).
-/

namespace Sys2Proof.Machine

/-! ### The capture -/

/-- The capture's fields for a trip of a station (R163). -/
def State.tripFields (s : State) (i : StationId) (cap : CaptureCause) : CaptureFields :=
  { cause := cap, station := some i, house := some (s.station i).house, time := s.clock.time
    counter := some (s.station i).counter, lamp := some (s.station i).lamp.state
    onScreen := some (decide ((s.house (s.station i).house).onScreen = some i)) }

theorem State.captureFields_station (s : State) (cap : CaptureCause) (i : StationId) :
    s.captureFields cap (some i) = s.tripFields i cap := by
  simp [State.captureFields, State.tripFields, State.isOnScreen, Bool.beq_eq_decide_eq]

theorem State.captureTrip_fire (s : State) (cap : CaptureCause) (i : Option StationId) :
    (s.captureTrip cap i).fire = s.fire.afterTrip (s.captureFields cap i) := Fire.captureTrip_eq _ _

/-! ### The station -/

/-- A station as a trip of its own leaves it (R19, R154). -/
def Station.trippedBy (st : Station) (cause : StationCause) : Station :=
  { st with
    motor := st.stopped.motor, runUpTimer := st.stopped.runUpTimer, stallTimer := st.stopped.stallTimer
    stopTimer := st.stopped.stopTimer, trip := some cause, demandOpen := false, csOpen := false
    lamp := st.extinguished.lamp, carbon := st.extinguished.carbon
    channel := { st.extinguished.channel with jog := none, fsPulses := 0 } }

theorem Station.trippedBy_eq (st : Station) (cause : StationCause) :
    ({ st.stopped with trip := some cause, demandOpen := false, csOpen := false
                       channel := { st.channel with jog := none, fsPulses := 0 } } : Station).extinguished =
      st.trippedBy cause := by
  unfold Station.trippedBy Station.extinguished
  rw [Station.stopped_eq]
  by_cases hout : st.lamp.state.out = true <;> simp [hout]

theorem State.station_tripStation (s : State) (i : StationId) (cause : StationCause) :
    (s.tripStation i cause).station i = (s.station i).trippedBy cause := by
  rw [State.tripStation, State.station_extinguish_same, State.station_modStation_same, Station.stopMotor_eq,
    ← Station.trippedBy_eq]

theorem State.tripStation_touches (s : State) (i : StationId) (cause : StationCause) :
    Touches [.station i, .arbiter] s (s.tripStation i cause) :=
  ((s.modStation_touches i _).mono (by simp)).trans (State.extinguish_touches _ i)

theorem State.tripStation_arbiter (s : State) (i : StationId) (cause : StationCause) :
    (s.tripStation i cause).arbiter = s.arbiter.without i (s.station i).lamp.state := by
  rw [State.tripStation, State.extinguish_arbiter, State.station_modStation_same, Station.stopMotor_eq]
  show s.arbiter.without i (s.station i).stopped.lamp.state = _
  rw [(Station.stopped_arc _).1]

/-! ### What the house makes of it -/

/-- The records that no act on a house moves at a station: its trip, its lamp with the arc and the carbon, its counter. -/
def Station.SameTrip (a b : Station) : Prop :=
  b.trip = a.trip ∧ b.lamp = a.lamp ∧ b.carbon = a.carbon ∧ b.channel = a.channel ∧ b.counter = a.counter

theorem Station.SameTrip.refl (a : Station) : a.SameTrip a := ⟨rfl, rfl, rfl, rfl, rfl⟩

/-- A station at rest: its motor stopped, its demand and its shutter closed. -/
def Station.Dark (st : Station) : Prop := st.motor.running = false ∧ st.demandOpen = false ∧ st.csOpen = false

theorem Station.trippedBy_dark (st : Station) (cause : StationCause) : (st.trippedBy cause).Dark :=
  ⟨st.stopped_rests, rfl, rfl⟩

theorem Station.stopped_of_rest {st : Station} (rests : st.motor.running = false) : st.stopped = st := by
  unfold Station.stopped
  cases hm : st.motor <;> simp [hm, Motor.running] at rests ⊢

section
variable (s : State) (h : HouseId) (cause : FaultCause) (i : Option StationId) (j : StationId)

theorem State.enterFault_sameTrip : (s.station j).SameTrip ((s.enterFault h cause i).station j) := by
  rw [State.station_enterFault]
  split
  · split
    · rw [Station.stopped_eq]
      exact ⟨rfl, rfl, rfl, rfl, rfl⟩
    · exact ⟨rfl, rfl, rfl, rfl, rfl⟩
  · exact .refl _

theorem State.enterFault_motor (dark : (s.station j).Dark) :
    ((s.enterFault h cause i).station j).motor = (s.station j).motor := by
  rw [State.station_enterFault]
  obtain ⟨hmotor, -, -⟩ := dark
  have hrests : ({ s.station j with demandOpen := false, csOpen := false } : Station).motor.running = false := hmotor
  split
  · split
    · rw [Station.stopped_of_rest hrests]
    · rfl
  · rfl

theorem State.enterFault_dark (dark : (s.station j).Dark) :
    ((s.enterFault h cause i).station j).demandOpen = false ∧ ((s.enterFault h cause i).station j).csOpen = false := by
  rw [State.station_enterFault]
  obtain ⟨-, hdemand, hcs⟩ := dark
  split
  · split
    · rw [Station.stopped_eq]
      exact ⟨rfl, rfl⟩
    · exact ⟨rfl, rfl⟩
  · exact ⟨hdemand, hcs⟩

end

theorem State.station_dropRunOut (s : State) (i j : StationId) : ∃ m, (s.dropRunOut i).station j =
    { s.station j with counterMode := m } := by
  unfold State.dropRunOut
  split
  · split
    · rw [State.station_removeEntry]
      split
      · rename_i hj
        exact ⟨.hold, by rw [hj]⟩
      · exact ⟨_, rfl⟩
    · exact ⟨_, rfl⟩
  · exact ⟨_, rfl⟩

theorem State.dropRunOut_touches (s : State) (i : StationId) :
    Touches [.station i, .house (s.station i).house] s (s.dropRunOut i) := by
  unfold State.dropRunOut
  split
  · exact .ite (fun _ => s.removeEntry_touches i) fun _ => .refl _ s
  · exact .refl _ s

theorem State.tripHouse_touches (s : State) (i : StationId) (b : Bool) :
    Touches (.house (s.station i).house :: .line :: (s.stationsOf (s.station i).house).map .station) s (s.tripHouse i b) := by
  have hi : i ∈ s.stationsOf (s.station i).house := (s.mem_stationsOf _ i).2 rfl
  exact .ite (fun _ => s.enterFault_touches _ .trip (some i)) fun _ =>
    ((s.dropRunOut_touches i).mono (by simpa using hi)).trans ((State.modHouse_touches _ _ _).mono (by simp))

/-- The house's part in a trip leaves every station its trip, its lamp and its counter, and one at rest at rest (R155). -/
theorem State.station_tripHouse (s : State) (i : StationId) (b : Bool) (j : StationId) :
    (s.station j).SameTrip ((s.tripHouse i b).station j) ∧ ((s.station j).Dark →
      ((s.tripHouse i b).station j).motor = (s.station j).motor ∧ ((s.tripHouse i b).station j).demandOpen = false ∧
        ((s.tripHouse i b).station j).csOpen = false) := by
  unfold State.tripHouse
  split
  · exact ⟨s.enterFault_sameTrip _ _ _ j, fun hdark => ⟨s.enterFault_motor _ _ _ j hdark, s.enterFault_dark _ _ _ j hdark⟩⟩
  · obtain ⟨m, hm⟩ := s.station_dropRunOut i j
    have hsame : (((s.dropRunOut i).readyTest (s.station i).house).station j) = { s.station j with counterMode := m } := hm
    rw [hsame]
    exact ⟨⟨rfl, rfl, rfl, rfl, rfl⟩, fun ⟨_, hdemand, hcs⟩ => ⟨rfl, hdemand, hcs⟩⟩

theorem State.gateAction_touches (s : State) (h : HouseId) : Touches [.house h] s (s.gateAction h) :=
  (s.modHouse_touches h _).trans (State.modHouse_touches _ h _)

/-- A GATE event sets the FIRE layer of its house and releases its ports (R156). -/
theorem State.house_gateAction (s : State) (h : HouseId) : (s.gateAction h).house h =
    { s.house h with light := { (s.house h).light with fire := .set }, releasePulse := true } := by
  rw [State.gateAction, State.releasePorts, State.house_modHouse_same, State.setFire, State.house_modLight_same]

/-! ### The trip as a whole -/

section
variable {s : State} {i : StationId} {cause : StationCause} {cap : CaptureCause}

/-- The state with the trip at the capture and its actions taken on the station (R154, R162). -/
def State.tripTaken (s : State) (i : StationId) (cause : StationCause) (cap : CaptureCause) : State :=
  (s.captureTrip cap (some i)).tripStation i cause

theorem State.tripTaken_touches (s : State) (i : StationId) (cause : StationCause) (cap : CaptureCause) :
    Touches [.station i, .arbiter, .fire, .line] s (s.tripTaken i cause cap) :=
  ((s.captureTrip_touches cap (some i)).mono (by simp)).trans ((State.tripStation_touches _ i cause).mono (by simp))

theorem State.tripTaken_station : (s.tripTaken i cause cap).station i = (s.station i).trippedBy cause :=
  (s.captureTrip cap (some i)).station_tripStation i cause

theorem State.tripTaken_fire : (s.tripTaken i cause cap).fire = s.fire.afterTrip (s.tripFields i cap) := by
  rw [State.tripTaken, (State.tripStation_touches _ i cause).fire (by simp), State.captureTrip_fire,
    State.captureFields_station]

theorem State.tripTaken_line : (s.tripTaken i cause cap).line = { s.line with attention := true, sinceReset := true } := by
  rw [State.tripTaken, (State.tripStation_touches _ i cause).line (by simp)]
  rfl

theorem State.stationTrip_again (present : (s.station i).present = true) (again : (s.station i).trip.isSome = true) :
    s.stationTrip i cause cap = if cause = .gate then (s.captureTrip cap (some i)).gateAction (s.station i).house
      else s.captureTrip cap (some i) := by
  simp only [State.stationTrip, present, again, if_true]

theorem State.stationTrip_fresh (present : (s.station i).present = true) (fresh : (s.station i).trip = none) :
    s.stationTrip i cause cap =
      if cause = .gate then ((s.tripTaken i cause cap).tripHouse i (s.engaged i)).gateAction (s.station i).house
      else (s.tripTaken i cause cap).tripHouse i (s.engaged i) := by
  simp only [State.stationTrip, present, fresh, if_true, Option.isSome_none, Bool.false_eq_true, if_false] <;> rfl

/-- The action of a GATE event on the house touches no station (R156). -/
theorem State.station_gated (u : State) (h : HouseId) (j : StationId) :
    (if cause = .gate then u.gateAction h else u).station j = u.station j := by
  split
  · exact (u.gateAction_touches h).station (by simp)
  · rfl

theorem State.fire_gated (u : State) (h : HouseId) : (if cause = .gate then u.gateAction h else u).fire = u.fire := by
  split
  · exact (u.gateAction_touches h).fire (by simp)
  · rfl

theorem State.line_gated (u : State) (h : HouseId) : (if cause = .gate then u.gateAction h else u).line = u.line := by
  split
  · exact (u.gateAction_touches h).line (by simp)
  · rfl

/-- Every trip of a present station acts at the capture and asserts ATTENTION (R162). -/
theorem State.stationTrip_captured (present : (s.station i).present = true) :
    (s.stationTrip i cause cap).fire = s.fire.afterTrip (s.tripFields i cap) ∧
      (s.stationTrip i cause cap).line.attention = true := by
  cases htrip : (s.station i).trip with
  | some c =>
    rw [State.stationTrip_again present (by rw [htrip]; rfl), State.fire_gated, State.line_gated, State.captureTrip_fire,
      State.captureFields_station]
    exact ⟨rfl, rfl⟩
  | none =>
    rw [State.stationTrip_fresh present htrip, State.fire_gated, State.line_gated,
      (State.tripHouse_touches _ i _).fire (by simp), State.tripTaken_fire]
    refine ⟨rfl, ?_⟩
    unfold State.tripHouse
    split
    · rw [State.line_enterFault]
      split
      · rfl
      · rw [State.tripTaken_line]
    · rw [show ∀ u : State, ∀ k, (u.readyTest k).line = u.line from fun _ _ => rfl,
        (State.dropRunOut_touches _ i).line (by simp), State.tripTaken_line]

end

end Sys2Proof.Machine

/-!
The trip events (R153): what they do to the station, to its house where it is engaged, and to the capture (R154, R155, R162).
-/

namespace Sys2Proof.Machine

/-! ### The events -/

/-- The station with the input opened that a trip event reports (R152). -/
def Station.opened (st : Station) (c : Instr) (i : StationId) : Station :=
  { st with
    gh := if c = .ghOpen i then .opened else st.gh
    lt := if c = .ltOpen i then .opened else st.lt
    fb := if c = .fbOpen i then .opened else st.fb }

/-- The state as a trip event finds it, its input opened. -/
def State.opened (s : State) (c : Instr) (i : StationId) : State := s.modStation i fun st => st.opened c i

section
variable {s : State} {c : Instr} {i : StationId} {cause : StationCause} {cap : CaptureCause}

theorem exec_tripEvent (event : s.tripEvent c = some (i, cause, cap)) :
    exec c s = done ((s.opened c i).stationTrip i cause cap) ∧ (s.station i).present = true ∧
      (c = .ghOpen i → cause = .gate) := by
  unfold State.tripEvent at event
  split at event
  case h_5 => cases event
  case h_1 j =>
    split at event
    case isFalse => cases event
    case isTrue hp =>
      obtain ⟨rfl, rfl, rfl⟩ : j = i ∧ StationCause.gate = cause ∧ CaptureCause.gate = cap := by simpa using event
      have hopened : s.opened (.ghOpen j) j = s.modStation j fun st => { st with gh := .opened } := by
        simp [State.opened, Station.opened]
      rw [hopened]
      exact ⟨rfl, hp, fun _ => rfl⟩
  case h_2 j =>
    split at event
    case isFalse => cases event
    case isTrue hp =>
      obtain ⟨rfl, rfl, rfl⟩ : j = i ∧ StationCause.lampHeat = cause ∧ CaptureCause.lampHeat = cap := by simpa using event
      have hopened : s.opened (.ltOpen j) j = s.modStation j fun st => { st with lt := .opened } := by
        simp [State.opened, Station.opened]
      rw [hopened]
      exact ⟨rfl, hp, nofun⟩
  case h_3 j =>
    split at event
    case isFalse => cases event
    case isTrue hruns =>
      obtain ⟨rfl, rfl, rfl⟩ : j = i ∧ StationCause.filmBreak = cause ∧ CaptureCause.filmBreak = cap := by
        simpa using event
      simp only [Bool.and_eq_true, beq_iff_eq] at hruns
      obtain ⟨⟨hp, htimer⟩, hmotor⟩ := hruns
      have hopened : s.opened (.stall j) j = s := by
        cases j <;> rfl
      have hexec : exec (.stall j) s = execStall j s := rfl
      rw [hopened, hexec, execStall, htimer, hmotor]
      exact ⟨rfl, hp, nofun⟩
  case h_4 j =>
    split at event
    case isFalse => cases event
    case isTrue hruns =>
      obtain ⟨rfl, rfl, rfl⟩ : j = i ∧ StationCause.filmBreak = cause ∧ CaptureCause.filmBreak = cap := by
        simpa using event
      simp only [Bool.and_eq_true, Bool.or_eq_true, beq_iff_eq] at hruns
      obtain ⟨hp, hmotor⟩ := hruns
      have hopened : s.opened (.fbOpen j) j = s.modStation j fun st => { st with fb := .opened } := by
        simp [State.opened, Station.opened]
      have hrunning : (s.station j).motor.running = true := by
        rcases hmotor with hm | hm <;> rw [hm] <;> rfl
      have hexec : exec (.fbOpen j) s = execFbOpen j s := rfl
      rw [hopened, hexec, execFbOpen, hrunning]
      exact ⟨rfl, hp, nofun⟩

@[simp] theorem State.station_opened_same : (s.opened c i).station i = (s.station i).opened c i :=
  s.station_modStation_same i _

theorem State.opened_touches (s : State) (c : Instr) (i : StationId) : Touches [.station i] s (s.opened c i) :=
  s.modStation_touches i _

theorem State.station_opened_other {j : StationId} (h : j ≠ i) : (s.opened c i).station j = s.station j :=
  (s.opened_touches c i).station (by simp [h])

@[simp] theorem State.opened_house (k : HouseId) : (s.opened c i).house k = s.house k := rfl

theorem State.opened_engaged : (s.opened c i).engaged i = s.engaged i :=
  State.engaged_congr (s := s) (t := s.opened c i) rfl (by rw [State.station_opened_same]; rfl)

theorem State.opened_boundEntry : (s.opened c i).boundEntry i = s.boundEntry i := by
  rw [State.boundEntry, State.station_opened_same]
  rfl

theorem State.opened_tripFields : (s.opened c i).tripFields i cap = s.tripFields i cap := by
  rw [State.tripFields, State.station_opened_same]
  rfl

end

theorem Station.trippedBy_opened (st : Station) (c : Instr) (i : StationId) (cause : StationCause) :
    (st.opened c i).trippedBy cause = { st.trippedBy cause with
      gh := (st.opened c i).gh, lt := (st.opened c i).lt, fb := (st.opened c i).fb } := by
  unfold Station.trippedBy Station.extinguished Station.stopped Station.opened
  by_cases hout : st.lamp.state.out = true <;> cases hm : st.motor <;> simp [hout, hm]

/-! ### The station -/

section
variable {s : State} {i : StationId} {cause : StationCause} {cap : CaptureCause}

/-- A trip keeps the first cause, and leaves a station tripped before as it stood (R19, R153). -/
theorem State.stationTrip_station (present : (s.station i).present = true) :
    ((s.stationTrip i cause cap).station i).trip = some ((s.station i).trip.getD cause) ∧
      ((s.stationTrip i cause cap).station i).counter = (s.station i).counter ∧
      ((s.station i).trip = none →
        ((s.station i).trippedBy cause).SameTrip ((s.stationTrip i cause cap).station i) ∧
          ((s.stationTrip i cause cap).station i).motor = (s.station i).stopped.motor ∧
          ((s.stationTrip i cause cap).station i).demandOpen = false ∧
          ((s.stationTrip i cause cap).station i).csOpen = false) ∧
      ((s.station i).trip.isSome = true → (s.stationTrip i cause cap).station i = s.station i) := by
  cases htrip : (s.station i).trip with
  | some c =>
    rw [State.stationTrip_again present (by rw [htrip]; rfl), State.station_gated]
    exact ⟨htrip, rfl, nofun, fun _ => rfl⟩
  | none =>
    obtain ⟨hsame, hdark⟩ := State.station_tripHouse (s.tripTaken i cause cap) i (s.engaged i) i
    rw [State.tripTaken_station] at hsame hdark
    obtain ⟨hmotor, hdemand, hcs⟩ := hdark (Station.trippedBy_dark _ _)
    rw [State.stationTrip_fresh present htrip, State.station_gated]
    exact ⟨hsame.1, hsame.2.2.2.2, fun _ => ⟨hsame, hmotor, hdemand, hcs⟩, nofun⟩

theorem State.stationTrip_other (present : (s.station i).present = true) {j : StationId} (hj : j ≠ i) :
    (s.station j).SameTrip ((s.stationTrip i cause cap).station j) := by
  cases htrip : (s.station i).trip with
  | some c =>
    rw [State.stationTrip_again present (by rw [htrip]; rfl), State.station_gated]
    exact .refl _
  | none =>
    obtain ⟨hsame, -⟩ := State.station_tripHouse (s.tripTaken i cause cap) i (s.engaged i) j
    rw [(s.tripTaken_touches i cause cap).station (by simp [hj])] at hsame
    rw [State.stationTrip_fresh present htrip, State.station_gated]
    exact hsame

/-- A LAMPHEAT or BREAK trip away from the show acts on its station, the arbiter, the capture and ATTENTION alone, and its
house takes the test of R41 (R155). -/
theorem State.stationTrip_quiet (present : (s.station i).present = true) (fresh : (s.station i).trip = none)
    (away : s.engaged i = false) (gate : cause ≠ .gate) (stays : ∀ e, s.boundEntry i = some e → e.status ≠ .runOut) :
    s.stationTrip i cause cap = (s.tripTaken i cause cap).readyTest (s.station i).house := by
  have hown : ((s.tripTaken i cause cap).station i).house = (s.station i).house := by
    rw [State.tripTaken_station]
    rfl
  have hbound : (s.tripTaken i cause cap).boundEntry i = s.boundEntry i := by
    rw [State.boundEntry, hown, (s.tripTaken_touches i cause cap).house (by simp)]
    rfl
  have hdrop : (s.tripTaken i cause cap).dropRunOut i = s.tripTaken i cause cap := by
    unfold State.dropRunOut
    rw [hbound]
    split
    · exact if_neg (stays _ ‹_›)
    · rfl
  rw [State.stationTrip_fresh present fresh, if_neg gate, State.tripHouse, away, if_neg Bool.false_ne_true, hdrop, hown]

end

/-- Settles O16: the trip's own actions, past which the house moves no trip, lamp or counter. -/
theorem tripActsOnTheStation : Obligations.TripActsOnTheStation := by
  refine ⟨fun s c i cause cap event => ?_, fun s c i cause cap event hgate hfresh haway hstays => ?_⟩
  · obtain ⟨hexec, hpresent, -⟩ := exec_tripEvent event
    have hsame := s.station_opened_same (c := c) (i := i)
    have hpresent' : ((s.opened c i).station i).present = true := by rw [hsame]; exact hpresent
    obtain ⟨htrip, hcounter, hfresh, hagain⟩ := State.stationTrip_station (cause := cause) (cap := cap) hpresent'
    rw [hsame] at htrip hcounter hfresh hagain
    refine ⟨_, hexec, htrip, hcounter, fun h => ?_, fun h => ?_, fun j hj => ?_⟩
    · obtain ⟨⟨-, hlamp, hcarbon, hchannel, -⟩, hmotor, hdemand, hcs⟩ := hfresh h
      rw [Station.trippedBy_opened] at hlamp hcarbon hchannel
      have hstop := congrArg Station.motor (Station.trippedBy_opened (s.station i) c i cause)
      exact ⟨hmotor.trans hstop, hdemand, hcs, hlamp, hcarbon, hchannel⟩
    · rw [State.settle_station, hagain h]
      exact ⟨rfl, rfl, rfl, rfl⟩
    · obtain ⟨htrip, hlamp, -, -, hcounter⟩ := State.stationTrip_other (cause := cause) (cap := cap) hpresent' hj
      rw [State.station_opened_other hj] at htrip hlamp hcounter
      exact ⟨htrip, hlamp, hcounter⟩
  · obtain ⟨hexec, hpresent, hgh⟩ := exec_tripEvent event
    have hsame := s.station_opened_same (c := c) (i := i)
    have hown : ((s.opened c i).station i).house = (s.station i).house := by rw [hsame]; rfl
    rw [State.stationTrip_quiet (by rw [hsame]; exact hpresent) (by rw [hsame]; exact hfresh)
      (State.opened_engaged.trans haway) hgate (fun e he => hstays e (State.opened_boundEntry.symm.trans he)), hown] at hexec
    have htaken := (s.opened c i).tripTaken_touches i cause cap
    have htouch : Touches [.station i, .house (s.station i).house, .arbiter, .fire, .line] s
        (((s.opened c i).tripTaken i cause cap).readyTest (s.station i).house) :=
      (((s.opened_touches c i).mono (by simp)).trans (htaken.mono (by simp))).trans
        ((State.modHouse_touches _ _ _).mono (by simp))
    refine ⟨_, hexec, htouch.settle, ?_, ?_, ?_, ?_⟩
    · rw [State.settle_house, State.house_readyTest, if_pos rfl, htaken.house (by simp)]
      rfl
    · show (((s.opened c i).captureTrip cap (some i)).tripStation i cause).arbiter = _
      rw [State.tripStation_arbiter]
      show s.arbiter.without i ((s.opened c i).station i).lamp.state = _
      rw [hsame]
      rfl
    · exact State.tripTaken_line
    · have hstation : ((((s.opened c i).tripTaken i cause cap).readyTest (s.station i).house).settle).station i =
          ((s.station i).opened c i).trippedBy cause := by
        rw [← hsame]
        exact State.tripTaken_station
      rw [hstation, Station.trippedBy_opened]
      have hnot : c ≠ .ghOpen i := fun hc => hgate (hgh hc)
      simp only [Station.opened, if_neg hnot]
      rfl

end Sys2Proof.Machine

/-!
Trips and open doors at the station of a running show bring its house to FAULT (R17, R61, R155).
-/

namespace Sys2Proof.Machine

/-- An engaged station is bound in its house (R36, R43). -/
theorem State.engaged_bound {s : State} {i : StationId} (engaged : s.engaged i = true) :
    ∃ e, s.boundEntry i = some e := by
  have hmem : ∃ e ∈ (s.house (s.station i).house).queue, e.bound = some i := by
    simp only [State.engaged, Bool.or_eq_true, beq_iff_eq] at engaged
    rcases engaged with (hstart | hscreen) | hincoming
    · obtain ⟨-, hhead⟩ := House.startStation_eq_some hstart
      obtain ⟨e, he, hb⟩ := Option.bind_eq_some_iff.1 hhead
      exact ⟨e, List.mem_of_head? he, hb⟩
    · obtain ⟨-, hplaying⟩ := House.onScreen_eq_some hscreen
      obtain ⟨e, he, hb⟩ := Option.bind_eq_some_iff.1 hplaying
      exact ⟨e, List.mem_of_find?_eq_some he, hb⟩
    · unfold House.incoming at hincoming
      split at hincoming
      · obtain ⟨e, he, hb⟩ := Option.bind_eq_some_iff.1 hincoming
        obtain ⟨k, -, hk⟩ := Option.bind_eq_some_iff.1 he
        exact ⟨e, List.mem_of_getElem? hk, hb⟩
      · cases hincoming
  refine Option.ne_none_iff_exists'.1 fun hnone => ?_
  exact entryOf_eq_none.1 hnone (mem_boundStations.2 hmem)

/-- A GATE event's action on the house leaves a FAULT as it is (R156). -/
theorem Faulted.gateAction {s t : State} {h : HouseId} {cause : FaultCause} {i : StationId}
    (faulted : Faulted s t.settle h cause i) : Faulted s (t.gateAction h).settle h cause i := by
  have htouch := t.gateAction_touches h
  have hstation : ∀ j, (t.gateAction h).station j = t.station j := fun j => htouch.station (by simp)
  have hline : (t.gateAction h).line = t.line := htouch.line (by simp)
  have hother : ∀ k, k ≠ h → (t.gateAction h).house k = t.house k := fun k hk => htouch.house (by simp [hk])
  unfold Faulted at faulted ⊢
  simp only [State.settle_house, State.settle_station, State.settle_line, State.house_gateAction, hstation, hline]
    at faulted ⊢
  obtain ⟨engine, step, wait, regime, reel, queue, fault, line, motor, dark, stations, houses⟩ := faulted
  exact ⟨engine, step, wait, regime, reel, queue, fault, line, motor, dark, stations,
    fun k hk => (hother k hk).trans (houses k hk)⟩

/-- A FAULT reckoned from behind a change of its station is one reckoned from before it. -/
theorem Faulted.before {s u t : State} {h : HouseId} {cause : FaultCause} {i : StationId} (hi : (s.station i).house = h)
    (touched : Touches [.station i] s u) (own : (u.station i).house = (s.station i).house)
    (counter : (u.station i).counter = (s.station i).counter) (faulted : Faulted u t h cause i) :
    Faulted s t h cause i := by
  have hhouse : ∀ k, u.house k = s.house k := fun k => touched.house (by simp)
  have hother : ∀ j, j ≠ i → u.station j = s.station j := fun j hj => touched.station (by simp [hj])
  have howns : ∀ j, (u.station j).house = (s.station j).house := fun j => by
    by_cases hj : j = i
    · rw [hj, own]
    · rw [hother j hj]
  have hbound : u.boundEntry i = s.boundEntry i := by rw [State.boundEntry, State.boundEntry, own, hhouse]
  unfold Faulted at faulted ⊢
  simp only [hhouse, hbound, touched.clock (show .clock ∉ [Part.station i] by simp), counter, howns] at faulted
  obtain ⟨engine, step, wait, regime, reel, queue, fault, line, motor, dark, stations, houses⟩ := faulted
  exact ⟨engine, step, wait, regime, reel, queue, fault, line, motor, dark,
    fun j hj => (stations j hj).trans (hother j fun heq => hj (by rw [heq, hi])), houses⟩

theorem State.enterFault_attention {s : State} (asserted : s.line.attention = true) (h : HouseId) (cause : FaultCause)
    (i : Option StationId) : (s.enterFault h cause i).line.attention = true := by
  rw [State.line_enterFault]
  split
  · rfl
  · exact asserted

section
variable {s : State} {i : StationId} (engaged : s.engaged i = true)
include engaged

/-- A trip of an engaged station (R155). -/
theorem State.stationTrip_faulted (present : (s.station i).present = true) (fresh : (s.station i).trip = none)
    (cause : StationCause) (cap : CaptureCause) :
    Faulted s (s.stationTrip i cause cap).settle (s.station i).house .trip i := by
  have htouch := s.tripTaken_touches i cause cap
  have hstation : (s.tripTaken i cause cap).station i = (s.station i).trippedBy cause := State.tripTaken_station
  have hother : ∀ j, j ≠ i → (s.tripTaken i cause cap).station j = s.station j := fun j hj => htouch.station (by simp [hj])
  have hhouse : ∀ k, (s.tripTaken i cause cap).house k = s.house k := fun k => htouch.house (by simp)
  have hfaulted : Faulted s (((s.tripTaken i cause cap).enterFault (s.station i).house .trip (some i)).settle)
      (s.station i).house .trip i := by
    refine faulted_of_enterFault .trip rfl (by rw [hhouse]) (by rw [hhouse]) (htouch.clock (by simp)) (fun j => ?_)
      (by rw [hstation]; rfl) (.inr ?_) (fun j hj => hother j fun heq => hj (by rw [heq])) fun k _ => hhouse k
    · by_cases hj : j = i
      · rw [hj, hstation]
        rfl
      · rw [hother j hj]
    · rw [hstation]
      exact (Station.trippedBy_dark _ _).1
  have hown : ((s.tripTaken i cause cap).station i).house = (s.station i).house := by rw [hstation]; rfl
  rw [State.stationTrip_fresh present fresh, engaged, State.tripHouse, if_pos rfl, hown]
  split
  · exact hfaulted.gateAction
  · exact hfaulted

/-- An interlock event of an engaged station, behind changes of the station's motor, demand, doors and lamp (R17). -/
theorem State.interlockEvent_faulted {u : State} {parts : List Part} (touched : Touches parts s u)
    (parts_ : ∀ p ∈ parts, p = .station i ∨ p = .arbiter) (own : (u.station i).house = (s.station i).house)
    (counter : (u.station i).counter = (s.station i).counter) :
    Faulted s (u.interlockEvent i).settle (s.station i).house .interlock i ∧
      (u.interlockEvent i).line.attention = true := by
  have hmono : Touches [.station i, .arbiter] s u := touched.mono fun p hp => by simpa using parts_ p hp
  have hhouse : ∀ k, u.house k = s.house k := fun k => hmono.house (by simp)
  have hother : ∀ j, j ≠ i → u.station j = s.station j := fun j hj => hmono.station (by simp [hj])
  have hengaged : u.engaged i = true := by
    rw [← engaged]
    exact State.engaged_of_house own (by rw [hhouse]) (by rw [hhouse])
  have hevent : u.interlockEvent i = (u.latch (.interlock i)).enterFault (s.station i).house .interlock (some i) := by
    rw [State.interlockEvent, if_pos hengaged, own]
  rw [hevent]
  refine ⟨faulted_of_enterFault .interlock rfl (by rw [State.latch_house, hhouse]) (by rw [State.latch_house, hhouse])
    (hmono.clock (by simp)) (fun j => ?_) counter (.inl ?_) (fun j hj => hother j fun heq => hj (by rw [heq]))
    fun k _ => hhouse k, State.enterFault_attention rfl _ _ _⟩
  · by_cases hj : j = i
    · rw [hj]
      exact own
    · exact congrArg Station.house (hother j hj)
  · exact (State.engaged_congr (s := u) (t := u.latch (.interlock i)) rfl rfl).trans hengaged

end

theorem Station.extinguished_counter (st : Station) : st.extinguished.counter = st.counter := by
  unfold Station.extinguished
  split <;> rfl

/-- Settles O17: a trip or an enforced door of an engaged station is an entry to FAULT of its house. -/
theorem engagedStationFaultsTheHouse : Obligations.EngagedStationFaultsTheHouse := by
  intro s c i cause hevent hengaged
  have hfaulted : ∃ t, exec c s = .next t ∧ Faulted s t (s.station i).house cause i ∧ t.line.attention = true := by
    rcases hevent with ⟨⟨k, cap, event⟩, hfresh, rfl⟩ | ⟨rfl, hpresent, hmode, rfl⟩ | ⟨rfl, hpresent, hmode, rfl⟩
    · obtain ⟨hexec, hpresent, -⟩ := exec_tripEvent event
      have hsame := s.station_opened_same (c := c) (i := i)
      have hpresent' : ((s.opened c i).station i).present = true := by rw [hsame]; exact hpresent
      have hfaulted := State.stationTrip_faulted (s := s.opened c i) (State.opened_engaged.trans hengaged) hpresent'
        (by rw [hsame]; exact hfresh) k cap
      obtain ⟨-, hattention⟩ := State.stationTrip_captured (s := s.opened c i) (cause := k) (cap := cap) hpresent'
      rw [hsame] at hfaulted
      exact ⟨_, hexec, hfaulted.before rfl (s.opened_touches c i) (by rw [hsame]; rfl) (by rw [hsame]; rfl), hattention⟩
    · have hexec : exec (.ldQualified i .opened) s = execLdQualified i .opened s := rfl
      simp only [execLdQualified, hpresent, hmode, decide_true, Bool.and_self, if_true] at hexec
      have htouch := ((s.modStation_touches i fun st => { st with ld := { st.ld with contact := .opened } }).mono
        (by simp)).trans (State.extinguish_touches _ i)
      obtain ⟨hfaulted, hattention⟩ := State.interlockEvent_faulted hengaged htouch (by simp)
        (by rw [State.station_extinguish_same, State.station_modStation_same, Station.extinguished_house])
        (by rw [State.station_extinguish_same, State.station_modStation_same, Station.extinguished_counter])
      exact ⟨_, hexec, hfaulted, hattention⟩
    · have hexec : exec (.mdQualified i .opened) s = execMdQualified i .opened s := rfl
      simp only [execMdQualified, hpresent, hmode, decide_true, Bool.and_self, if_true] at hexec
      have htouch := ((s.modStation_touches i fun st => { st with md := { st.md with contact := .opened } }).trans
        (State.modStation_touches _ i Station.stopMotor)).trans
        (State.modStation_touches _ i fun st => { st with demandOpen := false })
      have hstation : ((((s.modStation i fun st => { st with md := { st.md with contact := .opened } }).stopMotor
          i).closeDemand i).station i) = { ({ s.station i with md := { (s.station i).md with contact := .opened } } :
            Station).stopped with demandOpen := false } := by
        rw [State.closeDemand, State.station_modStation_same, State.station_stopMotor_same, State.station_modStation_same]
      obtain ⟨hfaulted, hattention⟩ := State.interlockEvent_faulted hengaged htouch (by simp)
        (show ((((s.modStation i fun st => { st with md := { st.md with contact := .opened } }).stopMotor
          i).closeDemand i).station i).house = _ by rw [hstation, Station.stopped_eq])
        (show ((((s.modStation i fun st => { st with md := { st.md with contact := .opened } }).stopMotor
          i).closeDemand i).station i).counter = _ by rw [hstation, Station.stopped_eq])
      exact ⟨_, hexec, hfaulted, hattention⟩
  obtain ⟨e, he⟩ := State.engaged_bound hengaged
  obtain ⟨t, hexec, hfaulted, hattention⟩ := hfaulted
  obtain ⟨engine, step, wait, regime, -, queue, fault, -, -, dark, stations, houses⟩ := hfaulted
  refine ⟨t, hexec, engine, regime, step, wait, fun x hx => ?_, ?_, dark, stations, houses, hattention⟩
  · rw [queue] at hx
    obtain ⟨y, -, rfl⟩ := List.mem_map.1 hx
    split
    · nofun
    · assumption
  · rw [fault, he]
    cases (s.house (s.station i).house).fault <;> rfl

end Sys2Proof.Machine

/-!
Every trip event acts at the capture (R153, R157, R162, R163): trips of stations, the booth trip, and a start that finds the
film-break switch open.
-/

namespace Sys2Proof.Machine

/-! ### A booth trip -/

/-- The parts that the actions of a booth trip may move. -/
def boothParts : List Part := .arbiter :: (StationId.all.map Part.station ++ HouseId.all.map Part.house)

theorem station_mem_boothParts (i : StationId) : Part.station i ∈ boothParts := by
  simp [boothParts, StationId.mem_all]

theorem house_mem_boothParts (h : HouseId) : Part.house h ∈ boothParts := by
  simp [boothParts, HouseId.mem_all]

theorem State.tripBooth_touches (s : State) (i : StationId) : Touches [.station i, .arbiter] s (s.tripBooth i) :=
  .ite (fun _ => s.tripStation_touches i .booth) fun _ => .refl _ s

theorem State.suspend_touches (s : State) (h : HouseId) :
    Touches (.house h :: (s.stationsOf h).map .station) s (s.suspend h) :=
  .ite (fun _ => .refl _ s) fun _ =>
    (((s.darkenHouse_touches h).mono (by simp)).trans ((State.holdFade_touches _ h).mono (by simp))).trans
      ((State.modHouse_touches _ h _).mono (by simp))

theorem State.tripBoothHouse_touches (s : State) (h : HouseId) : Touches boothParts s (s.tripBoothHouse h) := by
  refine Touches.trans (.ite (fun _ => .refl _ s) fun _ => (s.suspend_touches h).mono ?_)
    ((State.gateAction_touches _ h).mono (by simpa using house_mem_boothParts h))
  refine List.cons_subset.2 ⟨house_mem_boothParts h, fun p hp => ?_⟩
  obtain ⟨i, -, rfl⟩ := List.mem_map.1 hp
  exact station_mem_boothParts i

theorem State.forHouses_touches {f : HouseId → State → State} {parts : List Part} (l : List HouseId)
    (one : ∀ h ∈ l, ∀ t : State, Touches parts t (f h t)) (s : State) : Touches parts s (s.forHouses l f) := by
  induction l generalizing s with
  | nil => exact .refl _ s
  | cons h l ih =>
    exact (one h List.mem_cons_self s).trans (ih (fun k hk => one k (List.mem_cons_of_mem h hk)) (f h s))

/-- The booth trip itself is all that its actions move of the fire record (R158). -/
theorem State.boothTripActions_touches (s : State) (cause : BoothCause) :
    Touches boothParts { s with fire := { s.fire with booth := some cause } } (s.boothTripActions cause) := by
  refine (State.forStations_touches StationId.all (fun i _ t => ?_) _).trans
    (State.forHouses_touches HouseId.all (fun h _ t => t.tripBoothHouse_touches h) _)
  refine ((t.tripBooth_touches i).mono ?_).trans ((State.dropRunOut_touches _ i).mono ?_)
  · simpa [boothParts] using StationId.mem_all i
  · intro p hp
    simp only [List.mem_cons, List.not_mem_nil, or_false] at hp
    rcases hp with rfl | rfl
    · exact station_mem_boothParts i
    · exact house_mem_boothParts _

/-- A booth trip acts at the capture, and asserts ATTENTION (R157, R162). -/
theorem State.boothTrip_captured (s : State) (cause : BoothCause) :
    (s.boothTrip cause).fire.capture = (s.fire.afterTrip (s.captureFields cause.capture none)).capture ∧
      (s.boothTrip cause).fire.flags = (s.fire.afterTrip (s.captureFields cause.capture none)).flags ∧
      (s.boothTrip cause).fire.further = (s.fire.afterTrip (s.captureFields cause.capture none)).further ∧
      (s.boothTrip cause).line = { s.line with attention := true, sinceReset := true } := by
  rw [← State.captureTrip_fire]
  unfold State.boothTrip
  dsimp only
  split
  · exact ⟨rfl, rfl, rfl, rfl⟩
  · have htouch := (s.captureTrip cause.capture none).boothTripActions_touches cause
    rw [htouch.fire (by simp [boothParts]), htouch.line (by simp [boothParts])]
    exact ⟨rfl, rfl, rfl, rfl⟩

theorem Fire.afterTrip_setInput (f : Fire) (b : BoothInput) (c : Contact) (fields : CaptureFields) :
    ((f.setInput b c).afterTrip fields).capture = (f.afterTrip fields).capture ∧
      ((f.setInput b c).afterTrip fields).flags = (f.afterTrip fields).flags ∧
      ((f.setInput b c).afterTrip fields).further = (f.afterTrip fields).further := by
  unfold Fire.afterTrip
  cases b <;> cases hc : f.capture <;> simp [Fire.setInput, hc]

theorem boothCause_eq_some {c : Instr} {k : BoothCause} (h : boothCause c = some k) :
    ∃ b, c = .boothTripInput b ∧ k = BoothCause.ofInput b := by
  unfold boothCause at h
  split at h
  · exact ⟨.fa, rfl, (Option.some.inj h).symm⟩
  · exact ⟨.mt, rfl, (Option.some.inj h).symm⟩
  · exact ⟨.fl, rfl, (Option.some.inj h).symm⟩
  · cases h

/-! ### A start that finds the film-break switch open -/

section
variable {s : State} {i : StationId}

theorem State.startMotorThen_broken (fb : (s.station i).fb = .opened) (still : (s.station i).motor.running = false)
    (act : State → State) : s.startMotorThen i act = (act (s.modStation i Station.startMotor)).tripBreak i := by
  simp [State.startMotorThen, fb, still]

/-- A station as a start leaves it, its motor not running before (R5). -/
theorem Station.started_still {st : Station} (still : st.motor.running = false) : st.started =
    { st with motor := .runUp, runUpCount := 0, intervalOpen := false, runUpTimer := true, stopTimer := false } := by
  unfold Station.started
  cases hm : st.motor <;> simp [hm, Motor.running] at still ⊢

/-- A station started with its film-break switch open is tripped BREAK in the event, its motor stopping (R153, R154). -/
theorem State.tripBreak_started {u : State} {st : Station} (station : u.station i = st.started)
    (still : st.motor.running = false) (present : st.present = true) (fresh : st.trip = none) :
    ((u.tripBreak i).station i).trip = some .filmBreak ∧ ((u.tripBreak i).station i).motor = .stopping ∧
      (u.tripBreak i).fire = u.fire.afterTrip (u.tripFields i .filmBreak) ∧ (u.tripBreak i).line.attention = true := by
  rw [Station.started_still still] at station
  have hpresent : (u.station i).present = true := by rw [station]; exact present
  obtain ⟨htrip, -, hfresh, -⟩ := State.stationTrip_station (cause := .filmBreak) (cap := .filmBreak) hpresent
  rw [station] at htrip hfresh
  obtain ⟨-, hmotor, -, -⟩ := hfresh fresh
  obtain ⟨hfire, hattention⟩ := State.stationTrip_captured (cause := .filmBreak) (cap := .filmBreak) hpresent
  refine ⟨htrip.trans ?_, hmotor, hfire, hattention⟩
  rw [show ({ st with motor := .runUp, runUpCount := 0, intervalOpen := false, runUpTimer := true, stopTimer := false } :
    Station).trip = none from fresh]
  rfl

end

/-- The capture's fields for a station just started, off the screen (R163). -/
theorem State.tripFields_started {s u : State} {i : StationId} (station : u.station i = (s.station i).started)
    (clock : u.clock = s.clock) (off : (u.house (s.station i).house).onScreen ≠ some i) (cap : CaptureCause) :
    u.tripFields i cap = { cause := cap, station := some i, house := some (s.station i).house, time := s.clock.time
                           counter := some (s.station i).counter, lamp := some (s.station i).lamp.state
                           onScreen := some false } := by
  have hstarted : (s.station i).started.house = (s.station i).house ∧
      (s.station i).started.counter = (s.station i).counter ∧ (s.station i).started.lamp = (s.station i).lamp := by
    unfold Station.started
    split <;> exact ⟨rfl, rfl, rfl⟩
  obtain ⟨hhouse, hcounter, hlamp⟩ := hstarted
  rw [State.tripFields, station, hhouse, hcounter, hlamp, clock, decide_eq_false off]

theorem State.house_action_light (s : State) (h : HouseId) (a : Option LightAction) :
    ∃ l, (s.action h a).house h = { s.house h with light := l } := by
  cases a with
  | none => exact ⟨_, rfl⟩
  | some a => exact ⟨_, s.house_modLight_same h _⟩

/-- A start command of the engine moves the step, the lamp wait and the lights of its house (R47). -/
theorem State.house_runningUp_light (s : State) (h : HouseId) (i : StationId) :
    ∃ l, (s.runningUp h i).house h = { s.house h with step := some .runUp, lampWait := false, light := l } := by
  obtain ⟨l, hl⟩ := ((s.atRunUp h).modStation i Station.startMotor).house_action_light h
    ((s.house h).queue.head?.bind (·.ms))
  refine ⟨l, hl.trans ?_⟩
  rw [State.modStation_house, State.atRunUp, State.house_modHouse_same]

/-- A start whose station finds its film-break switch open stays no further than RUNUP (R47, R153, R155). -/
theorem State.runUpStep_broken {s : State} {h : HouseId} {i : StationId} (allowed : StartAllowed s i)
    (fb : (s.station i).fb = .opened) (still : (s.station i).motor.running = false) (own : (s.station i).house = h)
    (start : (s.house h).startStation = some i) : s.runUpStep h i = (s.runningUp h i).tripBreak i ∧
      Faulted (s.runningUp h i) ((s.runningUp h i).tripBreak i).settle h .trip i := by
  obtain ⟨-, hpresent, htrip, -, -⟩ := id allowed
  have hstation := s.station_runningUp h i
  rw [Station.started_still still] at hstation
  have hown : ((s.runningUp h i).station i).house = h := by rw [hstation]; exact own
  have hstart : ((s.runningUp h i).house h).startStation = some i := by
    obtain ⟨l, hl⟩ := s.house_runningUp_light h i
    rw [hl]
    exact start
  have hfaulted := State.stationTrip_faulted (s := s.runningUp h i) (i := i) (by simp [State.engaged, hown, hstart])
    (by rw [hstation]; exact hpresent) (by rw [hstation]; exact htrip) .filmBreak .filmBreak
  rw [hown] at hfaulted
  have hstep : s.runUpStep h i =
      let u := (s.atRunUp h).startMotorThen i fun v => v.action h ((s.house h).queue.head?.bind (·.ms))
      if (u.house h).engine = .starting && (u.station i).motor = .atSpeed then u.leaderStep h i else u := by
    simp only [State.runUpStep, State.startRefusal_modHouse, State.startRefusal_eq_none.2 allowed]
    rfl
  have hbroken : (s.atRunUp h).startMotorThen i (fun v => v.action h ((s.house h).queue.head?.bind (·.ms))) =
      (s.runningUp h i).tripBreak i := State.startMotorThen_broken (s := s.atRunUp h) fb still _
  have hfault : (((s.runningUp h i).tripBreak i).house h).engine = .fault := hfaulted.1
  refine ⟨?_, hfaulted⟩
  rw [hstep, hbroken]
  simp [hfault]

theorem HouseId.number_inj (h k : HouseId) (same : h.number = k.number) : h = k := by
  cases h <;> cases k <;> simp [HouseId.number] at same ⊢

/-- Settles O18: each event is a trip at the capture with what then follows it. -/
theorem captureTakesTheFirstTrip : Obligations.CaptureTakesTheFirstTrip := by
  intro s c
  refine ⟨fun i cause cap event => ?station, fun k hk f hf => ?booth, fun i hfree hallowed hfb hstill hevent => ?start⟩
  case station =>
    obtain ⟨hexec, hpresent, -⟩ := exec_tripEvent event
    have hsame := s.station_opened_same (c := c) (i := i)
    obtain ⟨hfire, hattention⟩ := State.stationTrip_captured (s := s.opened c i) (cause := cause) (cap := cap)
      (by rw [hsame]; exact hpresent)
    rw [State.opened_tripFields] at hfire
    exact ⟨_, hexec, hattention, hfire⟩
  case booth =>
    subst hf
    rcases hk with hk | ⟨rfl, rfl, hfree⟩
    · obtain ⟨b, rfl, rfl⟩ := boothCause_eq_some hk
      obtain ⟨hcapture, hflags, hfurther, hline⟩ :=
        State.boothTrip_captured { s with fire := s.fire.setInput b .opened } (BoothCause.ofInput b)
      obtain ⟨hcapture', hflags', hfurther'⟩ := s.fire.afterTrip_setInput b .opened
        (s.captureFields (BoothCause.ofInput b).capture none)
      exact ⟨_, rfl, congrArg LineUnit.attention hline, hcapture.trans hcapture', hflags.trans hflags',
        hfurther.trans hfurther'⟩
    · obtain ⟨hcapture, hflags, hfurther, hline⟩ := s.boothTrip_captured .console
      have hexec := exec_console_free (c := .ft) rfl hfree
      exact ⟨_, hexec, congrArg LineUnit.attention hline, hcapture, hflags, hfurther⟩
  case start =>
    obtain ⟨hnormal, hpresent, htrip, hbooth, hmd⟩ := id hallowed
    rcases hevent with ⟨rfl, hand⟩ | ⟨h, rfl, he, hport, hown, hlit, e, hhead, hthreaded, hbound⟩
    · have ha := answerMo_on hand hallowed
      rw [State.startMotorThen_broken hfb hstill] at ha
      have hstation : (s.modStation i Station.startMotor).station i = (s.station i).started := by
        rw [State.station_modStation_same, Station.startMotor_eq]
      obtain ⟨htripped, hmotor, hfire, hattention⟩ := State.tripBreak_started hstation hstill hpresent htrip
      have hoff : (s.house (s.station i).house).onScreen ≠ some i := (State.not_engaged_iff.1 hand.2.1).2.1
      rw [State.tripFields_started hstation rfl hoff] at hfire
      have hexec := exec_console_free (c := .mo i.number true) rfl hfree
      rw [ha] at hexec
      exact ⟨_, hexec, hattention, htripped, hmotor, hfire, nofun⟩
    · have hgo : s.goCheck h = .ok i := by
        rw [State.goCheck_startable (EngineState.startable_iff.2 he), House.threadedHead_of hhead hthreaded, hbound]
        simp [hport, State.tripped, htrip, hbooth]
      have hstart : (s.atStart h).house h = (s.house h).atStart := State.house_modHouse_same _ _ _
      have hstartStation : ((s.atStart h).house h).startStation = some i := by
        rw [hstart]
        show (s.house h).queue.head?.bind (·.bound) = some i
        rw [hhead]
        exact hbound
      obtain ⟨hbroken, hfaulted⟩ := State.runUpStep_broken (s := s.atStart h) hallowed hfb hstill hown hstartStation
      have hexec := exec_console_free (c := .go h.number) rfl hfree
      rw [answerGo_taken hgo, State.startSequence_burns hlit, hbroken] at hexec
      have hstation := (s.atStart h).station_runningUp h i
      obtain ⟨htripped, hmotor, hfire, hattention⟩ := State.tripBreak_started hstation hstill hpresent htrip
      have htouch := (s.atStart h).runningUp_touches h i
      obtain ⟨l, hlight⟩ := (s.atStart h).house_runningUp_light h i
      rw [hstart] at hlight
      have hoff : (((s.atStart h).runningUp h i).house ((s.atStart h).station i).house).onScreen ≠ some i := by
        rw [show ((s.atStart h).station i).house = h from hown, hlight]
        nofun
      rw [State.tripFields_started hstation (htouch.clock (by simp)) hoff, htouch.fire (by simp)] at hfire
      refine ⟨_, hexec, hattention, htripped, hmotor, hfire, fun k hk => ?_⟩
      obtain rfl : h = k := HouseId.number_inj h k (Int.ofNat.inj (Instr.go.inj hk))
      obtain ⟨hengine, -, -, -, -, -, hfault, -⟩ := hfaulted
      refine ⟨hengine, fun hnone => ?_⟩
      have hnone' : (((s.atStart h).runningUp h i).house h).fault = none := by rw [hlight]; exact hnone
      rw [hnone'] at hfault
      exact ⟨_, hfault, rfl, rfl⟩

end Sys2Proof.Machine

/-!
The booth trip, the reading of the capture, fire clear, gate events and the ports (R152, R156 to R158, R161, R164 to R167).
-/

namespace Sys2Proof.Machine

/-! ### One act at each station or house of a list -/

section
variable {P : State → Prop}

/-- In a loop of acts that leave other stations alone, a station's own act finds it as it stood before the loop. -/
theorem State.forStations_at {f : StationId → State → State} (other : ∀ i t j, j ≠ i → (f i t).station j = t.station j)
    (keeps : ∀ i t, P t → P (f i t)) {l : List StationId} (once : l.Nodup) {s : State} (hs : P s) {j : StationId}
    (hj : j ∈ l) : ∃ u, P u ∧ u.station j = s.station j ∧ (s.forStations l f).station j = (f j u).station j := by
  have apart : ∀ (l : List StationId) (t : State), j ∉ l → (t.forStations l f).station j = t.station j := by
    intro l
    induction l with
    | nil => exact fun t _ => rfl
    | cons i l ih =>
      intro t hnot
      rw [List.mem_cons, not_or] at hnot
      exact (ih (f i t) hnot.2).trans (other i t j hnot.1)
  induction l generalizing s with
  | nil => cases hj
  | cons i l ih =>
    obtain ⟨hi, hl⟩ := List.nodup_cons.1 once
    rcases List.mem_cons.1 hj with rfl | hmem
    · exact ⟨s, hs, rfl, apart l (f j s) hi⟩
    · obtain ⟨u, hu, hsame, hdone⟩ := ih hl (keeps i s hs) hmem
      refine ⟨u, hu, hsame.trans (other i s j ?_), hdone⟩
      exact fun heq => hi (heq ▸ hmem)

/-- In a loop of acts that leave other houses alone, a house's own act finds it as it stood before the loop. -/
theorem State.forHouses_at {f : HouseId → State → State} (other : ∀ h t k, k ≠ h → (f h t).house k = t.house k)
    (keeps : ∀ h t, P t → P (f h t)) {l : List HouseId} (once : l.Nodup) {s : State} (hs : P s) {k : HouseId}
    (hk : k ∈ l) : ∃ u, P u ∧ u.house k = s.house k ∧ (s.forHouses l f).house k = (f k u).house k := by
  have apart : ∀ (l : List HouseId) (t : State), k ∉ l → (t.forHouses l f).house k = t.house k := by
    intro l
    induction l with
    | nil => exact fun t _ => rfl
    | cons h l ih =>
      intro t hnot
      rw [List.mem_cons, not_or] at hnot
      exact (ih (f h t) hnot.2).trans (other h t k hnot.1)
  induction l generalizing s with
  | nil => cases hk
  | cons h l ih =>
    obtain ⟨hh, hl⟩ := List.nodup_cons.1 once
    rcases List.mem_cons.1 hk with rfl | hmem
    · exact ⟨s, hs, rfl, apart l (f k s) hh⟩
    · obtain ⟨u, hu, hsame, hdone⟩ := ih hl (keeps h s hs) hmem
      refine ⟨u, hu, hsame.trans (other h s k ?_), hdone⟩
      exact fun heq => hh (heq ▸ hmem)

end

/-! ### FQ and FC -/

section
variable {s : State}

theorem answerFq_empty (h : s.fire.capture = .empty) : answer .fq s = (s, .okNone) := by
  simp [answer, answerFq, h]

theorem answerFq_read {f : CaptureFields} (h : s.fire.capture = .read f) :
    answer .fq s = (s, .record (f.words s.fire.flags s.fire.further)) := by
  simp [answer, answerFq, h]

theorem answerFq_locked {f : CaptureFields} (h : s.fire.capture = .locked f) : answer .fq s =
    ({ s with fire := { s.fire with capture := .read f, flags := Fire.initial.flags, further := 0 } },
      .record (f.words s.fire.flags s.fire.further)) := by
  simp [answer, answerFq, h]

theorem answerFc_locked {f : CaptureFields} (h : s.fire.capture = .locked f) : answer .fc s = (s, .no .lk) := by
  simp [answer, answerFc, checked_eq, firstRefusal, Fire.captureLocked, h]

theorem Fire.captureLocked_eq_false {f : Fire} (h : ∀ x, f.capture ≠ .locked x) : f.captureLocked = false := by
  unfold Fire.captureLocked
  split
  · exact absurd ‹_› (h _)
  · rfl
  · rfl

theorem answerFc_stands (free : ∀ f, s.fire.capture ≠ .locked f) (stands : s.inputStands = true) :
    answer .fc s = (s, .no .fi) := by
  simp [answer, answerFc, checked_eq, firstRefusal, Fire.captureLocked_eq_false free, stands]

theorem answerFc_taken (free : ∀ f, s.fire.capture ≠ .locked f) (clear : s.inputStands = false) :
    answer .fc s = (s.fireClear, .ok) := by
  simp [answer, answerFc, checked_eq, firstRefusal, Fire.captureLocked_eq_false free, clear]

theorem State.inputStands_iff : s.inputStands = true ↔
    s.fire.fa = .opened ∨ s.fire.mt = .opened ∨ s.fire.fl = .opened ∨
      ∃ i, (s.station i).present = true ∧ ((s.station i).gh = .opened ∨ (s.station i).lt = .opened) := by
  simp [State.inputStands, StationId.mem_all, or_assoc]

end

/-- Fire clear ends every trip and takes each house out of SUSPENDED (R166). -/
theorem State.fireClear_spec (s : State) :
    s.fireClear.clock = s.clock ∧ s.fireClear.arbiter = s.arbiter ∧ s.fireClear.straps = s.straps ∧
      s.fireClear.pending = s.pending ∧ s.fireClear.line = s.line ∧ s.fireClear.fire = { s.fire with booth := none } ∧
      (∀ i, s.fireClear.station i = { s.station i with trip := none }) ∧
      ∀ h, s.fireClear.house h = { (s.house h).unsuspend with light := (s.house h).light.fireToPanic } := by
  refine ⟨rfl, rfl, rfl, rfl, rfl, rfl, fun i => ?_, fun h => ?_⟩
  · cases i <;> rfl
  · exact State.house_forHouses_all _ (fun hs => { hs.unsuspend with light := hs.light.fireToPanic }) h

theorem Light.fireToPanic_eq (l : Light) : l.fireToPanic = { l with
    fire := .clear, panic := if l.fire = .set then .set else l.panic } := by
  obtain ⟨_, _, _, _, fire, _⟩ := l
  cases fire <;> rfl

/-- What fire clear makes of a house (R67). -/
theorem House.unsuspend_spec (hs : House) :
    hs.unsuspend.queue = hs.queue ∧ hs.unsuspend.fault = hs.fault ∧ hs.unsuspend.port = hs.port ∧
      (hs.engine ≠ .suspended → hs.unsuspend.engine = hs.engine) ∧
      (hs.engine = .suspended → hs.unsuspend.showRunning = false ∧ hs.unsuspend.engine =
        if hs.fault.isSome then .fault else if hs.showRunning = true ∧ hs.queue ≠ [] then .hold
        else if hs.headBound then .ready else .idle) := by
  unfold House.unsuspend
  by_cases he : hs.engine = .suspended
  · rw [if_pos he]
    by_cases hf : hs.fault.isSome = true
    · simp [hf, he]
    · by_cases hr : hs.showRunning = true ∧ hs.queue ≠ []
      · simp [hf, hr, he]
      · have hrests : (hs.showRunning && !hs.queue.isEmpty) = false := by
          simpa [Bool.and_eq_false_iff, List.isEmpty_iff] using hr
        simp only [hf, hr, he, hrests, House.toIdle, House.readyTest]
        refine ⟨rfl, rfl, rfl, fun h => absurd rfl h, fun _ => ⟨rfl, rfl⟩⟩
  · simp [he]

/-- Settles O51: FQ reads the capture, and FC, once the checks of R165 pass, is one change of every record. -/
theorem captureReadAndFireClear : Obligations.CaptureReadAndFireClear := by
  refine ⟨fun s hfree => ⟨fun h => exec_of_unchanged rfl hfree (answerFq_empty h), fun f h => ?_, fun f h => ?_⟩,
    fun s hfree => ⟨fun f h => exec_of_refused rfl hfree (answerFc_locked h),
      fun hread hstands => exec_of_refused rfl hfree (answerFc_stands hread (State.inputStands_iff.2 hstands)),
      fun hread hfa hmt hfl hinputs => ?_⟩⟩
  · obtain ⟨t, hexec, hanswered, honly⟩ := exec_of_unchanged rfl hfree (answerFq_read h)
    exact ⟨t, hexec, honly, hanswered⟩
  · obtain ⟨hexec, honly⟩ := exec_of_touches (parts := [.fire, .line]) rfl hfree (answerFq_locked h)
      ((s.fire_touches _).mono (by simp)) (by simp)
    exact ⟨_, hexec, honly, answered_of_line rfl _, rfl⟩
  · have hclear : s.inputStands = false := by
      rw [← Bool.not_eq_true, State.inputStands_iff]
      rintro (h | h | h | ⟨i, hp, h⟩)
      · simp [hfa] at h
      · simp [hmt] at h
      · simp [hfl] at h
      · obtain ⟨hgh, hlt⟩ := hinputs i hp
        simp [hgh, hlt] at h
    obtain ⟨hclock, harbiter, hstraps, hpending, hline, hfire, hstations, hhouses⟩ := s.fireClear_spec
    refine ⟨_, by rw [exec_console_free rfl hfree, answerFc_taken hread hclear], answered_of_line hline .ok, hclock,
      harbiter, hstraps, hpending, hfire, hstations, fun h => ?_⟩
    obtain ⟨hqueue, hfault, hport, hstays, hleaves⟩ := (s.house h).unsuspend_spec
    rw [State.settle_house, State.startReply_house, hhouses h]
    exact ⟨Light.fireToPanic_eq _, hqueue, hfault, hport, hstays, hleaves⟩

end Sys2Proof.Machine

/-!
Gate events, release pulses and inputs that close again (R152, R156, R161).
-/

namespace Sys2Proof.Machine

/-! ### Acts on a house that leave its panic layer and its ports alone -/

/-- The records of a house that a trip leaves alone: the PANIC layer and the port state (R156, R160). -/
def House.SamePorts (a b : House) : Prop := b.light.panic = a.light.panic ∧ b.port = a.port

theorem Light.fadeStart_panic (l : Light) (level time : Nat) : (l.fadeStart level time).panic = l.panic := by
  unfold Light.fadeStart
  dsimp only
  split <;> rfl

theorem House.readyTest_samePorts (hs : House) : hs.SamePorts hs.readyTest := by
  unfold House.readyTest
  split <;> exact ⟨rfl, rfl⟩

section
variable (s : State)

theorem State.dropRunOut_samePorts (i : StationId) (h : HouseId) :
    (s.house h).SamePorts ((s.dropRunOut i).house h) := by
  by_cases hh : h = (s.station i).house
  · subst hh
    unfold State.dropRunOut
    split
    · split
      · rw [show (s.removeEntry i).house (s.station i).house = _ from s.house_modQueue _ _ _, if_pos rfl]
        exact ⟨rfl, rfl⟩
      · exact ⟨rfl, rfl⟩
    · exact ⟨rfl, rfl⟩
  · rw [s.house_dropRunOut_other hh]
    exact ⟨rfl, rfl⟩

theorem State.enterFault_samePorts (h : HouseId) (cause : FaultCause) (i : Option StationId) (k : HouseId) :
    (s.house k).SamePorts ((s.enterFault h cause i).house k) := by
  rw [State.house_enterFault]
  split
  · rename_i hk
    rw [hk]
    exact ⟨Light.fadeStart_panic _ _ _, rfl⟩
  · exact ⟨rfl, rfl⟩

theorem State.tripHouse_samePorts (i : StationId) (b : Bool) (h : HouseId) :
    (s.house h).SamePorts ((s.tripHouse i b).house h) := by
  unfold State.tripHouse
  split
  · exact s.enterFault_samePorts _ _ _ h
  · obtain ⟨hpanic, hport⟩ := s.dropRunOut_samePorts i h
    rw [State.house_readyTest]
    split
    · rename_i hh
      rw [← hh]
      obtain ⟨hpanic', hport'⟩ := ((s.dropRunOut i).house h).readyTest_samePorts
      exact ⟨hpanic'.trans hpanic, hport'.trans hport⟩
    · exact ⟨hpanic, hport⟩

/-- The outputs of a house whose lights the FIRE layer takes and whose ports are released (R139, R161). -/
theorem House.pins_fire {hs : House} (fire : hs.light.fire = .set) (pulse : hs.releasePulse = true) :
    hs.pins = { pr := true, dl := 1000 } := by
  simp [House.pins, Light.effective, fire, pulse]

theorem State.settle_housePins (h : HouseId) : s.settle.pins.houses.get h = (s.house h).pins := by
  cases h <;> rfl

/-- A GATE trip ends in the action on the house of the station (R156). -/
theorem State.house_gateTrip {i : StationId} (present : (s.station i).present = true) (cap : CaptureCause) :
    ((s.stationTrip i .gate cap).house (s.station i).house).light.fire = .set ∧
      ((s.stationTrip i .gate cap).house (s.station i).house).releasePulse = true ∧
      (s.house (s.station i).house).SamePorts ((s.stationTrip i .gate cap).house (s.station i).house) := by
  cases htrip : (s.station i).trip with
  | some c =>
    rw [State.stationTrip_again present (by rw [htrip]; rfl), if_pos rfl, State.house_gateAction]
    exact ⟨rfl, rfl, rfl, rfl⟩
  | none =>
    rw [State.stationTrip_fresh present htrip, if_pos rfl, State.house_gateAction]
    obtain ⟨hpanic, hport⟩ := (s.tripTaken i .gate cap).tripHouse_samePorts i (s.engaged i) (s.station i).house
    rw [(s.tripTaken_touches i .gate cap).house (by simp)] at hpanic hport
    exact ⟨rfl, rfl, hpanic, hport⟩

end

/-! ### The end of a release pulse -/

theorem exec_releasePulseEnd {s : State} {h : HouseId} (pulse : (s.house h).releasePulse = true) :
    ∃ t, exec (.releasePulseEnd h) s = .next t ∧ ChangesOnly [.house h, .line] s t ∧
      t.house h = { s.house h with releasePulse := false } ∧ (t.pins.houses.get h).pr = false ∧
      t.line = if (s.house h).port = .up then s.line.warned (.portStuck h) else s.line := by
  have hexec : exec (.releasePulseEnd h) s = done
      (if (s.house h).port = .up then (s.modHouse h fun hs => { hs with releasePulse := false }).latch (.portStuck h)
        else s.modHouse h fun hs => { hs with releasePulse := false }) := by
    show execReleasePulseEnd h s = _
    unfold execReleasePulseEnd
    rw [if_pos pulse]
  have htouch := (s.modHouse_touches h fun hs => { hs with releasePulse := false })
  have hhouse := s.house_modHouse_same h fun hs => { hs with releasePulse := false }
  by_cases hport : (s.house h).port = .up
  · rw [if_pos hport] at hexec ⊢
    have hlatch := State.latch_touches (s.modHouse h fun hs => { hs with releasePulse := false }) (.portStuck h)
    have hlatched := (hlatch.house (by simp)).trans hhouse
    refine ⟨_, hexec, ((htouch.mono (by simp)).trans (hlatch.mono (by simp))).settle, hlatched, ?_, ?_⟩
    · rw [State.settle_housePins, hlatched]
      rfl
    · exact State.latch_line _ _
  · rw [if_neg hport] at hexec ⊢
    refine ⟨_, hexec, (htouch.mono (by simp)).settle, hhouse, ?_, rfl⟩
    rw [State.settle_housePins, hhouse]
    rfl

/-- Settles O52: a gate trip ends in the action of R156; a pulse end and a closing input are one change each. -/
theorem gateReleasesPortsAndInputsClose : Obligations.GateReleasesPortsAndInputsClose := by
  refine ⟨fun s i hpresent => ?_, fun s h => ⟨exec_releasePulseEnd, fun i => ⟨?_, ?_, ?_⟩, ?_, ?_, ?_⟩⟩
  · obtain ⟨hexec, -, -⟩ := exec_tripEvent (s := s) (c := .ghOpen i) (cause := .gate) (cap := .gate) (i := i)
      (by simp [State.tripEvent, hpresent])
    have hsame := s.station_opened_same (c := .ghOpen i) (i := i)
    have hown : ((s.opened (.ghOpen i) i).station i).house = (s.station i).house := by rw [hsame]; rfl
    obtain ⟨hfire, hpulse, hpanic, hport⟩ :=
      (s.opened (.ghOpen i) i).house_gateTrip (i := i) (by rw [hsame]; exact hpresent) .gate
    rw [hown] at hfire hpulse hpanic hport
    exact ⟨_, hexec, hfire, hpulse, (State.settle_housePins _ _).trans (House.pins_fire hfire hpulse), hpanic, hport,
      fun h hh => State.house_stationTrip_other _ _ _ (by rwa [hown])⟩
  · exact ⟨_, rfl, (s.modStation_touches i _).settle, by rw [State.settle_station, State.station_modStation_same]⟩
  · exact ⟨_, rfl, (s.modStation_touches i _).settle, by rw [State.settle_station, State.station_modStation_same]⟩
  · exact ⟨_, rfl, (s.modStation_touches i _).settle, by rw [State.settle_station, State.station_modStation_same]⟩
  · exact ⟨_, rfl, (s.fire_touches _).settle, rfl⟩
  · exact ⟨_, rfl, (s.fire_touches _).settle, rfl⟩
  · exact ⟨_, rfl, (s.fire_touches _).settle, rfl⟩

end Sys2Proof.Machine

/-!
The booth trip as a whole: every present station tripped, every house suspended, lit and its ports released (R157, R158).
-/

namespace Sys2Proof.Machine

/-! ### What it makes of a station -/

/-- A station as a booth trip leaves it: tripped where it is present, its first cause kept, its assignment, its counter and
its carbon as they were (R158). -/
structure Station.BoothTripped (a b : Station) : Prop where
  trip : b.trip = if a.present = true then some (a.trip.getD .booth) else a.trip
  house : b.house = a.house
  present : b.present = a.present
  counter : b.counter = a.counter
  rp : b.carbon.rp = a.carbon.rp

theorem Station.trippedBy_carbon_rp (st : Station) (cause : StationCause) :
    (st.trippedBy cause).carbon.rp = st.carbon.rp := by
  show st.extinguished.carbon.rp = _
  unfold Station.extinguished
  split
  · rfl
  · dsimp only
    split <;> rfl

/-- The assignment and the trim class of a station. -/
def Station.SamePlace (a b : Station) : Prop := b.house = a.house ∧ b.trim = a.trim

section
variable (s : State)

theorem State.station_tripBooth (i : StationId) : (s.station i).BoothTripped ((s.tripBooth i).station i) := by
  unfold State.tripBooth
  split
  · rename_i hfresh
    simp only [Bool.and_eq_true, Option.isNone_iff_eq_none] at hfresh
    obtain ⟨hpresent, htrip⟩ := hfresh
    rw [State.station_tripStation]
    exact ⟨by rw [if_pos hpresent, htrip]; rfl, rfl, rfl, rfl, Station.trippedBy_carbon_rp _ _⟩
  · rename_i hnot
    refine ⟨?_, rfl, rfl, rfl, rfl⟩
    split
    · rename_i hpresent
      cases htrip : (s.station i).trip with
      | none => exact absurd (by simp [hpresent, htrip]) hnot
      | some c => rfl
    · rfl

theorem Station.BoothTripped.sameTrip {a b c : Station} (tripped : a.BoothTripped b) (same : b.SameTrip c)
    (place : b.SamePlace c) : a.BoothTripped c := by
  obtain ⟨htrip, -, hcarbon, -, hcounter⟩ := same
  obtain ⟨hhouse, htrim⟩ := place
  exact ⟨htrip.trans tripped.trip, hhouse.trans tripped.house,
    (show b.present = c.present by unfold Station.present; rw [htrim]).symm.trans tripped.present,
    hcounter.trans tripped.counter, (congrArg _ hcarbon).trans tripped.rp⟩

/-- Every station keeps its trip, its lamp, its counter and its place. -/
def State.SameTrips (s t : State) : Prop :=
  ∀ j, (s.station j).SameTrip (t.station j) ∧ (s.station j).SamePlace (t.station j)

theorem State.SameTrips.refl : s.SameTrips s := fun _ => ⟨.refl _, rfl, rfl⟩

variable {s} in
theorem State.SameTrips.trans {t u : State} (hs : s.SameTrips t) (ht : t.SameTrips u) : s.SameTrips u := by
  intro j
  obtain ⟨⟨htrip, hlamp, hcarbon, hchannel, hcounter⟩, hhouse, htrim⟩ := hs j
  obtain ⟨⟨htrip', hlamp', hcarbon', hchannel', hcounter'⟩, hhouse', htrim'⟩ := ht j
  exact ⟨⟨htrip'.trans htrip, hlamp'.trans hlamp, hcarbon'.trans hcarbon, hchannel'.trans hchannel,
    hcounter'.trans hcounter⟩, hhouse'.trans hhouse, htrim'.trans htrim⟩

variable {s} in
theorem State.SameTrips.mode {t : State} (same : s.SameTrips t) (h : HouseId) : t.mode h = s.mode h :=
  State.mode_congr h (fun j => (same j).2.1) fun j => by unfold Station.present; rw [(same j).2.2]

theorem State.suspend_sameTrips (h : HouseId) : s.SameTrips (s.suspend h) := by
  intro j
  unfold State.suspend
  split
  · exact ⟨.refl _, rfl, rfl⟩
  · rw [show (((s.darkenHouse h).holdFade h).modHouse h House.toSuspended).station j = (s.darkenHouse h).station j from rfl,
      State.station_darkenHouse]
    split
    · exact ⟨⟨rfl, rfl, rfl, rfl, rfl⟩, rfl, rfl⟩
    · exact ⟨.refl _, rfl, rfl⟩

theorem State.tripBoothHouse_sameTrips (h : HouseId) : s.SameTrips (s.tripBoothHouse h) := by
  intro j
  unfold State.tripBoothHouse
  dsimp only
  rw [(State.gateAction_touches _ h).station (by simp)]
  split
  · exact ⟨.refl _, rfl, rfl⟩
  · exact s.suspend_sameTrips h j

end

/-! ### What it makes of a house -/

/-- A house as a booth trip leaves it (R66, R156, R158). -/
structure House.BoothTripped (unused : Prop) (a b : House) : Prop where
  fire : b.light.fire = .set
  pulse : b.releasePulse = true
  port : b.port = a.port
  suspended : ¬ unused ∨ a.engine ≠ .idle → b.engine = .suspended ∧ b.fault = a.fault ∧
    (a.engine ≠ .suspended → b.showRunning = decide (a.engine ∉ [.idle, .ready]))

theorem EngineState.showAtTrip_eq {e : EngineState} (show_ : e ≠ .suspended) :
    e.showAtTrip = decide (e ∉ [.idle, .ready]) := by
  cases e <;> first | rfl | exact absurd rfl show_

section
variable (s : State)

theorem State.house_suspend (h : HouseId) : ((s.suspend h).house h).port = (s.house h).port ∧
    ((s.suspend h).house h).engine = .suspended ∧ ((s.suspend h).house h).fault = (s.house h).fault ∧
    ((s.house h).engine ≠ .suspended →
      ((s.suspend h).house h).showRunning = decide ((s.house h).engine ∉ [.idle, .ready])) := by
  unfold State.suspend
  split
  · rename_i hs
    exact ⟨rfl, hs, rfl, fun hnot => absurd hs hnot⟩
  · have hhouse : (((s.darkenHouse h).holdFade h).modHouse h House.toSuspended).house h = House.toSuspended
        { s.house h with light := (s.house h).light.fadeStart (s.house h).settings.level (s.house h).settings.fade } := by
      rw [State.house_modHouse_same, State.holdFade, State.fade, State.house_modLight_same,
        State.house_of_houses (s.darkenHouse_houses h)]
    rw [hhouse]
    exact ⟨rfl, rfl, rfl, EngineState.showAtTrip_eq⟩

theorem State.house_tripBoothHouse (h : HouseId) :
    (s.house h).BoothTripped (s.mode h = .unused) ((s.tripBoothHouse h).house h) := by
  unfold State.tripBoothHouse
  dsimp only
  rw [State.house_gateAction]
  split
  · rename_i hrest
    simp only [Bool.and_eq_true, decide_eq_true_eq] at hrest
    exact ⟨rfl, rfl, rfl, fun hnot => absurd hrest (by simpa [or_iff_not_imp_left] using hnot)⟩
  · obtain ⟨hport, hengine, hfault, hshow⟩ := s.house_suspend h
    exact ⟨rfl, rfl, hport, fun _ => ⟨hengine, hfault, hshow⟩⟩

theorem State.tripBoothHouse_house {h k : HouseId} (hk : k ≠ h) : (s.tripBoothHouse h).house k = s.house k := by
  unfold State.tripBoothHouse
  dsimp only
  rw [(State.gateAction_touches _ h).house (by simp [hk])]
  split
  · rfl
  · exact (s.suspend_touches h).house (by simp [hk])

theorem State.tripBoothHouse_arbiter (h : HouseId) : (s.tripBoothHouse h).arbiter = s.arbiter := by
  unfold State.tripBoothHouse
  dsimp only
  rw [(State.gateAction_touches _ h).arbiter (by simp)]
  split
  · rfl
  · exact (s.suspend_touches h).arbiter (by simp)

end

/-! ### The stations, then the houses -/

section
variable (s : State)

/-- The state of a booth trip with its stations tripped and RUN-OUT entries gone, its houses still as they were. -/
def State.boothStations (s : State) : State :=
  s.forStations StationId.all fun i t => (t.tripBooth i).dropRunOut i

theorem State.tripBooth_dropRunOut_touches (i : StationId) :
    Touches [.station i, .house (s.station i).house, .arbiter] s ((s.tripBooth i).dropRunOut i) := by
  have hown : ((s.tripBooth i).station i).house = (s.station i).house := (s.station_tripBooth i).house
  exact ((s.tripBooth_touches i).mono (by simp)).trans
    (((s.tripBooth i).dropRunOut_touches i).mono (by rw [hown]; simp))

theorem State.station_boothStations (j : StationId) : (s.station j).BoothTripped (s.boothStations.station j) := by
  obtain ⟨u, -, hu, hj⟩ := State.forStations_at (P := fun _ => True) (s := s) (l := StationId.all) (j := j)
    (f := fun i t => (t.tripBooth i).dropRunOut i)
    (fun i t j hj => (t.tripBooth_dropRunOut_touches i).station (by simp [hj])) (fun _ _ _ => trivial) (by decide) trivial
    j.mem_all
  rw [State.boothStations, hj]
  obtain ⟨m, hm⟩ := (u.tripBooth j).station_dropRunOut j j
  rw [hm, ← hu]
  exact (u.station_tripBooth j).sameTrip ⟨rfl, rfl, rfl, rfl, rfl⟩ ⟨rfl, rfl⟩

theorem State.house_dropRunOut_queue (i : StationId) (h : HouseId) :
    ∃ q, (s.dropRunOut i).house h = { s.house h with queue := q } := by
  unfold State.dropRunOut
  split
  · split
    · rw [show (s.removeEntry i).house h = _ from s.house_modQueue _ _ _]
      split
      · rename_i hh
        exact ⟨_, by rw [hh]⟩
      · exact ⟨_, rfl⟩
    · exact ⟨_, rfl⟩
  · exact ⟨_, rfl⟩

theorem State.house_boothStations (h : HouseId) : ∃ q, s.boothStations.house h = { s.house h with queue := q } := by
  refine State.forStations_keeps (fun t => ∃ q, t.house h = { s.house h with queue := q }) _ (fun i t ht => ?_) _ _ ⟨_, rfl⟩
  obtain ⟨q, hq⟩ := ht
  obtain ⟨q', hq'⟩ := (t.tripBooth i).house_dropRunOut_queue i h
  refine ⟨q', hq'.trans ?_⟩
  rw [(t.tripBooth_touches i).house (by simp), hq]

theorem State.boothStations_order : s.boothStations.arbiter.order = s.arbiter.order := by
  refine State.forStations_keeps (fun t => t.arbiter.order = s.arbiter.order) _ (fun i t ht => ?_) _ _ rfl
  rw [(State.dropRunOut_touches _ i).arbiter (by simp), ← ht]
  unfold State.tripBooth
  split
  · rw [State.tripStation_arbiter]
    unfold Arbiter.without
    split <;> rfl
  · rfl

theorem State.mode_boothStations (h : HouseId) : s.boothStations.mode h = s.mode h :=
  State.mode_congr h (fun j => (s.station_boothStations j).house) fun j => (s.station_boothStations j).present

/-- What a booth trip makes of each station, each house and the arbiter's order (R158). -/
theorem State.boothTripActions_spec (cause : BoothCause) :
    (∀ j, (s.station j).BoothTripped ((s.boothTripActions cause).station j)) ∧
      (∀ h, (s.house h).BoothTripped (s.mode h = .unused) ((s.boothTripActions cause).house h)) ∧
      (s.boothTripActions cause).arbiter.order = s.arbiter.order := by
  generalize hu : State.boothStations { s with fire := { s.fire with booth := some cause } } = u
  have hacts : s.boothTripActions cause = u.forHouses HouseId.all fun h t => t.tripBoothHouse h := by rw [← hu]; rfl
  have hstation : ∀ j, (s.station j).BoothTripped (u.station j) := fun j => by
    rw [← hu]
    exact State.station_boothStations { s with fire := { s.fire with booth := some cause } } j
  have hmode : ∀ h, u.mode h = s.mode h := fun h => by
    rw [← hu]
    exact State.mode_boothStations { s with fire := { s.fire with booth := some cause } } h
  have hhouse : ∀ h, ∃ q, u.house h = { s.house h with queue := q } := fun h => by
    rw [← hu]
    exact State.house_boothStations { s with fire := { s.fire with booth := some cause } } h
  have hkeeps : ∀ h (t : State), u.SameTrips t → u.SameTrips (t.tripBoothHouse h) :=
    fun h t ht => ht.trans (t.tripBoothHouse_sameTrips h)
  rw [hacts]
  refine ⟨fun j => ?_, fun h => ?_, ?_⟩
  · obtain ⟨hsame, hplace⟩ := State.forHouses_keeps u.SameTrips (fun h t => t.tripBoothHouse h) hkeeps HouseId.all u
      (.refl u) j
    exact (hstation j).sameTrip hsame hplace
  · obtain ⟨v, hv, hsame, hdone⟩ := State.forHouses_at (P := u.SameTrips) (f := fun h t => t.tripBoothHouse h)
      (l := HouseId.all) (s := u) (k := h) (fun h t k hk => t.tripBoothHouse_house hk) hkeeps (by decide) (.refl u)
      h.mem_all
    obtain ⟨q, hq⟩ := hhouse h
    have htripped := v.house_tripBoothHouse h
    rw [hsame, hq, hv.mode h, hmode] at htripped
    rw [hdone]
    exact ⟨htripped.fire, htripped.pulse, htripped.port, htripped.suspended⟩
  · refine Eq.trans (State.forHouses_keeps (fun t => t.arbiter.order = u.arbiter.order) _ (fun h t ht => ?_) _ _ rfl) ?_
    · rw [State.tripBoothHouse_arbiter, ht]
    · rw [← hu, State.boothStations_order]

end

/-! ### The events of R157 -/

theorem State.boothTrip_inForce {s : State} {k : BoothCause} (inForce : s.fire.booth.isSome = true) :
    s.boothTrip k = s.captureTrip k.capture none := by
  unfold State.boothTrip
  rw [if_pos inForce]

theorem Fire.captureTrip_booth (f : Fire) (fields : CaptureFields) : (f.captureTrip fields).booth = f.booth := by
  unfold Fire.captureTrip
  split <;> rfl

theorem LampState.onSupply_of_out {l : LampState} (out : l.out = true) : l.onSupply = false := by
  revert out
  cases l <;> decide

/-- A booth trip when none is in force: nothing runs or burns, every house is at rest, and the records of R158 stand. -/
theorem State.boothTrip_fresh {s : State} (k : BoothCause) (fresh : s.fire.booth = none) (station : StationInv s)
    (lamp : LampInv s) :
    (s.boothTrip k).fire.booth = some k ∧ (∀ j, (s.station j).BoothTripped ((s.boothTrip k).station j)) ∧
      (∀ h, (s.house h).BoothTripped (s.mode h = .unused) ((s.boothTrip k).house h)) ∧
      (s.boothTrip k).arbiter.order = s.arbiter.order ∧ (s.boothTrip k).clock = s.clock ∧
      (∀ i, ((s.boothTrip k).station i).motor.running = false ∧ ((s.boothTrip k).station i).lamp.state.out = true) ∧
      (s.boothTrip k).arbiter.queue = [] ∧ (s.boothTrip k).arbiter.grant = none := by
  have hacts : s.boothTrip k = (s.captureTrip k.capture none).boothTripActions k := by
    unfold State.boothTrip
    rw [fresh]
    rfl
  have htouch := (s.captureTrip k.capture none).boothTripActions_touches k
  obtain ⟨hstations, hhouses, horder⟩ := (s.captureTrip k.capture none).boothTripActions_spec k
  rw [← hacts] at htouch hstations hhouses horder
  have hbooth : (s.boothTrip k).fire.booth = some k := by rw [htouch.fire (by simp [boothParts])]
  have hclock : (s.boothTrip k).clock = s.clock := htouch.clock (by simp [boothParts])
  have hstation := (s.boothTrip_acts k).keeps act_keeps_stationInv station
  obtain ⟨hlamps, -, -, -, -, -, htrips⟩ := (s.boothTrip_acts k).keeps act_keeps_lampInv lamp
  have hbarred : ∀ i, ((s.boothTrip k).station i).barred := fun i => by
    cases hp : ((s.boothTrip k).station i).present with
    | true => exact .inl (htrips (by rw [hbooth]; rfl) i hp)
    | false => exact .inr (.inl hp)
  have hout : ∀ i, ((s.boothTrip k).station i).lamp.state.out = true := fun i => (hlamps i).1 (hbarred i)
  refine ⟨hbooth, hstations, hhouses, horder, hclock, fun i => ⟨(hstation i).1 (hbarred i), hout i⟩,
    List.eq_nil_iff_forall_not_mem.2 fun i hi => ?_, Option.eq_none_iff_forall_not_mem.2 fun i hi => ?_⟩
  · obtain ⟨-, hqueued, -⟩ := hlamps i
    have hlit := hout i
    rw [hqueued.1 hi] at hlit
    cases hlit
  · obtain ⟨-, -, hgranted, -⟩ := hlamps i
    have hsupply := hgranted.1 hi
    exact Bool.false_ne_true ((LampState.onSupply_of_out (hout i)).symm.trans hsupply)

/-- The events of R157 and the line FT are a booth trip of the state with its inputs as they now stand; the line answers. -/
theorem exec_boothTrip {s : State} {c : Instr} {k : BoothCause}
    (event : boothCause c = some k ∨ c = .ft ∧ k = .console ∧ LineFree s) :
    ∃ f l, exec c s = .next (State.settle { ({ s with fire := f } : State).boothTrip k with line := l }) ∧
      f.booth = s.fire.booth ∧ l.attention = true := by
  rcases event with hk | ⟨rfl, rfl, hfree⟩
  · obtain ⟨b, rfl, rfl⟩ := boothCause_eq_some hk
    obtain ⟨-, -, -, hline⟩ :=
      State.boothTrip_captured { s with fire := s.fire.setInput b .opened } (BoothCause.ofInput b)
    exact ⟨s.fire.setInput b .opened, _, rfl, Fire.setInput_booth _ _ _, congrArg LineUnit.attention hline⟩
  · obtain ⟨-, -, -, hline⟩ := s.boothTrip_captured .console
    have hattention : (s.boothTrip .console).line.attention = true := congrArg LineUnit.attention hline
    exact ⟨s.fire, _, exec_console_free (c := .ft) rfl hfree, rfl, hattention⟩

/-- Settles O50: a booth trip when none is in force takes its actions; under one in force it only acts at the capture. -/
theorem boothTripStopsTheBooth : Obligations.BoothTripStopsTheBooth := by
  intro s c k hevent
  obtain ⟨f, l, hexec, hsame, hattention⟩ := exec_boothTrip hevent
  refine ⟨fun hfresh hstation hlamp => ?_, fun hforce => ?_⟩
  · obtain ⟨hlamps, hnodup, hlength, hgrant, hrecharge, hfree, htrips⟩ := hlamp
    obtain ⟨hbooth, hstations, hhouses, horder, hclock, hrests, hqueue, hgranted⟩ :=
      State.boothTrip_fresh (s := { s with fire := f }) k (hsame.trans hfresh) hstation
        ⟨hlamps, hnodup, hlength, hgrant, hrecharge, hfree, fun h => htrips (hsame ▸ h)⟩
    refine ⟨_, hexec, hbooth, fun i hi => (hstations i).trip.trans (if_pos hi), fun i hi => ?_, fun i => ?_, hqueue,
      hgranted, horder, fun h => ?_, fun h hh => ?_, hclock, hattention⟩
    · exact (hstations i).trip.trans (if_neg fun h => Bool.false_ne_true (hi.symm.trans h))
    · obtain ⟨hmotor, hout⟩ := hrests i
      exact ⟨hmotor, hout, (hstations i).counter, (hstations i).rp⟩
    · have hhouse := hhouses h
      exact ⟨hhouse.fire, hhouse.pulse, (State.settle_housePins _ h).trans (House.pins_fire hhouse.fire hhouse.pulse),
        hhouse.port⟩
    · exact (hhouses h).suspended hh
  · have htrip := State.boothTrip_inForce (s := { s with fire := f }) (k := k) (by rw [hsame]; exact hforce)
    rw [htrip] at hexec
    refine ⟨_, hexec, Touches.settle ⟨fun p hp => ?_, rfl⟩, ?_, hattention⟩
    · cases p with
      | fire | line => exact absurd hp (by simp)
      | straps | station _ | house _ | clock | arbiter | draws => rfl
    · exact (Fire.captureTrip_booth _ _).trans hsame

end Sys2Proof.Machine

/-!
The cues of a reel as they are taken (R49 to R54), and the missed change cue (R57).
-/

namespace Sys2Proof.Machine

/-! ### Which cues are taken -/

section
variable {s : State} {h : HouseId} {start : State → State} {x y : Entry}

theorem House.cuesPermitted_of {hs : House} (cueing : hs.engine.cueing = true) (regime : hs.regime = some .changeover)
    (next : hs.next = some y) (playing : hs.playing = some x) (stop : x.stop = false) : hs.cuesPermitted = true := by
  simp [House.cuesPermitted, cueing, regime, next, playing, stop]

theorem State.takeCues_barred (barred : (s.house h).cuesPermitted = false) (level : Nat) :
    s.takeCues start h level = s := by
  simp [State.takeCues, barred]

theorem State.takeCues_taken (strike : (s.house h).reel.strike = .taken) (motor : (s.house h).reel.motor = .taken) :
    s.takeCues start h 2 = s := by
  simp [State.takeCues, strike, motor]

section
variable (permitted : (s.house h).cuesPermitted = true)
include permitted

theorem State.takeCues_strike (strike : (s.house h).reel.strike = .pending) :
    s.takeCues start h 1 = s.strikeCue h := by
  simp [State.takeCues, permitted, strike]

theorem State.takeCues_motor (strike : (s.house h).reel.strike = .taken) (motor : (s.house h).reel.motor = .pending) :
    s.takeCues start h 2 = s.motorCue h := by
  simp [State.takeCues, permitted, strike, motor]

theorem State.takeCues_both (strike : (s.house h).reel.strike = .pending)
    (permitted' : ((s.strikeCue h).house h).cuesPermitted = true)
    (motor : ((s.strikeCue h).house h).reel.motor = .pending) : s.takeCues start h 2 = (s.strikeCue h).motorCue h := by
  simp [State.takeCues, permitted, strike, permitted', motor]

theorem State.takeCues_change (strike : (s.house h).reel.strike = .taken) (motor : (s.house h).reel.motor = .taken)
    (change : (s.house h).reel.change = .pending) : s.takeCues start h 3 = s.changeCue start h := by
  simp [State.takeCues, permitted, strike, motor, change]

end

end

/-! ### The strike cue -/

section
variable {s : State} {h : HouseId} {y : Entry} (next : (s.house h).next = some y)

/-- The house with its strike cue taken (R52). -/
def State.atStrikeCue (s : State) (h : HouseId) : State :=
  s.modHouse h fun hs => { hs with engine := .preparing, reel := { hs.reel with strike := .taken } }

@[simp] theorem State.house_atStrikeCue (s : State) (h : HouseId) : (s.atStrikeCue h).house h =
    { s.house h with engine := .preparing, reel := { (s.house h).reel with strike := .taken } } :=
  s.house_modHouse_same h _

theorem State.atStrikeCue_touches (s : State) (h : HouseId) : Touches [.house h] s (s.atStrikeCue h) :=
  s.modHouse_touches h _

include next

/-- The strike cue of a reel whose next is unbound only warns (R52). -/
theorem State.strikeCue_unbound (bound : y.bound = none) :
    s.strikeCue h = (s.atStrikeCue h).latch (.notThreaded h) := by
  simp only [State.strikeCue, next, bound]
  rfl

/-- The strike cue checks the carbon of the next reel's lamp, and requests a COLD one to strike (R52, R135). -/
theorem State.strikeCue_bound {j : StationId} (bound : y.bound = some j) : s.strikeCue h =
    if (s.station j).lamp.state = .cold then (((s.atStrikeCue h).incomingCheck h j y.length).requestStrike j).1
    else (s.atStrikeCue h).incomingCheck h j y.length := by
  have hcheck : (((s.atStrikeCue h).incomingCheck h j y.length).station j).lamp.state = (s.station j).lamp.state := by
    unfold State.incomingCheck
    dsimp only
    split
    · split <;> rfl
    · rfl
  simp only [State.strikeCue, next, bound, ← hcheck]
  rfl

end

/-- The carbon check at a strike cue only warns (R135). -/
theorem State.incomingCheck_eq {s : State} {h : HouseId} {j : StationId} {length : Nat} {p : Nat × Basis}
    (prediction : (s.station j).prediction = some p) : s.incomingCheck h j length =
      if p.1 < (s.house h).settings.lead + length / 24 + (s.house h).settings.margin then s.latch (.lowCarbon j) else s := by
  simp only [State.incomingCheck, prediction]

/-! ### The motor cue -/

section
variable {s : State} {h : HouseId} {y : Entry} {j : StationId}

/-- The house with its motor cue taken (R53). -/
def State.atMotorCue (s : State) (h : HouseId) : State :=
  s.modHouse h fun hs => { hs with engine := .motorCued, reel := { hs.reel with motor := .taken } }

@[simp] theorem State.house_atMotorCue (s : State) (h : HouseId) : (s.atMotorCue h).house h =
    { s.house h with engine := .motorCued, reel := { (s.house h).reel with motor := .taken } } :=
  s.house_modHouse_same h _

/-- The state in which the motor cue has started the incoming motor and applied the MS action (R53, R144). -/
def State.cuedUp (s : State) (h : HouseId) (j : StationId) (y : Entry) : State :=
  ((s.atMotorCue h).modStation j Station.startMotor).action h y.ms

/-- A next reel that cannot be started marks NOT-THREADED (R53). -/
theorem State.motorCue_missed (next : (s.house h).next = some y)
    (missed : y.bound = none ∨ ∃ j, y.bound = some j ∧ ¬ StartAllowed s j) :
    s.motorCue h = (s.atMotorCue h).markNotThreaded h := by
  rcases missed with hb | ⟨j, hb, hnot⟩
  · simp only [State.motorCue, next, hb]
    rfl
  · obtain ⟨c, hc⟩ := Option.ne_none_iff_exists'.1 fun hr => hnot (State.startRefusal_eq_none.1 hr)
    simp only [State.motorCue, next, hb, State.startRefusal_modHouse, hc]
    rfl

theorem State.house_motorCue_missed : ((s.atMotorCue h).markNotThreaded h).house h = { s.house h with
    engine := .motorCued, reel := { (s.house h).reel with motor := .taken, missed := some .notThreaded } } := by
  rw [State.markNotThreaded, State.house_modHouse_same, State.house_atMotorCue]

theorem State.motorCue_missed_touches : Touches [.house h] s ((s.atMotorCue h).markNotThreaded h) :=
  (s.modHouse_touches h _).trans (State.modHouse_touches _ h _)

section
variable (next : (s.house h).next = some y) (bound : y.bound = some j) (allowed : StartAllowed s j)
include next bound allowed

theorem State.motorCue_taken :
    s.motorCue h = (s.atMotorCue h).startMotorThen j fun u => u.action h y.ms := by
  simp only [State.motorCue, next, bound, State.startRefusal_modHouse, State.startRefusal_eq_none.2 allowed]
  rfl

theorem State.motorCue_closed (fb : (s.station j).fb = .closed) : s.motorCue h = s.cuedUp h j y :=
  (State.motorCue_taken next bound allowed).trans (State.startMotorThen_closed (s := s.atMotorCue h) fb _)

theorem State.motorCue_broken (fb : (s.station j).fb = .opened) (still : (s.station j).motor.running = false) :
    s.motorCue h = (s.cuedUp h j y).tripBreak j :=
  (State.motorCue_taken next bound allowed).trans (State.startMotorThen_broken (s := s.atMotorCue h) fb still _)

end

theorem State.cuedUp_touches (s : State) (h : HouseId) (j : StationId) (y : Entry) :
    Touches [.house h, .station j] s (s.cuedUp h j y) :=
  (((s.modHouse_touches h _).mono (by simp)).trans ((State.modStation_touches _ j _).mono (by simp))).trans
    ((State.action_touches _ h _).mono (by simp))

theorem State.station_cuedUp (s : State) (h : HouseId) (j : StationId) (y : Entry) :
    (s.cuedUp h j y).station j = (s.station j).started := by
  rw [State.cuedUp, State.action_station, State.station_modStation_same, Station.startMotor_eq]
  rfl

theorem State.house_cuedUp (taken : y.asTaken) : (s.cuedUp h j y).house h = { s.house h with
    engine := .motorCued, reel := { (s.house h).reel with motor := .taken }, light := (s.house h).light.acted y.ms } := by
  obtain ⟨-, -, -, -, -, -, -, hactions⟩ := taken
  rw [State.cuedUp, State.house_action (hactions y.ms (by simp)), State.modStation_house, State.house_atMotorCue]

theorem State.house_cuedUp_light (s : State) (h : HouseId) (j : StationId) (y : Entry) :
    ∃ l, (s.cuedUp h j y).house h = { s.house h with
      engine := .motorCued, reel := { (s.house h).reel with motor := .taken }, light := l } := by
  obtain ⟨l, hl⟩ := ((s.atMotorCue h).modStation j Station.startMotor).house_action_light h y.ms
  exact ⟨l, hl.trans (by rw [State.modStation_house, State.house_atMotorCue])⟩

/-- A start by the motor cue that finds a film break trips the incoming station, and the house enters FAULT (R53, R155). -/
theorem State.cuedUp_broken (next : (s.house h).next = some y) (bound : y.bound = some j) (own : (s.station j).house = h)
    (allowed : StartAllowed s j) (still : (s.station j).motor.running = false) :
    Faulted (s.cuedUp h j y) ((s.cuedUp h j y).tripBreak j).settle h .trip j ∧
      (((s.cuedUp h j y).tripBreak j).station j).trip = some .filmBreak := by
  obtain ⟨-, hpresent, htrip, -, -⟩ := allowed
  have hstation := s.station_cuedUp h j y
  obtain ⟨htripped, -⟩ := State.tripBreak_started hstation still hpresent htrip
  rw [Station.started_still still] at hstation
  have hown : ((s.cuedUp h j y).station j).house = h := by rw [hstation]; exact own
  obtain ⟨l, hl⟩ := s.house_cuedUp_light h j y
  have hincoming : ((s.cuedUp h j y).house h).incoming = some j := by
    rw [hl]
    show (s.house h).next.bind (·.bound) = some j
    rw [next]
    exact bound
  have hfaulted := State.stationTrip_faulted (s := s.cuedUp h j y) (i := j) (by simp [State.engaged, hown, hincoming])
    (by rw [hstation]; exact hpresent) (by rw [hstation]; exact htrip) .filmBreak .filmBreak
  rw [hown] at hfaulted
  exact ⟨hfaulted, htripped⟩

end

/-! ### The missed change cue -/

section
variable {s : State} {h : HouseId} {r : MissReason}

/-- The reason of a missed change cue, the incoming reel bound (R57). -/
theorem State.missReason_bound {j : StationId} (incoming : (s.house h).incoming = some j)
    (why : (s.house h).reel.missed = some r ∨ (s.house h).reel.missed = none ∧ (s.station j).lamp.state ≠ .burn ∧ r = .lamp ∨
      (s.house h).reel.missed = none ∧ (s.station j).lamp.state = .burn ∧ (s.station j).motor ≠ .atSpeed ∧ r = .speed) :
    s.missReason h = (r, s) := by
  rcases why with hm | ⟨hm, hlamp, rfl⟩ | ⟨hm, hlamp, hmotor, rfl⟩
  · simp [State.missReason, hm]
  · simp [State.missReason, hm, incoming, hlamp]
  · simp [State.missReason, hm, incoming, hlamp, hmotor]

theorem State.missReason_unbound (incoming : (s.house h).incoming = none) :
    s.missReason h = ((s.house h).reel.missed.getD .notThreaded, s) := by
  cases hm : (s.house h).reel.missed <;> simp [State.missReason, hm, incoming]

/-- The house in RUN-DOWN (R57). -/
def House.missed (hs : House) (r : MissReason) : House :=
  { hs with engine := .runDown, reel := { hs.reel with change := .taken, missed := some r } }

theorem State.runDown_eq (reason : s.missReason h = (r, s)) :
    s.runDown h = ((s.stopIncoming h).latch (.missed h r)).modHouse h fun hs => hs.missed r := by
  simp only [State.runDown, reason]
  rfl

/-- A missed change cue stops the incoming motor, warns, and puts the house into RUN-DOWN (R57). -/
theorem State.runDown_bound {j : StationId} (reason : s.missReason h = (r, s))
    (incoming : (s.house h).incoming = some j) : Touches [.house h, .station j, .line] s (s.runDown h) ∧
      (s.runDown h).station j = (s.station j).stopped ∧ (s.runDown h).line = s.line.warned (.missed h r) ∧
      (s.runDown h).house h = (s.house h).missed r := by
  have hstop : s.stopIncoming h = s.stopMotor j := by simp only [State.stopIncoming, incoming]
  rw [State.runDown_eq reason, hstop]
  refine ⟨(((s.modStation_touches j _).mono (by simp)).trans ((State.latch_touches _ _).mono (by simp))).trans
    ((State.modHouse_touches _ h _).mono (by simp)), ?_, ?_, ?_⟩
  · rw [State.modHouse_station, State.latch_station, State.station_stopMotor_same]
  · rw [State.modHouse_line, State.latch_line]
    rfl
  · rw [State.house_modHouse_same]
    rfl

theorem State.runDown_unbound (reason : s.missReason h = (r, s)) (incoming : (s.house h).incoming = none) :
    Touches [.house h, .line] s (s.runDown h) ∧ (s.runDown h).line = s.line.warned (.missed h r) ∧
      (s.runDown h).house h = (s.house h).missed r := by
  have hstop : s.stopIncoming h = s := by simp only [State.stopIncoming, incoming]
  rw [State.runDown_eq reason, hstop]
  refine ⟨((s.latch_touches _).mono (by simp)).trans ((State.modHouse_touches _ h _).mono (by simp)), ?_, ?_⟩
  · rw [State.modHouse_line, State.latch_line]
  · rw [State.house_modHouse_same]
    rfl

end

/-- The change cue where the reel is ready, or where the reason says why it is not (R54, R57). -/
theorem State.changeCue_ready {s : State} {h : HouseId} {start : State → State} (ready : s.changeReady h = true) :
    s.changeCue start h = s.makeChange start h := if_pos ready

theorem State.changeCue_missed {s : State} {h : HouseId} {start : State → State} (missed : s.changeReady h = false) :
    s.changeCue start h = s.runDown h := if_neg (by rw [missed]; exact Bool.false_ne_true)

/-- With a reason to miss the change, the incoming reel bound or not, the change is not ready (R54, R57). -/
theorem State.changeReady_late {s : State} {h : HouseId} {y : Entry} {j : StationId} {r : MissReason}
    (cueing : (s.house h).engine.cueing = true) (next : (s.house h).next = some y) (bound : y.bound = some j)
    (why : (s.house h).reel.missed = some r ∨ (s.house h).reel.missed = none ∧ (s.station j).lamp.state ≠ .burn ∧ r = .lamp ∨
      (s.house h).reel.missed = none ∧ (s.station j).lamp.state = .burn ∧ (s.station j).motor ≠ .atSpeed ∧ r = .speed) :
    s.changeReady h = false := by
  rw [Bool.eq_false_iff]
  intro hready
  obtain ⟨y', j', hy', hj', hmissed, hlamp, hspeed, -⟩ := (State.changeReady_iff cueing).1 hready
  cases next.symm.trans hy'
  cases bound.symm.trans hj'
  rcases why with hr | ⟨-, hr, -⟩ | ⟨-, -, hr, -⟩
  · exact absurd (hr.symm.trans hmissed) (Option.some_ne_none r)
  · exact hr hlamp
  · exact hr hspeed

/-! ### Cue marks -/

theorem EngineState.cueing_iff {e : EngineState} : e.cueing = true ↔ e ∈ [.playing, .preparing, .motorCued] := by
  cases e <;> decide

section
variable {s : State} {i : StationId} {h : HouseId} {e : Entry} (own : (s.station i).house = h)
  (playing : (s.house h).playing = some e)

/-- The house with one more cue mark counted (R51). -/
def House.marked (hs : House) : House := { hs with reel := { hs.reel with marks := hs.reel.marks + 1 } }

/-- The state with a cue mark of its house counted. -/
def State.marked (s : State) (h : HouseId) : State := s.modHouse h House.marked

@[simp] theorem State.house_marked (s : State) (h : HouseId) : (s.marked h).house h = (s.house h).marked :=
  s.house_modHouse_same h _

theorem State.marked_touches (s : State) (h : HouseId) : Touches [.house h] s (s.marked h) := s.modHouse_touches h _

include own playing

/-- A mark counts of the on-screen station, inside the window, twice at most (R51). -/
theorem State.markCounts_iff : s.markCounts i = true ↔
    (s.house h).engine ∈ [.playing, .preparing, .motorCued] ∧ e.bound = some i ∧ (s.house h).reel.marks < 2 ∧
      e.motor ≤ (s.station i).counter + 240 ∧ (s.station i).counter ≤ e.length := by
  have hscreen : (s.house h).engine.cueing = true → (s.house h).onScreen = e.bound := fun hc => by
    rw [House.onScreen, if_pos (EngineState.showing_of_cueing hc), playing]
    rfl
  rw [← EngineState.cueing_iff]
  have hwindow : s.markCounts i = ((s.house h).engine.cueing && (s.house h).onScreen == some i &&
      (s.house h).reel.marks < 2 && (windowStart e ≤ (s.station i).counter && (s.station i).counter ≤ e.length)) := by
    rw [State.markCounts, own, playing]
  have hstarts : windowStart e ≤ (s.station i).counter ↔ e.motor ≤ (s.station i).counter + 240 := Nat.sub_le_iff_le_add
  rw [hwindow]
  simp only [Bool.and_eq_true, beq_iff_eq, decide_eq_true_eq, hstarts]
  constructor
  · rintro ⟨⟨⟨hc, hi⟩, hmarks⟩, hstart, hend⟩
    exact ⟨hc, (hscreen hc).symm.trans hi, hmarks, hstart, hend⟩
  · rintro ⟨hc, hi, hmarks, hstart, hend⟩
    exact ⟨⟨⟨hc, (hscreen hc).trans hi⟩, hmarks⟩, hstart, hend⟩

omit own playing in
theorem exec_cuClosing_ignored (ignored : s.markCounts i = false) :
    exec (.cuClosing i) s = .next { s with pins := s.outputs } := by
  have hexec : exec (.cuClosing i) s = execCuClosing i s := rfl
  rw [hexec, execCuClosing, ignored]
  rfl

theorem exec_cuClosing_counted (counts : s.markCounts i = true) : exec (.cuClosing i) s = done
    (if e.cue = .footage then s.marked h
      else (s.marked h).takeCues (fun u => u.testReel h) h (if (s.house h).reel.marks = 0 then 2 else 3)) := by
  have hexec : exec (.cuClosing i) s = execCuClosing i s := rfl
  have hfirst : ((s.house h).reel.marks + 1 = 1) = ((s.house h).reel.marks = 0) := by simp
  rw [hexec, execCuClosing, if_pos counts]
  simp only [own, playing, hfirst]
  split <;> rfl

end

/-! ### The change instant finds no mark -/

section
variable (s : State) (h : HouseId) (f : House → House)

theorem State.takeScreen_modHouse (i : StationId) : (s.modHouse h f).takeScreen i = (s.takeScreen i).modHouse h f := by
  rw [State.takeScreen, State.takeScreen, State.openShutter_eq, State.openShutter_eq]
  split <;> split <;> first | rfl | contradiction

theorem State.extinguish_modHouse (i : StationId) : (s.modHouse h f).extinguish i = (s.extinguish i).modHouse h f := by
  rw [State.extinguish, State.extinguish]
  cases hl : (s.station i).lamp.state <;> simp [hl] <;> rfl

theorem State.screensPassed_modHouse (out inc : StationId) :
    (s.modHouse h f).screensPassed out inc = (s.screensPassed out inc).modHouse h f := by
  rw [State.screensPassed, State.takeScreen_modHouse]
  exact ((s.takeScreen inc).darken out).extinguish_modHouse h f out

/-- The change instant clears the reel's cues, so that a mark counted before it leaves no trace (R51, R55). -/
theorem State.changeInstant_marked (out inc : StationId) (e : Entry) :
    (s.marked h).changeInstant h out inc e = s.changeInstant h out inc e := by
  have hchanged : (s.marked h).changed h out inc e = s.changed h out inc e := by
    rw [State.changed, State.changed, State.marked, State.screensPassed_modHouse]
    cases he : e.pi with
    | none =>
      simp only [State.action, State.modQueue, State.modHouse_modHouse]
      rfl
    | some a =>
      simp only [State.action, State.fade, State.modLight, State.modQueue, State.modHouse_modHouse]
      rfl
  rw [State.changeInstant_eq, State.changeInstant_eq, hchanged]
  rfl

end

/-! ### The strike cue, its check made -/

/-- The strike cue of a bound next reel, its carbon checked and no request made (R52, R135). -/
theorem State.strikeChecked {s : State} {h : HouseId} {j : StationId} {y : Entry} {p : Nat × Basis}
    (prediction : (s.station j).prediction = some p) :
    Touches [.house h, .line] s ((s.atStrikeCue h).incomingCheck h j y.length) ∧
      ((s.atStrikeCue h).incomingCheck h j y.length).line =
        (if p.1 < (s.house h).settings.lead + y.length / 24 + (s.house h).settings.margin then s.line.warned (.lowCarbon j)
          else s.line) ∧
      ((s.atStrikeCue h).incomingCheck h j y.length).house h = (s.atStrikeCue h).house h := by
  have hcheck := State.incomingCheck_eq (s := s.atStrikeCue h) (h := h) (length := y.length) prediction
  rw [State.house_atStrikeCue] at hcheck
  have hcued := s.atStrikeCue_touches h
  rw [hcheck]
  split
  · exact ⟨(hcued.mono (by simp)).trans ((State.latch_touches _ _).mono (by simp)), State.latch_line _ _, rfl⟩
  · exact ⟨hcued.mono (by simp), rfl, rfl⟩

/-- A request for a strike moves stations and the arbiter at most (R107). -/
theorem State.requestStrike_touches (s : State) (i : StationId) :
    Touches (.arbiter :: StationId.all.map .station) s (s.requestStrike i).1 := by
  unfold State.requestStrike
  split
  case h_1 | h_2 | h_3 | h_4 => exact .refl _ s
  case h_5 | h_6 | h_7 =>
    split
    · exact .refl _ s
    · exact s.takeStrike_touches i

theorem State.house_strikeCue {s : State} {h : HouseId} {y : Entry} (next : (s.house h).next = some y) :
    (s.strikeCue h).house h = (s.atStrikeCue h).house h := by
  cases hb : y.bound with
  | none =>
    rw [State.strikeCue_unbound next hb]
    rfl
  | some j =>
    have hcheck : ((s.atStrikeCue h).incomingCheck h j y.length).house h = (s.atStrikeCue h).house h := by
      unfold State.incomingCheck
      dsimp only
      split
      · split <;> rfl
      · rfl
    rw [State.strikeCue_bound next hb]
    split
    · rw [(State.requestStrike_touches _ j).house (by simp), hcheck]
    · exact hcheck

/-! ### The cues of a cue mark -/

/-- The strike cue leaves R49 as it was, and the motor cue PENDING or TAKEN as it was. -/
theorem State.strikeCue_permitted {s : State} {h : HouseId} {y : Entry} (permitted : (s.house h).cuesPermitted = true)
    (next : (s.house h).next = some y) : ((s.strikeCue h).house h).cuesPermitted = true ∧
      ((s.strikeCue h).house h).reel.motor = (s.house h).reel.motor ∧ ((s.strikeCue h).house h).next = some y := by
  rw [State.house_strikeCue next, State.house_atStrikeCue]
  refine ⟨?_, rfl, next⟩
  unfold House.cuesPermitted at permitted ⊢
  simp only [Bool.and_eq_true] at permitted ⊢
  obtain ⟨⟨⟨-, hregime⟩, hnext⟩, hplaying⟩ := permitted
  exact ⟨⟨⟨rfl, hregime⟩, hnext⟩, hplaying⟩

/-- Where R49 permits no cue (R49, R51). -/
theorem House.cuesPermitted_barred {hs : House} {x : Entry} (playing : hs.playing = some x)
    (barred : x.stop = true ∨ hs.regime ≠ some .changeover ∨ hs.next = none) : hs.cuesPermitted = false := by
  rcases barred with hstop | hregime | hnext
  · simp [House.cuesPermitted, playing, hstop]
  · simp [House.cuesPermitted, hregime]
  · simp [House.cuesPermitted, hnext]

/-- Settles O31: a counted mark is the motor cue or the change cue of the state in which it is counted. -/
theorem cueMarksAreCounted : Obligations.CueMarksAreCounted := by
  intro s i e h hown hplaying
  have hcounts := State.markCounts_iff hown hplaying
  refine ⟨fun hno => exec_cuClosing_ignored (Bool.eq_false_iff.2 fun h1 => ?_),
    fun hengine hbound hmarks hlow hhigh counted hcounted => ?_⟩
  · obtain ⟨hengine, hbound, hmarks, hlow, hhigh⟩ := hcounts.1 h1
    rcases hno with hno | hno | hno | hno | hno
    · exact hno hengine
    · exact hno hbound
    · omega
    · omega
    · omega
  have hexec := exec_cuClosing_counted hown hplaying (hcounts.2 ⟨hengine, hbound, hmarks, hlow, hhigh⟩)
  obtain rfl : counted = (s.house h).marked := hcounted
  have hhouse := s.house_marked h
  have htouch := s.marked_touches h
  refine ⟨fun hnone => ?ignored, fun y hcue hstop hregime hnext => ?cues⟩
  case ignored =>
    have hsame : (if e.cue = .footage then s.marked h else
        (s.marked h).takeCues (fun u => u.testReel h) h (if (s.house h).reel.marks = 0 then 2 else 3)) = s.marked h := by
      by_cases hcue : e.cue = .footage
      · rw [if_pos hcue]
      · rw [if_neg hcue]
        rcases hnone with hc | hc | hc | hc | ⟨h0, hstrike, hmotor⟩
        · exact absurd hc hcue
        · exact State.takeCues_barred (by rw [hhouse]; exact House.cuesPermitted_barred hplaying (.inl hc)) _
        · exact State.takeCues_barred (by rw [hhouse]; exact House.cuesPermitted_barred hplaying (.inr (.inl hc))) _
        · exact State.takeCues_barred (by rw [hhouse]; exact House.cuesPermitted_barred hplaying (.inr (.inr hc))) _
        · rw [if_pos h0]
          exact State.takeCues_taken (by rw [hhouse]; exact hstrike) (by rw [hhouse]; exact hmotor)
    rw [hsame] at hexec
    exact ⟨_, hexec, htouch.settle, hhouse⟩
  case cues =>
    rw [if_neg hcue] at hexec
    have hcueing := EngineState.cueing_iff.2 hengine
    have hpermitted : ((s.marked h).house h).cuesPermitted = true := by
      rw [hhouse]
      exact House.cuesPermitted_of (y := y) hcueing hregime hnext hplaying hstop
    have hnext' : ((s.marked h).house h).next = some y := by rw [hhouse]; exact hnext
    refine ⟨fun h0 hmotor => ⟨fun hpreparing hstrike => ?motor, fun hpicture hstrike => ?both⟩,
      fun h1 hcued hstrike hmotor hchange => ?change⟩
    case motor =>
      rw [if_pos h0, State.takeCues_motor hpermitted (by rw [hhouse]; exact hstrike) (by rw [hhouse]; exact hmotor)]
        at hexec
      refine ⟨_, hexec, fun hmissed => ?_, fun j hj hallowed => ⟨fun hfb htaken => ?_, fun hfb hstill hj' => ?_⟩⟩
      · rw [State.motorCue_missed hnext' hmissed]
        refine ⟨(htouch.trans State.motorCue_missed_touches).settle, ?_⟩
        rw [State.settle_house, State.house_motorCue_missed, hhouse]
      · rw [State.motorCue_closed (s := s.marked h) hnext' hj hallowed hfb]
        refine ⟨((htouch.mono (by simp)).trans (State.cuedUp_touches _ h j y)).settle, ?_, ?_⟩
        · rw [State.settle_station, State.station_cuedUp, htouch.station (by simp)]
        · rw [State.settle_house, State.house_cuedUp htaken, hhouse]
          rfl
      · rw [State.motorCue_broken (s := s.marked h) hnext' hj hallowed hfb hstill]
        obtain ⟨hfaulted, htripped⟩ := State.cuedUp_broken (s := s.marked h) hnext' hj hj' hallowed hstill
        obtain ⟨hengine, -, -, -, -, -, hfault, -⟩ := hfaulted
        refine ⟨htripped, hengine, fun hnone => ?_⟩
        obtain ⟨l, hl⟩ := (s.marked h).house_cuedUp_light h j y
        rw [hl, hhouse, show (s.house h).marked.fault = none from hnone] at hfault
        exact ⟨_, hfault, rfl, rfl⟩
    case both =>
      obtain ⟨hpermitted', hmotor', hnext''⟩ := State.strikeCue_permitted hpermitted hnext'
      rw [if_pos h0, State.takeCues_both hpermitted (by rw [hhouse]; exact hstrike) hpermitted'
        (by rw [hmotor', hhouse]; exact hmotor)] at hexec
      have hcue := (State.house_strikeCue hnext').trans ((s.marked h).house_atStrikeCue h)
      rw [hhouse] at hcue
      refine ⟨_, hexec, fun hnone => ?_, fun j hj hallowed hfb htaken hlamp p hp => ?_⟩
      · rw [State.motorCue_missed hnext'' (.inl hnone)]
        have hstruck := State.strikeCue_unbound hnext' hnone
        have hstruckTouch : Touches [.house h, .line] s ((s.marked h).strikeCue h) := by
          rw [hstruck]
          exact ((htouch.trans (State.atStrikeCue_touches _ h)).mono (by simp)).trans
            ((State.latch_touches _ _).mono (by simp))
        refine ⟨(hstruckTouch.trans (State.motorCue_missed_touches.mono (by simp))).settle, ?_, ?_⟩
        · rw [State.settle_line, State.motorCue_missed_touches.line (by simp), hstruck]
          rfl
        · rw [State.settle_house, State.house_motorCue_missed, hcue]
      · obtain ⟨hchecked, hline, -⟩ := State.strikeChecked (s := s.marked h) (h := h) (y := y) hp
        have hstruck := State.strikeCue_bound hnext' hj
        rw [if_neg (show ((s.marked h).station j).lamp.state ≠ .cold from hlamp)] at hstruck
        rw [← hstruck, hhouse] at hline
        rw [← hstruck] at hchecked
        have hstation : ((s.marked h).strikeCue h).station j = s.station j := hchecked.station (by simp)
        have hallowed' : StartAllowed ((s.marked h).strikeCue h) j := by
          unfold StartAllowed
          rw [hstation, hchecked.fire (by simp)]
          exact hallowed
        rw [State.motorCue_closed hnext'' hj hallowed' (by rw [hstation]; exact hfb)]
        have hcuedTouch := ((s.marked h).strikeCue h).cuedUp_touches h j y
        refine ⟨(((htouch.mono (by simp)).trans (hchecked.mono (by simp))).trans (hcuedTouch.mono (by simp))).settle,
          ?_, ?_, ?_⟩
        · rw [State.settle_station, State.station_cuedUp, hstation]
        · rw [State.settle_line, hcuedTouch.line (by simp), hline]
          rfl
        · rw [State.settle_house, State.house_cuedUp htaken, hcue]
          rfl
    case change =>
      rw [if_neg (by omega), State.takeCues_change hpermitted (by rw [hhouse]; exact hstrike)
        (by rw [hhouse]; exact hmotor) (by rw [hhouse]; exact hchange)] at hexec
      have hcueing' : ((s.marked h).house h).engine.cueing = true := by rw [hhouse]; exact hcueing
      have hincoming : ((s.marked h).house h).incoming = y.bound := by
        rw [House.incoming, if_pos hcueing', hnext']
        rfl
      refine ⟨fun j hj => ⟨fun hmissed hlamp hspeed hport => ?ready, fun r hr => ?late⟩, fun hnone r hr => ?unbound⟩
      case ready =>
        have hscreen : (s.house h).onScreen = some i := by
          rw [House.onScreen, if_pos (EngineState.showing_of_cueing hcueing), hplaying]
          exact hbound
        have hready : ∀ u : State, u.house h = (s.house h).marked ∨ u.house h = s.house h →
            (∀ k, u.station k = s.station k) → u.changeReady h = true := by
          intro u hu hstations
          have hsame : (u.house h).engine = (s.house h).engine ∧ (u.house h).next = (s.house h).next ∧
              (u.house h).reel.missed = (s.house h).reel.missed ∧ (u.house h).port = (s.house h).port := by
            rcases hu with hu | hu <;> rw [hu] <;> exact ⟨rfl, rfl, rfl, rfl⟩
          obtain ⟨he, hn, hm, hp⟩ := hsame
          rw [State.changeReady_iff (by rw [he]; exact hcueing)]
          exact ⟨y, j, hn.trans hnext, hj, hm.trans hmissed, by rw [hstations]; exact hlamp,
            by rw [hstations]; exact hspeed, hp.trans hport⟩
        have hbutton : s.manualChangeReady h = true := by
          have hpermits : (s.house h).cuesPermitted = true :=
            House.cuesPermitted_of (y := y) hcueing hregime hnext hplaying hstop
          simp [State.manualChangeReady, hcued, hpermits, hready s (.inr rfl) fun _ => rfl]
        have hscreen' : ((s.marked h).house h).onScreen = some i := by rw [hhouse]; exact hscreen
        rw [hexec, exec_cbClosing_change hbutton,
          State.changeCue_ready (hready (s.marked h) (.inl hhouse) fun k => htouch.station (by simp)),
          State.makeChange_eq hscreen' hnext' hcueing' hj, State.makeChange_eq hscreen hnext hcueing hj,
          State.changeInstant_marked]
      case late =>
        have hlate : (s.marked h).changeReady h = false :=
          State.changeReady_late (r := r) hcueing' hnext' hj (by rw [hhouse]; exact hr)
        have hreason := State.missReason_bound (s := s.marked h) (r := r) (hincoming.trans hj) (by rw [hhouse]; exact hr)
        obtain ⟨hdown, hstopped, hline, hran⟩ := State.runDown_bound hreason (hincoming.trans hj)
        rw [State.changeCue_missed hlate] at hexec
        refine ⟨_, hexec, ((htouch.mono (by simp)).trans hdown).settle, ?_, ?_, ?_⟩
        · rw [State.settle_station, hstopped, htouch.station (by simp)]
        · rw [State.settle_line, hline, htouch.line (by simp)]
        · rw [State.settle_house, hran, hhouse]
          rfl
      case unbound =>
        have hlate : (s.marked h).changeReady h = false := by
          rw [Bool.eq_false_iff]
          intro hready
          obtain ⟨y', j', hy', hj', -⟩ := (State.changeReady_iff hcueing').1 hready
          cases hnext'.symm.trans hy'
          exact absurd (hnone.symm.trans hj') (Option.some_ne_none j').symm
        have hreason := State.missReason_unbound (hincoming.trans hnone)
        rw [hhouse, show (s.house h).marked.reel.missed.getD .notThreaded = r from hr.symm] at hreason
        obtain ⟨hdown, hline, hran⟩ := State.runDown_unbound hreason (hincoming.trans hnone)
        rw [State.changeCue_missed hlate] at hexec
        refine ⟨_, hexec, ((htouch.mono (by simp)).trans hdown).settle, ?_, ?_⟩
        · rw [State.settle_line, hline, htouch.line (by simp)]
        · rw [State.settle_house, hran, hhouse]
          rfl

end Sys2Proof.Machine

/-!
The cues that footage brings: the strike, motor and change cues at the pulse that reaches their frame (R49 to R54, R57).
-/

namespace Sys2Proof.Machine

/-! ### The frame reached -/

section
variable {x : Entry} {lead n : Nat} (cue : x.cue = .footage)
include cue

theorem footageLevel_strike (reached : x.motor ≤ n + 24 * lead) (motor : n < x.motor) (change : n < x.change) :
    footageLevel x lead n = 1 := by
  have hstrike : strikeFrame x.motor lead ≤ n := by
    unfold strikeFrame
    omega
  simp [footageLevel, cue, hstrike, show ¬ x.motor ≤ n by omega, show ¬ x.change ≤ n by omega]

theorem footageLevel_motor (reached : x.motor ≤ n) (change : n < x.change) : footageLevel x lead n = 2 := by
  simp [footageLevel, cue, reached, show ¬ x.change ≤ n by omega]

theorem footageLevel_change (reached : x.change ≤ n) : footageLevel x lead n = 3 := by
  simp [footageLevel, cue, reached]

end

/-- The pulse of the on-screen station makes the engine's footage tests (R50). -/
theorem OrderInv.pulseTests_onScreen {s : State} {h : HouseId} {k : Nat} {x : Entry} {i : StationId} (inv : OrderInv s)
    (at_ : (s.house h).queue[k]? = some x) (playing : x.status = .playing) (bound : x.bound = some i) :
    s.pulseTests i = s.takeCues (fun t => t.testReel h) h
      (footageLevel x (s.house h).settings.lead (s.station i).counter) := by
  have hscreen : (s.house h).onScreen = some i := (inv.onScreen_at at_ playing).trans bound
  simp only [State.pulseTests, inv.own at_ bound, inv.not_starting at_ playing, hscreen, State.testFootage,
    State.footage_eq (inv.playing_at at_ playing) hscreen, if_true]
  rfl

/-! ### A strike request while no lamp waits for a FREE supply -/

/-- A request taken while no lamp waits for a FREE supply moves its own lamp and the arbiter alone (R108, R109). -/
theorem State.takeStrike_alone {s : State} {j : StationId} (cold : (s.station j).lamp.state = .cold)
    (free : s.arbiter.supply = .free → s.arbiter.queue = []) : Touches [.station j, .arbiter] s (s.takeStrike j) := by
  have hasked := s.strikeAsked_touches j
  have harbiter := State.strikeAsked_arbiter cold
  show Touches _ s (s.strikeAsked j).testGrant
  unfold State.testGrant
  split
  · rename_i hsupply
    rw [harbiter] at hsupply
    simp only [Bool.and_eq_true, decide_eq_true_eq] at hsupply
    split
    · rename_i k hk
      have hmem := chooseLamp_mem hk
      rw [harbiter] at hmem
      obtain rfl : k = j := by simpa [free hsupply.1] using hmem
      exact hasked.trans (State.grantTo_touches _ k)
    · exact hasked
  · exact hasked

theorem State.incomingCheck_touches (s : State) (h : HouseId) (j : StationId) (length : Nat) :
    Touches [.line] s (s.incomingCheck h j length) := by
  unfold State.incomingCheck
  dsimp only
  split
  · exact .ite (fun _ => s.latch_touches _) fun _ => .refl _ s
  · exact .refl _ s

/-- The state in which a strike cue has checked the carbon of the next reel's lamp (R52, R135). -/
def State.strikeCued (s : State) (h : HouseId) (j : StationId) (y : Entry) : State :=
  (s.atStrikeCue h).incomingCheck h j y.length

theorem State.strikeCued_touches (s : State) (h : HouseId) (j : StationId) (y : Entry) :
    Touches [.house h, .line] s (s.strikeCued h j y) :=
  ((s.atStrikeCue_touches h).mono (by simp)).trans ((State.incomingCheck_touches _ h j _).mono (by simp))

section
variable {s : State} {h : HouseId} {y : Entry} {j : StationId} (next : (s.house h).next = some y)
  (bound : y.bound = some j)

theorem State.strikeAllowed_strikeCued {t₀ : Trim} :
    StrikeAllowed (s.strikeCued h j y) j t₀ ↔ StrikeAllowed s j t₀ := by
  unfold StrikeAllowed
  rw [(s.strikeCued_touches h j y).station (by simp), (s.strikeCued_touches h j y).fire (by simp)]

include next bound

/-- A strike cue whose request is not made, or refused, has only made its check (R52, R107). -/
theorem State.strikeCue_refused (refused : (s.station j).lamp.state ≠ .cold ∨ ∀ t₀, ¬ StrikeAllowed s j t₀) :
    s.strikeCue h = s.strikeCued h j y := by
  rw [State.strikeCue_bound next bound]
  split
  · rename_i hcold
    have hcued : ((s.strikeCued h j y).station j).lamp.state = .cold := by
      rw [(s.strikeCued_touches h j y).station (by simp)]
      exact hcold
    have hnone : (s.strikeCued h j y).strikeRefusal j ≠ none := fun hr => by
      obtain ⟨⟨t₀, ht₀⟩, -⟩ := State.strikeRefusal_eq_none.1 hr
      exact refused.resolve_left (fun hnot => hnot hcold) t₀ (State.strikeAllowed_strikeCued.1 ht₀)
    obtain ⟨c, hc⟩ := Option.ne_none_iff_exists'.1 hnone
    have hrequest := State.requestStrike_cold hcued
    rw [hc] at hrequest
    exact congrArg Prod.fst hrequest
  · rfl

/-- A strike cue whose request is taken moves the lamp's own station and the arbiter besides (R52, R108, R109). -/
theorem State.strikeCue_struck {t₀ : Trim} (cold : (s.station j).lamp.state = .cold) (allowed : StrikeAllowed s j t₀)
    (free : s.arbiter.supply = .free → s.arbiter.queue = []) : s.strikeCue h = (s.strikeCued h j y).takeStrike j ∧
      Touches [.station j, .arbiter] (s.strikeCued h j y) ((s.strikeCued h j y).takeStrike j) := by
  have hcued := s.strikeCued_touches h j y
  have hcold : ((s.strikeCued h j y).station j).lamp.state = .cold := by rw [hcued.station (by simp)]; exact cold
  have hrequest := State.requestStrike_cold hcold
  rw [State.strikeRefusal_none (State.strikeAllowed_strikeCued.2 allowed) hcold] at hrequest
  rw [State.strikeCue_bound next bound, if_pos cold]
  exact ⟨congrArg Prod.fst hrequest, State.takeStrike_alone hcold (by rw [hcued.arbiter (by simp)]; exact free)⟩

theorem State.strikeCue_cases (free : s.arbiter.supply = .free → s.arbiter.queue = []) :
    s.strikeCue h = s.strikeCued h j y ∨ s.strikeCue h = (s.strikeCued h j y).takeStrike j ∧
      Touches [.station j, .arbiter] (s.strikeCued h j y) ((s.strikeCued h j y).takeStrike j) := by
  by_cases hstruck : (s.station j).lamp.state = .cold ∧ ∃ t₀, StrikeAllowed s j t₀
  · obtain ⟨hcold, t₀, hallowed⟩ := hstruck
    exact .inr (State.strikeCue_struck next bound hcold hallowed free)
  · refine .inl (State.strikeCue_refused next bound ?_)
    rw [or_iff_not_imp_left, not_not]
    exact fun hcold t₀ ht₀ => hstruck ⟨hcold, t₀, ht₀⟩

end

/-- A lamp requested behind changes that leave the lamps, the arbiter and the lamp's own station alone: that station and
the arbiter stand as LS leaves them (R107 to R109). -/
theorem exec_ls_alike {s v : State} {j : StationId} {t₀ : Trim} (alike : SupplyAlike (fun k => k = j) s v)
    (allowed : StrikeAllowed s j t₀) (cold : (s.station j).lamp.state = .cold) :
    ∃ u, exec (.ls j.number) { s with line := { s.line with transmit := .idle, waiting := none } } = .next u ∧
      (v.takeStrike j).station j = u.station j ∧ (v.takeStrike j).arbiter = u.arbiter := by
  have hfree : LineFree { s with line := { s.line with transmit := .idle, waiting := none } } := ⟨rfl, rfl⟩
  have ha := answerLs_taken
    (State.strikeRefusal_none (s := { s with line := { s.line with transmit := .idle, waiting := none } }) allowed cold)
  have hexec := exec_console_free (c := .ls j.number) rfl hfree
  rw [ha] at hexec
  obtain ⟨arbiter, lamps, stations⟩ := alike
  have hidle : SupplyAlike (fun k => k = j) { s with line := { s.line with transmit := .idle, waiting := none } } v :=
    ⟨arbiter, lamps, stations⟩
  obtain ⟨harbiter, -, hstations⟩ := hidle.takeStrike j
  exact ⟨_, hexec, hstations j rfl, harbiter⟩

/-! ### A FAULT found behind a cue -/

/-- A FAULT reckoned from behind changes that leave places, counters, orders and fault records alone is one reckoned from
before them. -/
theorem Faulted.since {s u t : State} {h : HouseId} {cause : FaultCause} {i : StationId} (own : (s.station i).house = h)
    (queue : (u.house h).queue = (s.house h).queue) (record : (u.house h).fault = (s.house h).fault)
    (others : ∀ k, k ≠ h → u.house k = s.house k) (places : ∀ j, (u.station j).house = (s.station j).house)
    (away : ∀ j, (s.station j).house ≠ h → u.station j = s.station j)
    (counter : (u.station i).counter = (s.station i).counter) (clock : u.clock = s.clock)
    (faulted : Faulted u t h cause i) : Faulted s t h cause i := by
  have hbound : u.boundEntry i = s.boundEntry i := by rw [State.boundEntry, State.boundEntry, places, own, queue]
  unfold Faulted at faulted ⊢
  simp only [queue, record, hbound, clock, counter, places] at faulted
  obtain ⟨engine, step, wait, regime, reel, entries, fault, line, motor, dark, stations, houses⟩ := faulted
  exact ⟨engine, step, wait, regime, reel, entries, fault, line, motor, dark,
    fun j hj => (stations j hj).trans (away j hj), fun k hk => (houses k hk).trans (others k hk)⟩

/-- A trip of an engaged station stops the motor of the station on screen, whose counter stands (R63, R155). -/
theorem State.tripBreak_onScreen {s : State} {h : HouseId} {i j : StationId} (present : (s.station j).present = true)
    (fresh : (s.station j).trip = none) (engaged : s.engaged j = true) (own : (s.station j).house = h)
    (other : i ≠ j) (here : (s.station i).house = h) (screen : (s.house h).onScreen = some i)
    (speed : (s.station i).motor = .atSpeed) : ((s.tripBreak j).station i).motor = .stopping ∧
      ((s.tripBreak j).station i).counter = (s.station i).counter := by
  have htaken := s.tripTaken_touches j .filmBreak .filmBreak
  have hsame : (s.tripTaken j .filmBreak .filmBreak).station i = s.station i := htaken.station (by simp [other])
  have hown : ((s.tripTaken j .filmBreak .filmBreak).station j).house = h := by
    rw [State.tripTaken_station]
    exact own
  have hengaged : (s.tripTaken j .filmBreak .filmBreak).engaged i = true := by
    have hhouse : (s.tripTaken j .filmBreak .filmBreak).house h = s.house h := htaken.house (by simp)
    simp [State.engaged, hsame, here, hhouse, screen]
  have htrip : s.tripBreak j = (s.tripTaken j .filmBreak .filmBreak).enterFault h .trip (some j) := by
    rw [State.tripBreak, State.stationTrip_fresh present fresh, if_neg nofun, State.tripHouse, engaged, if_pos rfl, hown]
  rw [htrip, State.station_enterFault, hsame, if_pos here, hengaged, if_pos rfl]
  simp [Station.stopped, speed]

/-! ### The reels of the pulse -/

section
variable {s : State} {h : HouseId} {k : Nat} {x y : Entry} {i j : StationId} (inv : OrderInv s)
  (atX : (s.house h).queue[k]? = some x) (atY : (s.house h).queue[k + 1]? = some y)
  (boundX : x.bound = some i) (boundY : y.bound = some j)
include inv atX atY boundX boundY

/-- The two reels of a changeover stand on two stations (R36). -/
theorem OrderInv.stations_apart : i ≠ j := by
  obtain ⟨rest, -, hqueue⟩ := (inv.order h).two_reels atX atY boundY
  exact QueueOk.reels_apart (hqueue ▸ inv.order h) boundX boundY

/-- The pulse whose motor cue starts a station with its film-break switch open: the station is tripped BREAK, and the
house enters FAULT in the same event (R53, R153, R155). -/
theorem OrderInv.cuedUp_broken (playing : x.status = .playing) (speed : (s.station i).motor = .atSpeed)
    (allowed : StartAllowed s j) (still : (s.station j).motor.running = false) :
    Faulted s (((s.counted i).cuedUp h j y).tripBreak j).settle h .trip j ∧
      ((((s.counted i).cuedUp h j y).tripBreak j).settle.station j).trip = some .filmBreak ∧
      ((((s.counted i).cuedUp h j y).tripBreak j).settle.station i).motor = .stopping ∧
      ((((s.counted i).cuedUp h j y).tripBreak j).settle.station i).counter = (s.station i).counter + 1 ∧
      (((s.counted i).cuedUp h j y).tripBreak j).settle.fire = s.fire.afterTrip
        { cause := .filmBreak, station := some j, house := some h, time := s.clock.time
          counter := some (s.station j).counter, lamp := some (s.station j).lamp.state, onScreen := some false } := by
  have hapart := inv.stations_apart atX atY boundX boundY
  have hown := inv.own atX boundX
  have hownj := inv.own atY boundY
  have hnext : (s.house h).next = some y := (inv.next_at atX playing).trans atY
  have hother : (s.counted i).station j = s.station j := State.station_counted_other hapart.symm
  have hcuedTouch := (s.counted i).cuedUp_touches h j y
  have hcuedj := (s.counted i).station_cuedUp h j y
  rw [hother] at hcuedj
  have hcuedi : ((s.counted i).cuedUp h j y).station i = (s.station i).counted :=
    (hcuedTouch.station (by simp [hapart])).trans (s.station_counted_same i)
  have hrested := hcuedj
  rw [Station.started_still still] at hrested
  have hplace : ∀ m, (((s.counted i).cuedUp h j y).station m).house = (s.station m).house := by
    intro m
    by_cases hm : m = j
    · rw [hm, hrested]
    · by_cases hi : m = i
      · rw [hi, hcuedi]
        rfl
      · rw [hcuedTouch.station (by simp [hm]), State.station_counted_other hi]
  have haway : ∀ m, (s.station m).house ≠ h → ((s.counted i).cuedUp h j y).station m = s.station m := by
    intro m hm
    have hmj : m ≠ j := fun heq => hm (heq ▸ hownj)
    have hmi : m ≠ i := fun heq => hm (heq ▸ hown)
    rw [hcuedTouch.station (by simp [hmj]), State.station_counted_other hmi]
  obtain ⟨l, hl⟩ := (s.counted i).house_cuedUp_light h j y
  obtain ⟨hfaulted, htripped⟩ := State.cuedUp_broken (s := s.counted i) hnext boundY (by rw [hother]; exact hownj)
    (by unfold StartAllowed; rw [hother]; exact allowed) (by rw [hother]; exact still)
  obtain ⟨-, hpresent, htrip, -, -⟩ := id allowed
  have hscreen : (((s.counted i).cuedUp h j y).house h).onScreen = some i := by
    rw [hl]
    show (s.house h).playing.bind (·.bound) = some i
    rw [inv.playing_at atX playing]
    exact boundX
  have hincoming : (((s.counted i).cuedUp h j y).house h).incoming = some j := by
    rw [hl]
    show (s.house h).next.bind (·.bound) = some j
    rw [hnext]
    exact boundY
  obtain ⟨hstopping, hcounter⟩ := State.tripBreak_onScreen (s := (s.counted i).cuedUp h j y) (h := h) (i := i)
    (j := j) (by rw [hrested]; exact hpresent) (by rw [hrested]; exact htrip)
    (by simp [State.engaged, hplace, hownj, hincoming]) (by rw [hplace]; exact hownj) hapart
    (by rw [hplace]; exact hown) hscreen (by rw [hcuedi]; exact speed)
  obtain ⟨-, -, hfire, -⟩ := State.tripBreak_started (u := (s.counted i).cuedUp h j y) hcuedj still hpresent htrip
  have hfields := State.tripFields_started (s := s) (u := (s.counted i).cuedUp h j y) hcuedj
    (hcuedTouch.clock (by simp)) (by rw [hownj, hscreen]; simp [hapart]) .filmBreak
  rw [hfields, hcuedTouch.fire (by simp), hownj] at hfire
  exact ⟨hfaulted.since hownj (by rw [hl]; rfl) (by rw [hl]; rfl) (fun m hm => hcuedTouch.house (by simp [hm]))
      hplace haway (by rw [hrested]) (hcuedTouch.clock (by simp)),
    htripped, hstopping, by rw [State.settle_station, hcounter, hcuedi]; rfl, hfire⟩

end

/-- Settles O32: the pulse is counted, and the cue due at its frame is taken in the state it leaves. -/
theorem footageCuesAreTaken : Obligations.FootageCuesAreTaken := by
  intro s h k x y i interval hx hy hplaying hbound hregime hstop hcue hmotor inv n hn hshort hlong o ho
  subst hn
  obtain rfl : o = (s.station i).counted := ho
  have hexec := exec_tachPulse_short (inv.boundEntry hx hbound) interval hmotor hlong hshort
  have inv' := inv.counted (inv.boundEntry hx hbound)
  have htests := inv'.pulseTests_onScreen hx hplaying hbound
  have hown := inv.own hx hbound
  have hshowing := inv.showing hx hplaying
  have hscreen : (s.house h).onScreen = some i := (inv.onScreen_at hx hplaying).trans hbound
  have hnext : (s.house h).next = some y := (inv.next_at hx hplaying).trans hy
  have hcounted := s.station_counted_same i
  have htouch := s.counted_touches i
  have hpermitted : (s.house h).engine.cueing = true → ((s.counted i).house h).cuesPermitted = true := fun hc =>
    House.cuesPermitted_of (hs := s.house h) (y := y) hc hregime hnext (inv.playing_at hx hplaying) hstop
  rw [hcounted, show ((s.counted i).house h).settings = (s.house h).settings from rfl,
    show (s.station i).counted.counter = (s.station i).counter + 1 from rfl] at htests
  refine ⟨fun hreached hbefore hchange hengine hstrike hlamp => ?strike,
    fun hreached hchange hengine hstrike hpending => ?motor,
    fun j hreached hengine hstrike htaken hpending hj => ?change⟩
  case strike =>
    rw [footageLevel_strike hcue hreached hbefore hchange,
      State.takeCues_strike (hpermitted (by rw [hengine]; rfl)) hstrike] at htests
    rw [htests] at hexec
    have hhouse := (State.house_strikeCue (s := s.counted i) hnext).trans ((s.counted i).house_atStrikeCue h)
    cases hb : y.bound with
    | none =>
      have hcued := State.strikeCue_unbound (s := s.counted i) hnext hb
      have htouched : Touches [.house h, .station i, .line] s ((s.counted i).strikeCue h) := by
        rw [hcued]
        exact ((htouch.mono (by simp)).trans ((State.atStrikeCue_touches _ h).mono (by simp))).trans
          ((State.latch_touches _ _).mono (by simp))
      refine ⟨_, hexec, ?_, hhouse, fun _ => ⟨htouched.settle, ?_⟩, nofun⟩
      · rw [State.settle_station, hcued]
        exact hcounted
      · rw [State.settle_line, hcued]
        rfl
    | some j =>
      have hapart := inv.stations_apart hx hy hbound hb
      have hother : (s.counted i).station j = s.station j := State.station_counted_other hapart.symm
      have hcued := (s.counted i).strikeCued_touches h j y
      have hv : Touches [.house h, .station i, .line] s ((s.counted i).strikeCued h j y) :=
        (htouch.mono (by simp)).trans (hcued.mono (by simp))
      have hvi : ((s.counted i).strikeCued h j y).station i = (s.station i).counted :=
        (hcued.station (by simp)).trans hcounted
      have hvj : ((s.counted i).strikeCued h j y).station j = s.station j := (hcued.station (by simp)).trans hother
      have hallows : ∀ t₀, StrikeAllowed (s.counted i) j t₀ ↔ StrikeAllowed s j t₀ := fun t₀ => by
        unfold StrikeAllowed
        rw [hother]
        rfl
      obtain ⟨-, -, -, -, -, hfree, -⟩ := hlamp
      have hsame : ((s.counted i).strikeCue h).station i = (s.station i).counted ∧
          ((s.counted i).strikeCue h).line = ((s.counted i).strikeCued h j y).line := by
        rcases State.strikeCue_cases (s := s.counted i) hnext hb hfree with he | ⟨he, htook⟩ <;> rw [he]
        · exact ⟨hvi, rfl⟩
        · exact ⟨(htook.station (by simp [hapart])).trans hvi, htook.line (by simp)⟩
      refine ⟨_, hexec, hsame.1, hhouse, nofun, fun j' hj' p hp => ?_⟩
      obtain rfl : j = j' := Option.some.inj hj'
      obtain ⟨-, hline, -⟩ := State.strikeChecked (s := s.counted i) (h := h) (y := y) (p := p) (by rw [hother]; exact hp)
      refine ⟨hsame.2.trans hline, fun hno => ?_, fun t₀ hcold hallowed => ?_⟩
      · rw [State.strikeCue_refused (s := s.counted i) hnext hb (by simpa only [hother, hallows] using hno)]
        exact hv.settle
      · obtain ⟨htook, htouched⟩ := State.strikeCue_struck (s := s.counted i) hnext hb (by rw [hother]; exact hcold)
          ((hallows t₀).2 hallowed) hfree
        have halike : SupplyAlike (fun m => m = j) s ((s.counted i).strikeCued h j y) := by
          refine ⟨hv.arbiter (by simp), fun m => ?_, fun m hm => hm ▸ hvj⟩
          by_cases hm : m = i
          · rw [hm, hvi]
            rfl
          · rw [hv.station (by simp [hm])]
        obtain ⟨u, hu, hstation, harbiter⟩ := exec_ls_alike halike hallowed hcold
        rw [htook]
        exact ⟨((hv.mono (by simp)).trans (htouched.mono (by simp))).settle, u, hu, hstation, harbiter⟩
  case motor =>
    rw [footageLevel_motor hcue hreached hchange,
      State.takeCues_motor (hpermitted (by rw [hengine]; rfl)) hstrike hpending] at htests
    rw [htests] at hexec
    refine ⟨_, hexec, fun hmissed => ?_, fun j hj hallowed => ?_⟩
    · have hmissed' : y.bound = none ∨ ∃ j, y.bound = some j ∧ ¬ StartAllowed (s.counted i) j := by
        rcases hmissed with hb | ⟨j, hb, hnot⟩
        · exact .inl hb
        · refine .inr ⟨j, hb, fun hallowed => hnot ?_⟩
          have hapart := inv.stations_apart hx hy hbound hb
          unfold StartAllowed at hallowed ⊢
          rwa [State.station_counted_other hapart.symm] at hallowed
      rw [State.motorCue_missed (s := s.counted i) hnext hmissed']
      refine ⟨((htouch.mono (by simp)).trans (State.motorCue_missed_touches.mono (by simp))).settle, hcounted, ?_⟩
      rw [State.settle_house, State.house_motorCue_missed]
      rfl
    · have hapart := inv.stations_apart hx hy hbound hj
      have hother : (s.counted i).station j = s.station j := State.station_counted_other hapart.symm
      have hallowed' : StartAllowed (s.counted i) j := by
        unfold StartAllowed
        rw [hother]
        exact hallowed
      have hcuedTouch := (s.counted i).cuedUp_touches h j y
      have hcuedj := (s.counted i).station_cuedUp h j y
      have hcuedi : ((s.counted i).cuedUp h j y).station i = (s.station i).counted :=
        (hcuedTouch.station (by simp [hapart])).trans hcounted
      rw [hother] at hcuedj
      refine ⟨fun hfb htaken => ?_, fun hfb hstill => ?_⟩
      · rw [State.motorCue_closed (s := s.counted i) hnext hj hallowed' (by rw [hother]; exact hfb)]
        exact ⟨((htouch.mono (by simp)).trans (hcuedTouch.mono (by simp))).settle, hcuedi, hcuedj,
          State.house_cuedUp (s := s.counted i) htaken⟩
      · have hstill' : ((s.counted i).station j).motor.running = false := by rw [hother]; exact hstill
        have hownj := inv.own hy hj
        have hownj' : ((s.counted i).station j).house = h := by rw [hother]; exact hownj
        rw [State.motorCue_broken (s := s.counted i) hnext hj hallowed' (by rw [hother]; exact hfb) hstill']
        exact OrderInv.cuedUp_broken inv hx hy hbound hj hplaying hmotor hallowed hstill
  case change =>
    have hcueing : (s.house h).engine.cueing = true := by rw [hengine]; rfl
    have hapart := inv.stations_apart hx hy hbound hj
    have hother : (s.counted i).station j = s.station j := State.station_counted_other hapart.symm
    rw [footageLevel_change hcue hreached,
      State.takeCues_change (hpermitted hcueing) hstrike htaken hpending] at htests
    rw [htests] at hexec
    have hincoming : ((s.counted i).house h).incoming = some j := by
      show (s.house h).incoming = some j
      rw [House.incoming, if_pos hcueing, hnext]
      exact hj
    refine ⟨fun hmissed hlamp hspeed hport => ?_, fun r hr => ?_⟩
    · have hready : (s.counted i).changeReady h = true :=
        (State.changeReady_iff (s := s.counted i) hcueing).2
          ⟨y, j, hnext, hj, hmissed, by rw [hother]; exact hlamp, by rw [hother]; exact hspeed, hport⟩
      have hbutton : (s.counted i).manualChangeReady h = true := by
        have hpermits : (s.house h).cuesPermitted = true := hpermitted hcueing
        simp [State.manualChangeReady, hpermits, hready, hengine]
      rw [hexec, State.changeCue_ready hready]
      exact (exec_cbClosing_change hbutton).symm
    · have hwhy : ((s.counted i).house h).reel.missed = some r ∨
          ((s.counted i).house h).reel.missed = none ∧ ((s.counted i).station j).lamp.state ≠ .burn ∧ r = .lamp ∨
          ((s.counted i).house h).reel.missed = none ∧ ((s.counted i).station j).lamp.state = .burn ∧
            ((s.counted i).station j).motor ≠ .atSpeed ∧ r = .speed := by
        rw [hother]
        exact hr
      obtain ⟨hdown, hstopped, hline, hran⟩ := State.runDown_bound
        (State.missReason_bound (s := s.counted i) (r := r) hincoming hwhy) hincoming
      rw [State.changeCue_missed (State.changeReady_late (s := s.counted i) (r := r) hcueing hnext hj hwhy)] at hexec
      refine ⟨_, hexec, ((htouch.mono (by simp)).trans (hdown.mono (by simp))).settle, ?_, ?_, hline, hran⟩
      · rw [State.settle_station, hdown.station (by simp [hapart]), hcounted]
      · rw [State.settle_station, hstopped, hother]

end Sys2Proof.Machine

/-!
The tails of reels (R10, R40, R48, R57 to R59): of a RUN-OUT reel, of a reel on screen, of a missed changeover, and of a
reel still at its start.
-/

namespace Sys2Proof.Machine

/-! ### The station of a tail -/

section
variable {st : Station} (speed : st.motor = .atSpeed)
include speed

theorem Station.stopped_counted : ({ st.counted.stopped with counterMode := .hold } : Station) =
    { st.stopped with counter := st.counter + 1, counterMode := .hold } := by
  simp [Station.stopped, Station.counted, speed]

theorem Station.closedDown_counted : ({ st.counted.closedDown with counterMode := .hold } : Station) =
    { ({ st.stopped with counter := st.counter + 1, counterMode := .hold } : Station).extinguished with
      demandOpen := false, csOpen := false } := by
  unfold Station.closedDown Station.extinguished Station.stopped Station.counted
  by_cases hout : st.lamp.state.out = true <;> simp [hout, speed]

end

/-- A station put out keeps the shortfall mark that its carbon had (R118, R134). -/
theorem Station.extinguished_mark (st : Station) (demand cs : Bool) :
    ({ st with demandOpen := demand, csOpen := cs, carbon := { st.carbon with mark := .clear } } : Station).extinguished =
      { st.extinguished with
        demandOpen := demand, csOpen := cs, carbon := { st.extinguished.carbon with mark := .clear } } := by
  unfold Station.extinguished
  dsimp only
  split
  · rfl
  · by_cases hburn : st.lamp.state = .burn <;> simp [hburn]

theorem Station.closedDown_mark (st : Station) (demand cs : Bool) :
    ({ st with demandOpen := demand, csOpen := cs, carbon := { st.carbon with mark := .clear } } : Station).closedDown =
      { st.closedDown with carbon := { st.closedDown.carbon with mark := .clear } } := by
  unfold Station.closedDown
  rw [Station.extinguished_mark]
  unfold Station.stopped
  cases hm : st.motor <;> simp [hm]

/-! ### A reel leaves the screen -/

/-- The state in which a station is closed down and its entry has left (R58, R59). -/
def State.reelGone (s : State) (i : StationId) : State := (s.closeDown i).removeEntry i

section
variable {s : State} {h : HouseId} {i : StationId} {e : Entry} {q : List Entry} (own : (s.station i).house = h)
  (drop : dropEntry (s.house h).queue i = q)

theorem State.station_reelGone (s : State) (i : StationId) :
    (s.reelGone i).station i = { (s.station i).closedDown with counterMode := .hold } := by
  rw [State.reelGone, State.station_removeEntry, if_pos rfl, State.station_closeDown, if_pos rfl]

theorem State.reelGone_arbiter (s : State) (i : StationId) :
    (s.reelGone i).arbiter = s.arbiter.without i (s.station i).lamp.state := by
  rw [← State.closeDown_arbiter, State.reelGone, ((s.closeDown i).removeEntry_touches i).arbiter (by simp)]

include own

theorem State.reelGone_touches : Touches [.house h, .station i, .arbiter] s (s.reelGone i) := by
  have hown : ((s.closeDown i).station i).house = h := by
    rw [State.station_closeDown, if_pos rfl, Station.closedDown_house, own]
  refine ((s.closeDown_touches i).mono (by simp)).trans (((s.closeDown i).removeEntry_touches i).mono ?_)
  rw [hown]
  simp

include drop

theorem State.house_reelGone : (s.reelGone i).house h = { s.house h with queue := q } := by
  have hown : ((s.closeDown i).station i).house = h := by
    rw [State.station_closeDown, if_pos rfl, Station.closedDown_house, own]
  rw [State.reelGone, State.removeEntry_house, hown, if_pos rfl, (s.closeDown_touches i).house (by simp), drop]

/-- The house as its last, stop-flag or SINGLE-regime reel leaves it (R59). -/
def House.reelEnded (hs : House) (q : List Entry) (light : Light) : House :=
  { hs with
    queue := q, regime := none, reel := Reel.clear, light := light
    engine := if q = [] then .idle else .interval, hold := if q = [] then .none else hs.hold }

/-- The house as a missed changeover leaves it (R58). -/
def House.missEnded (hs : House) (q : List Entry) (light : Light) : House :=
  { hs with
    queue := q, regime := none, light := light
    engine := if q = [] then .idle else .hold, hold := if q = [] then .none else .missed hs.reel.missed }

/-- The end of a reel (R59). -/
theorem State.endReel_spec (ranged : ∀ a ∈ e.en, a.level ≤ 1000 ∧ a.time ≤ 60000) :
    Touches [.house h, .station i, .arbiter] s (s.endReel h i e) ∧
      (s.endReel h i e).station i = { (s.station i).closedDown with counterMode := .hold } ∧
      (s.endReel h i e).arbiter = s.arbiter.without i (s.station i).lamp.state ∧
      (s.endReel h i e).house h = (s.house h).reelEnded q ((s.house h).light.acted e.en) := by
  have hgone := State.reelGone_touches own
  have hend : s.endReel h i e = ((s.reelGone i).action h e.en).modHouse h fun hs =>
    if hs.queue.isEmpty then ({ hs with regime := none, reel := Reel.clear } : House).toIdle
    else { hs with regime := none, reel := Reel.clear, engine := .interval } := rfl
  have haction := (s.reelGone i).action_touches h e.en
  rw [hend]
  refine ⟨(hgone.trans (haction.mono (by simp))).trans ((State.modHouse_touches _ h _).mono (by simp)), ?_, ?_, ?_⟩
  · rw [State.modHouse_station, State.action_station, State.station_reelGone]
  · rw [State.modHouse_arbiter, State.action_arbiter, State.reelGone_arbiter]
  · rw [State.house_modHouse_same, State.house_action ranged, State.house_reelGone own drop]
    cases q <;> rfl

/-- The light of a house at the end of a missed changeover: the reel's action, or the hold level (R58, R145). -/
def House.missLight (hs : House) : Option LightAction → Light
  | none => hs.light.faded hs.settings.level hs.settings.fade
  | some a => hs.light.faded a.level a.time

/-- The end of a missed changeover (R58). -/
theorem State.endMissed_spec (ranged : ∀ a ∈ e.en, a.level ≤ 1000 ∧ a.time ≤ 60000)
    (level : (s.house h).settings.level ≤ 1000) (fade : (s.house h).settings.fade ≤ 60000) :
    Touches [.house h, .station i, .arbiter] s (s.endMissed h i e) ∧
      (s.endMissed h i e).station i = { (s.station i).closedDown with counterMode := .hold } ∧
      (s.endMissed h i e).arbiter = s.arbiter.without i (s.station i).lamp.state ∧
      (s.endMissed h i e).house h = (s.house h).missEnded q ((s.house h).missLight e.en) := by
  have hgone := State.reelGone_touches own
  have hhouse := State.house_reelGone own drop
  obtain ⟨u, hu, hlights, hstation, harbiter, hfaded⟩ : ∃ u, s.endMissed h i e = (u.modHouse h fun hs =>
      if hs.queue.isEmpty then ({ hs with regime := none } : House).toIdle
      else { hs with regime := none, engine := .hold, hold := .missed hs.reel.missed }) ∧
      Touches [.house h] (s.reelGone i) u ∧ u.station i = (s.reelGone i).station i ∧
      u.arbiter = (s.reelGone i).arbiter ∧
      u.house h = { s.house h with queue := q, light := (s.house h).missLight e.en } := by
    cases hen : e.en with
    | none =>
      refine ⟨(s.reelGone i).holdFade h, ?_, State.holdFade_touches _ h, rfl, rfl, ?_⟩
      · simp only [State.endMissed, hen]
        rfl
      · rw [State.house_holdFade (by rw [hhouse]; exact level) (by rw [hhouse]; exact fade), hhouse]
        rfl
    | some a =>
      obtain ⟨hlevel, htime⟩ := ranged a hen
      refine ⟨(s.reelGone i).fade h a.level a.time, ?_, State.modHouse_touches _ h _, rfl, rfl, ?_⟩
      · simp only [State.endMissed, hen]
        rfl
      · rw [State.fade, State.house_modLight_same, hhouse, Light.fadeStart_eq _ hlevel htime]
        rfl
  rw [hu]
  refine ⟨(hgone.trans (hlights.mono (by simp))).trans ((State.modHouse_touches _ h _).mono (by simp)), ?_, ?_, ?_⟩
  · rw [State.modHouse_station, hstation, State.station_reelGone]
  · rw [State.modHouse_arbiter, harbiter, State.reelGone_arbiter]
  · rw [State.house_modHouse_same, hfaded]
    cases q <;> rfl

end

/-! ### Which tail it is -/

section
variable {s : State} {h : HouseId} {i : StationId} {e : Entry} (own : (s.station i).house = h)
  (bound : s.boundEntry i = some e)
include own bound

theorem State.reelTail_runOut (out : e.status = .runOut) :
    s.reelTail i = ((s.stopMotor i).removeEntry i).readyTest h := by
  simp only [State.reelTail, own, bound, out]

theorem State.reelTail_onScreen (playing : e.status = .playing) (screen : (s.house h).onScreen = some i) :
    s.reelTail i = s.onScreenTail h i e := by
  simp only [State.reelTail, own, bound, playing, screen, if_true]

end

section
variable {s : State} {h : HouseId} {i : StationId} {e : Entry}

theorem State.onScreenTail_runDown (down : (s.house h).engine = .runDown) :
    s.onScreenTail h i e = s.endMissed h i e := by
  simp only [State.onScreenTail, down, if_true]

theorem State.onScreenTail_barred (up : (s.house h).engine ≠ .runDown) (barred : (s.house h).cuesPermitted = false) :
    s.onScreenTail h i e = s.endReel h i e := by
  simp only [State.onScreenTail, up, barred, Bool.false_eq_true, if_false]

theorem State.onScreenTail_missed (up : (s.house h).engine ≠ .runDown)
    (permitted : (s.house h).cuesPermitted = true) : s.onScreenTail h i e = (s.missAtTail h).endMissed h i e := by
  simp only [State.onScreenTail, up, permitted, if_true, if_false]

theorem State.takeCues_low {start : State → State} {level : Nat} (low : level ≤ 1)
    (strike : (s.house h).reel.strike = .taken) : s.takeCues start h level = s := by
  simp [State.takeCues, strike, show ¬ 2 ≤ level by omega, show ¬ 3 ≤ level by omega]

end

theorem House.cuesPermitted_cueing {hs : House} (down : hs.engine.cueing = false) : hs.cuesPermitted = false := by
  simp [House.cuesPermitted, down]

theorem footageLevel_sensor {x : Entry} (cue : x.cue = .sensor) (lead n : Nat) : footageLevel x lead n ≤ 1 := by
  simp only [footageLevel, cue, bne_self_eq_false, Bool.false_and, Bool.false_eq_true, if_false]
  split <;> omega

/-! ### A changeover missed at the tail -/

section
variable {s : State} {h : HouseId} {y : Entry} (cueing : (s.house h).engine.cueing = true)
  (next : (s.house h).next = some y)
include cueing next

/-- A changeover missed at the tail stops the incoming motor and warns (R58). -/
theorem State.missAtTail_spec {r : MissReason} (reason : r = (s.house h).reel.missed.getD .sensor) :
    Touches (.house h :: .line :: (StationId.all.filter fun j => y.bound = some j).map .station) s (s.missAtTail h) ∧
      (∀ j, (s.missAtTail h).station j = if y.bound = some j then (s.station j).stopped else s.station j) ∧
      (s.missAtTail h).line = s.line.warned (.missed h r) ∧
      (s.missAtTail h).house h = { s.house h with reel := { (s.house h).reel with missed := some r } } := by
  subst reason
  generalize hu : s.modHouse h (fun hs => { hs with reel := { hs.reel with
    missed := some ((s.house h).reel.missed.getD .sensor) } }) = u
  have htouch : Touches [.house h] s u := hu ▸ s.modHouse_touches h _
  have hhouse : u.house h = { s.house h with reel := { (s.house h).reel with
      missed := some ((s.house h).reel.missed.getD .sensor) } } := by
    rw [← hu, State.house_modHouse_same]
  have hincoming : (u.house h).incoming = y.bound := by
    rw [hhouse]
    show (if (s.house h).engine.cueing = true then (s.house h).next.bind (·.bound) else none) = _
    rw [if_pos cueing, next]
    rfl
  have hmiss : s.missAtTail h =
      (u.stopIncoming h).latch (.missed h ((s.house h).reel.missed.getD .sensor)) := by rw [← hu]; rfl
  have hstation : ∀ j, u.station j = s.station j := fun j => htouch.station (by simp)
  rw [hmiss]
  cases hb : y.bound with
  | none =>
    have hstop : u.stopIncoming h = u := by simp only [State.stopIncoming, hincoming, hb]
    rw [hstop]
    refine ⟨(htouch.mono (by simp)).trans ((State.latch_touches _ _).mono (by simp)), fun j => ?_, ?_, hhouse⟩
    · rw [if_neg nofun, State.latch_station, hstation]
    · rw [State.latch_line, htouch.line (by simp)]
  | some j =>
    have hstop : u.stopIncoming h = u.stopMotor j := by simp only [State.stopIncoming, hincoming, hb]
    rw [hstop]
    refine ⟨((htouch.mono (by simp)).trans ((u.modStation_touches j _).mono ?_)).trans
      ((State.latch_touches _ _).mono (by simp)), fun m => ?_, ?_, hhouse⟩
    · simpa using StationId.mem_all j
    · rw [State.latch_station, State.station_stopMotor, hstation, hstation]
      by_cases hm : m = j
      · rw [if_pos hm, if_pos (by rw [hm]), hm]
      · rw [if_neg hm, if_neg (by simpa using Ne.symm hm)]
    · have hline : (u.stopMotor j).line = s.line := htouch.line (by simp)
      rw [State.latch_line, hline]

end

/-! ### A tail at the start -/

section
variable {s : State} {h : HouseId} {i : StationId} {x : Entry} {q : List Entry} (inv : OrderInv s)
  (queue : (s.house h).queue = x :: q) (bound : x.bound = some i) (taken : x.asTaken)

/-- The station of a picture, whether its demand and shutter opened or not (R48). -/
theorem State.station_pictured_screen (s : State) (h : HouseId) (i : StationId) : ∃ demand cs,
    (s.pictured h i).station i = { s.station i with
      demandOpen := demand, csOpen := cs, carbon := { (s.station i).carbon with mark := .clear } } := by
  have hscreen : (s.pictured h i).station i = (s.takeScreen i).station i := by
    rw [State.pictured, State.modHouse_station, State.action_station]
  rw [hscreen, State.takeScreen, State.openShutter_eq]
  split
  · exact ⟨true, (s.station i).csOpen, by simp [State.openDemand, State.modCarbon]⟩
  · exact ⟨true, true, by simp [State.openDemand, State.modCarbon]⟩

include inv queue bound taken

/-- A picture at or beyond its reel's length, with no cue to prepare, is taken with the tail in the one event (R48, R59). -/
theorem State.picture_tail (reached : x.length ≤ (s.station i).counter)
    (single : q = [] ∨ x.stop = true ∨ s.mode h = .single) : Touches [.house h, .station i, .arbiter] s (s.picture h i) ∧
      (s.picture h i).station i = { (s.station i).closedDown with
        counterMode := .hold, carbon := { (s.station i).closedDown.carbon with mark := .clear } } ∧
      (s.picture h i).arbiter = s.arbiter.without i (s.station i).lamp.state ∧
      (s.picture h i).house h = House.reelEnded { s.house h with step := none, lampWait := false } q
        (((s.house h).light.acted x.pi).acted x.en) := by
  have hhead : (s.house h).queue.head? = some x := by rw [queue]; rfl
  have hown : (s.station i).house = h := inv.own (k := 0) (by rw [queue]; rfl) bound
  have hhouse := State.house_pictured (i := i) hhead taken
  rw [State.pictured_queue inv queue bound] at hhouse
  obtain ⟨demand, cs, hstation⟩ := s.station_pictured_screen h i
  have htouch := s.pictured_touches h i
  rw [State.picture_eq]
  generalize s.pictured h i = u at hhouse hstation htouch
  have hown' : (u.station i).house = h := by rw [hstation]; exact hown
  have hplaying : (u.house h).playing = some { x with status := .playing } := by
    rw [hhouse]
    exact List.find?_cons_of_pos rfl
  have hscreen : (u.house h).onScreen = some i := by
    rw [hhouse]
    simp [House.onScreen, House.playing, EngineState.showing, bound]
  have hentry : u.boundEntry i = some { x with status := .playing } := by
    rw [State.boundEntry, hown', hhouse]
    exact List.find?_cons_of_pos (by simp [bound])
  have hbarred : (u.house h).cuesPermitted = false := by
    refine House.cuesPermitted_barred hplaying ?_
    rcases single with rfl | hstop | hmode
    · refine .inr (.inr ?_)
      rw [hhouse]
      rfl
    · exact .inl hstop
    · refine .inr (.inl ?_)
      rw [hhouse, hmode]
      nofun
  have htail : u.atTail i = true := by
    simp only [State.atTail, hentry, hstation, decide_eq_true_eq]
    exact reached
  have hended : u.testReel h = u.endReel h i { x with status := .playing } := by
    rw [State.testReel, State.beginReel, State.takeCues_barred hbarred]
    simp only [hscreen, htail, if_true]
    rw [State.reelTail_onScreen hown' hentry rfl hscreen, State.onScreenTail_barred (by rw [hhouse]; nofun) hbarred]
  obtain ⟨-, -, -, -, -, -, -, hactions⟩ := taken
  obtain ⟨hparts, hgone, harbiter, hleft⟩ := State.endReel_spec (e := { x with status := .playing }) (q := q) hown'
    (by rw [hhouse]; exact List.eraseP_cons_of_pos (by simp [bound])) (hactions x.en (by simp))
  rw [hended]
  refine ⟨(htouch.mono (by simp)).trans hparts, ?_, ?_, ?_⟩
  · rw [hgone, hstation, Station.closedDown_mark]
  · rw [harbiter, hstation, htouch.arbiter (by simp)]
  · rw [hleft, hhouse]
    rfl

end

/-! ### The pulse that reports a tail -/

theorem House.readyTest_of_rest {hs : House} (idle : hs.engine ≠ .idle) (ready : hs.engine ≠ .ready) :
    hs.readyTest = hs := by
  unfold House.readyTest
  split
  · contradiction
  · contradiction
  · rfl

section
variable {s : State} {h : HouseId} {k : Nat} {x : Entry} {i : StationId} (inv : OrderInv s)
  (at_ : (s.house h).queue[k]? = some x) (bound : x.bound = some i)
include inv at_ bound

/-- A RUN-OUT entry's station is neither on the screen nor starting: the pulse makes no test (R35, R43). -/
theorem OrderInv.runOut_pulse (out : x.status = .runOut) : (s.house h).startStation ≠ some i ∧
    s.pulseTests i = s ∧ (s.house h).engine ≠ .idle ∧ (s.house h).engine ≠ .ready := by
  have hrests := (((orderInv_iff s).1 inv).1 h).runOut x (List.mem_of_getElem? at_) out
  simp only [List.mem_cons, List.not_mem_nil, or_false, not_or] at hrests
  obtain ⟨hidle, hready, hstarting, -⟩ := hrests
  have hstart : (s.house h).startStation ≠ some i := by
    rw [House.startStation, if_neg hstarting]
    nofun
  have hscreen : (s.house h).onScreen ≠ some i := fun hs => by
    obtain ⟨-, hplaying⟩ := House.onScreen_eq_some hs
    obtain ⟨e, he, hb⟩ := Option.bind_eq_some_iff.1 hplaying
    obtain ⟨j, hj⟩ := List.mem_iff_getElem?.1 (List.mem_of_find?_eq_some he)
    have hplace := (inv.order h).place_of_bound at_ bound hj hb
    subst hplace
    cases at_.symm.trans hj
    have hstatus : x.status = .playing := by simpa using List.find?_some he
    rw [out] at hstatus
    cases hstatus
  refine ⟨hstart, ?_, hidle, hready⟩
  simp only [State.pulseTests, inv.own at_ bound, hstart, hscreen, if_false]

/-- The tail of a station that starts no show is its reel's (R10). -/
theorem OrderInv.tail_eq (start : (s.house h).startStation ≠ some i) : s.tail i = s.reelTail i := by
  simp only [State.tail, inv.own at_ bound, start, if_false]

/-- The pulse of the on-screen station that takes no cue reports the tail of the reel on screen (R10, R50). -/
theorem OrderInv.tail_onScreen (playing : x.status = .playing)
    (still : s.takeCues (fun t => t.testReel h) h
      (footageLevel x (s.house h).settings.lead (s.station i).counter) = s) :
    (s.pulseTests i).tail i = s.onScreenTail h i x := by
  rw [inv.pulseTests_onScreen at_ playing bound, still,
    inv.tail_eq at_ bound (by rw [inv.not_starting at_ playing]; nofun),
    State.reelTail_onScreen (inv.own at_ bound) (inv.boundEntry at_ bound) playing
      ((inv.onScreen_at at_ playing).trans bound)]

end

section
variable {s : State} {h : HouseId} {x : Entry} {i : StationId} {q : List Entry} (inv : OrderInv s)
  (queue : (s.house h).queue = x :: q) (bound : x.bound = some i) (taken : x.asTaken)
  (engine : (s.house h).engine = .starting)
include inv queue bound taken engine

/-- The pulse that brings a start-sequence station to its reel's length takes the picture and the tail, whichever of the
LEADER test and the tail takes the picture (R48). -/
theorem OrderInv.tail_starting (reached : x.length ≤ (s.station i).counter)
    (single : q = [] ∨ x.stop = true ∨ s.mode h = .single) : (s.pulseTests i).tail i = s.picture h i := by
  have hat : (s.house h).queue[0]? = some x := by rw [queue]; rfl
  have hown := inv.own hat bound
  have hstart := House.startStation_of engine queue bound
  have hhead : (s.house h).queue.head? = some x := by rw [queue]; rfl
  rw [State.pulseTests_start hown hstart]
  by_cases hpicture : (s.house h).step = some .leader ∧ x.first ≤ (s.station i).counter
  · obtain ⟨hstep, hfirst⟩ := hpicture
    obtain ⟨-, hstation, -, hhouse⟩ := State.picture_tail inv queue bound taken reached single
    have hown' : ((s.picture h i).station i).house = h := by
      rw [hstation]
      exact (Station.closedDown_house _).trans hown
    have hnone : ((s.picture h i).house h).startStation = none := by
      rw [hhouse, House.startStation, if_neg]
      show ¬ (if q = [] then EngineState.idle else .interval) = .starting
      split <;> nofun
    have hgone : (s.picture h i).boundEntry i = none := by
      rw [State.boundEntry, hown', hhouse]
      refine List.find?_eq_none.2 fun e he hb => ?_
      obtain ⟨j, hj⟩ := List.mem_iff_getElem?.1 he
      have hplace := (inv.order h).place_of_bound (j := j + 1) (e := e) hat bound (by rw [queue]; exact hj)
        (by simpa using hb)
      cases hplace
    rw [if_pos hstep, State.leaderTest_picture hhead hfirst]
    simp only [State.tail, hown', hnone, State.reelTail, hgone]
    exact if_neg nofun
  · have hwaits : (if (s.house h).step = some .leader then s.leaderTest h i else s) = s := by
      split
      · rename_i hstep
        exact State.leaderTest_waits hhead (Nat.lt_of_not_le fun hfirst => hpicture ⟨hstep, hfirst⟩)
      · rfl
    rw [hwaits, State.tail, hown]
    exact if_pos hstart

end

/-- Settles O33: the pulse takes no cue, and then the tail is the one its entry and its house make it. -/
theorem tailsEndReels : Obligations.TailsEndReels := by
  intro s h k x i interval hx hbound hmotor hreached htaken inv q hq hlevel hfade o ho ended hended
  obtain ⟨-, -, hlong, -, -, -, -, hactions⟩ := id htaken
  have hexec := exec_tachPulse_tail (inv.boundEntry hx hbound) interval hmotor hlong hreached
  have inv' := inv.counted (inv.boundEntry hx hbound)
  have hcounted := s.station_counted_same i
  have htouch := s.counted_touches i
  have hown : ((s.counted i).station i).house = h := inv'.own hx hbound
  have hcounter : ((s.counted i).station i).counter = x.length := by rw [hcounted]; exact hreached
  have hdrop : dropEntry ((s.counted i).house h).queue i = q :=
    ((inv.order h).dropEntry_at hx hbound).trans hq.symm
  have hen := hactions x.en (by simp)
  have hlamp : ((s.counted i).station i).lamp.state = (s.station i).lamp.state := by rw [hcounted]; rfl
  have hleft : ({ ((s.counted i).station i).closedDown with counterMode := .hold } : Station) = ended := by
    rw [hended, ho, ← hreached, hcounted]
    exact Station.closedDown_counted hmotor
  refine ⟨_, hexec, fun hout => ?runOut, fun hplaying hengine hsingle => ?ends, fun held hheld =>
    ⟨fun hplaying hdown => ?runDown, fun y r hplaying hengine hy hstop hregime hcue hstrike hr => ?missed⟩,
    fun hengine hk hsingle => ?starting⟩
  case runOut =>
    obtain ⟨hstart, htests, hidle, hready⟩ := inv'.runOut_pulse hx hbound hout
    rw [htests, inv'.tail_eq hx hbound hstart, State.reelTail_runOut hown (inv'.boundEntry hx hbound) hout]
    have hstopped : (((s.counted i).stopMotor i).station i).house = h := by
      rw [State.station_stopMotor_same, Station.stopped_house]
      exact hown
    have hparts : Touches [.house h, .station i] s ((((s.counted i).stopMotor i).removeEntry i).readyTest h) := by
      refine (((htouch.mono (by simp)).trans ((State.modStation_touches _ i _).mono (by simp))).trans
        (((s.counted i).stopMotor i).removeEntry_touches i |>.mono ?_)).trans ((State.modHouse_touches _ h _).mono (by simp))
      rw [hstopped]
      simp
    refine ⟨hparts.settle, ?_, ?_⟩
    · show (((s.counted i).stopMotor i).removeEntry i).station i = o
      rw [State.station_removeEntry, if_pos rfl, State.station_stopMotor_same, hcounted, Station.stopped_counted hmotor,
        ho, hreached]
    · rw [State.settle_house, State.house_readyTest, if_pos rfl, State.removeEntry_house, hstopped, if_pos rfl]
      show House.readyTest { s.house h with queue := dropEntry (s.house h).queue i } = _
      rw [House.readyTest_of_rest (hs := { s.house h with queue := dropEntry (s.house h).queue i }) hidle hready]
      exact congrArg (fun q => { s.house h with queue := q }) hdrop
  case ends =>
    have hbarred : ((s.counted i).house h).cuesPermitted = false := by
      refine House.cuesPermitted_barred (inv.playing_at hx hplaying) ?_
      rcases hsingle with hlast | hstop | hregime
      · refine .inr (.inr ((inv.next_at hx hplaying).trans ?_))
        rw [← hlast]
        exact List.getElem?_eq_none le_rfl
      · exact .inl hstop
      · exact .inr (.inl (by rw [show ((s.counted i).house h).regime = _ from hregime]; nofun))
    have hup : ((s.counted i).house h).engine ≠ .runDown := fun hdown => by
      rw [show (s.house h).engine = .runDown from hdown] at hengine
      revert hengine
      decide
    obtain ⟨hparts, hgone, harbiter, hhouse⟩ := State.endReel_spec (s := s.counted i) hown hdrop hen
    rw [inv'.tail_onScreen hx hbound hplaying (State.takeCues_barred hbarred _), State.onScreenTail_barred hup hbarred]
    exact ⟨((htouch.mono (by simp)).trans hparts).settle, hgone.trans hleft, harbiter.trans (by rw [hlamp]; rfl), hhouse⟩
  case runDown =>
    have hbarred : ((s.counted i).house h).cuesPermitted = false :=
      House.cuesPermitted_cueing (by rw [show ((s.counted i).house h).engine = .runDown from hdown]; rfl)
    have hlight : (s.house h).missLight x.en = held := by
      rw [hheld]
      cases x.en <;> rfl
    obtain ⟨hparts, hgone, harbiter, hhouse⟩ := State.endMissed_spec (s := s.counted i) hown hdrop hen hlevel hfade
    rw [inv'.tail_onScreen hx hbound hplaying (State.takeCues_barred hbarred _), State.onScreenTail_runDown (s := s.counted i) hdown]
    exact ⟨((htouch.mono (by simp)).trans hparts).settle, hgone.trans hleft, harbiter.trans (by rw [hlamp]; rfl),
      hhouse.trans (by rw [← hlight]; rfl)⟩
  case missed =>
    have hcueing : (s.house h).engine.cueing = true := by
      rw [EngineState.cueing_iff]
      exact List.mem_cons_of_mem _ hengine
    have hnext : (s.house h).next = some y := (inv.next_at hx hplaying).trans hy
    have hpermitted : ((s.counted i).house h).cuesPermitted = true :=
      House.cuesPermitted_of (hs := s.house h) hcueing hregime hnext (inv.playing_at hx hplaying) hstop
    have hup : ((s.counted i).house h).engine ≠ .runDown := fun hdown => by
      rw [show (s.house h).engine = .runDown from hdown] at hengine
      revert hengine
      decide
    have hlight : (s.house h).missLight x.en = held := by
      rw [hheld]
      cases x.en <;> rfl
    have hnonempty : q ≠ [] := by
      have hlong := (List.getElem?_eq_some_iff.1 hy).1
      have hlength := List.length_eraseIdx_add_one (l := (s.house h).queue) (i := k) (by omega)
      rintro rfl
      rw [← hq] at hlength
      simp only [List.length_nil] at hlength
      omega
    have hapart : y.bound ≠ some i := fun hb => inv.stations_apart hx hy hbound hb rfl
    obtain ⟨hmissed, hstations, hline, hhouse⟩ :=
      State.missAtTail_spec (s := s.counted i) (h := h) (y := y) hcueing hnext hr
    generalize hv : (s.counted i).missAtTail h = v at hmissed hstations hline hhouse
    have hvi : v.station i = (s.counted i).station i := (hstations i).trans (if_neg hapart)
    obtain ⟨hparts, hgone, harbiter, hended⟩ := State.endMissed_spec (s := v) (h := h) (i := i) (e := x) (q := q)
      (by rw [hvi]; exact hown) (by rw [hhouse]; exact hdrop) hen (by rw [hhouse]; exact hlevel)
      (by rw [hhouse]; exact hfade)
    rw [inv'.tail_onScreen hx hbound hplaying
      (State.takeCues_low (footageLevel_sensor hcue _ _) hstrike), State.onScreenTail_missed hup hpermitted, hv]
    refine ⟨fun j hj => ?_, fun m hm => ?_, ?_, ?_, ?_, ?_, ?_, ?_, ?_⟩
    · rw [State.settle_station, hparts.station (by simp [hj]), hstations, State.station_counted_other hj]
    · rw [State.settle_house, hparts.house (by simp [hm]), hmissed.house (by simp [hm])]
      rfl
    · exact (hparts.clock (by simp)).trans (hmissed.clock (by simp))
    · exact (hparts.fire (by simp)).trans (hmissed.fire (by simp))
    · exact (hparts.draws (by simp)).trans (hmissed.draws (by simp))
    · rw [State.settle_station, hgone, hvi, hleft]
    · exact (hparts.line (by simp)).trans hline
    · rw [State.settle_arbiter, harbiter, hvi, hlamp, hmissed.arbiter (by simp)]
      rfl
    · rw [State.settle_house, hended, hhouse, House.missEnded, if_neg hnonempty, if_neg hnonempty, ← hlight]
      rfl
  case starting =>
    subst hk
    obtain ⟨rest, hqueue⟩ : ∃ rest, (s.house h).queue = x :: rest := by
      cases hl : (s.house h).queue with
      | nil => simp [hl] at hx
      | cons a l =>
        rw [hl] at hx
        cases hx
        exact ⟨l, rfl⟩
    obtain rfl : q = rest := by rw [hq, hqueue]; rfl
    have hreaches : x.length ≤ ((s.counted i).station i).counter := hcounter.ge
    have hsingle' : q = [] ∨ x.stop = true ∨ (s.counted i).mode h = .single := by rwa [State.mode_counted]
    obtain ⟨hparts, hgone, harbiter, hhouse⟩ :=
      State.picture_tail (s := s.counted i) inv' hqueue hbound htaken hreaches hsingle'
    rw [OrderInv.tail_starting (s := s.counted i) inv' hqueue hbound htaken hengine hreaches hsingle']
    refine ⟨((htouch.mono (by simp)).trans hparts).settle, ?_, harbiter.trans (by rw [hlamp]; rfl), hhouse⟩
    rw [State.settle_station, hgone, ← hleft]

end Sys2Proof.Machine

/-!
The end of the reset hold (R21, R159) and booth reset (R178, R179): the trim straps read afresh.
-/

namespace Sys2Proof.Machine

/-! ### The end of the reset hold -/

section
variable {s : State} {i : StationId} {p : TrimStraps}

theorem exec_resetHoldEnd (resetting : (s.station i).condition = .resetting) :
    exec (.resetHoldEnd i p) s = done (s.resetHoldEnd i p) := by
  have hexec : exec (.resetHoldEnd i p) s = execResetHoldEnd i p s := rfl
  rw [hexec, execResetHoldEnd, if_pos resetting]
  rfl

/-- A station as the strap read at the end of its reset hold leaves it (R1, R21, R96). -/
theorem State.station_strapsRead (s : State) (i : StationId) (p : TrimStraps) : (s.strapsRead i p).station i =
    { s.station i with
        condition := .normal
        ld := { (s.station i).ld with mode := .enforce }, md := { (s.station i).md with mode := .enforce }
        trim := trimOf p, channel := { (s.station i).channel with params := (trimOf p).map Trim.params } } := by
  rw [State.strapsRead_station, if_pos rfl]
  rfl

theorem State.present_strapsRead : ((s.strapsRead i p).station i).present = (trimOf p).isSome := by
  rw [State.station_strapsRead]
  rfl

theorem trimOf_isSome : (trimOf p).isSome = true ↔ p ≠ { idA := .opened, idB := .opened } := by
  obtain ⟨a, b⟩ := p
  cases a <;> cases b <;> decide

theorem State.strapsRead_touches (s : State) (i : StationId) (p : TrimStraps) :
    Touches [.straps, .station i] s (s.strapsRead i p) := by
  refine Touches.trans (t := { s with straps := { s.straps with trim := s.straps.trim.set i p } }) ⟨fun part hp => ?_, rfl⟩
    ((State.modStation_touches _ i _).mono (by simp))
  cases part with
  | straps => exact absurd hp (by simp)
  | station _ | house _ | clock | arbiter | fire | line | draws => rfl

/-- With no trip to bring it under and its heat inputs closed, nothing acts on a station made present (R152, R159). -/
theorem State.madePresent_quiet (booth : s.fire.booth = none) (gh : (s.station i).gh = .closed)
    (lt : (s.station i).lt = .closed) : s.madePresent i = s := by
  have hacts : s.presenceActs i = [] := by simp [State.presenceActs, booth, gh, lt]
  simp [State.madePresent, hacts, State.freeOrder_short, State.suspendUnderBoothTrip, booth]

/-- Under a booth trip a station made present is tripped, and its house leaves IDLE for SUSPENDED (R159). -/
theorem State.madePresent_tripped (booth : s.fire.booth.isSome = true) (gh : (s.station i).gh = .closed)
    (lt : (s.station i).lt = .closed) (present : (s.station i).present = true) (fresh : (s.station i).trip = none) :
    s.madePresent i = (s.tripStation i .booth).suspendUnderBoothTrip (s.station i).house := by
  have hacts : s.presenceActs i = [.booth] := by simp [State.presenceActs, booth, gh, lt]
  simp [State.madePresent, hacts, State.freeOrder_short, State.presenceAct, State.underBoothTrip, State.tripBooth, booth,
    present, fresh]

/-- A house with a present station is not UNUSED (R3). -/
theorem State.mode_used {h : HouseId} (own : (s.station i).house = h) (present : (s.station i).present = true) :
    s.mode h ≠ .unused :=
  fun hunused => Bool.false_ne_true ((State.mode_eq_unused.1 hunused i own).symm.trans present)

end

/-- The entry to SUSPENDED at the end of a reset hold: no light channel changes (R151, R159). -/
theorem State.suspendUnderBoothTrip_spec {s : State} {h : HouseId} (booth : s.fire.booth.isSome = true)
    (used : s.mode h ≠ .unused) :
    Touches (.house h :: (s.stationsOf h).map .station) s (s.suspendUnderBoothTrip h) ∧
      (∀ j, (s.station j).SameTrip ((s.suspendUnderBoothTrip h).station j) ∧
        ((s.station j).condition = ((s.suspendUnderBoothTrip h).station j).condition) ∧
        ((s.station j).Dark → ((s.suspendUnderBoothTrip h).station j).Dark)) ∧
      (s.suspendUnderBoothTrip h).house h =
        if (s.house h).engine = .idle then (s.house h).toSuspended else s.house h := by
  by_cases hidle : (s.house h).engine = .idle
  · have hsuspend : s.suspendUnderBoothTrip h = (s.darkenHouse h).modHouse h House.toSuspended := by
      unfold State.suspendUnderBoothTrip
      rw [booth, hidle, if_pos]
      simpa using used
    have hdark := s.darkenHouse_touches h
    rw [hsuspend, if_pos hidle]
    refine ⟨(hdark.mono (by simp)).trans ((State.modHouse_touches _ h _).mono (by simp)), fun j => ?_, ?_⟩
    · rw [State.modHouse_station, State.station_darkenHouse]
      split
      · exact ⟨⟨rfl, rfl, rfl, rfl, rfl⟩, rfl, fun ⟨hmotor, _, _⟩ => ⟨hmotor, rfl, rfl⟩⟩
      · exact ⟨.refl _, rfl, id⟩
    · rw [State.house_modHouse_same, hdark.house (by simp)]
  · have hsuspend : s.suspendUnderBoothTrip h = s := by
      unfold State.suspendUnderBoothTrip
      rw [if_neg]
      simp [hidle]
    rw [hsuspend, if_neg hidle]
    exact ⟨.refl _ s, fun j => ⟨.refl _, rfl, id⟩, rfl⟩

/-- Settles O19: the strap read, and what then acts on a station made present. -/
theorem resetHoldEnds : Obligations.ResetHoldEnds := by
  intro s i p hresetting
  have hexec := exec_resetHoldEnd (p := p) hresetting
  have hstation := s.station_strapsRead i p
  have htouch := s.strapsRead_touches i p
  refine ⟨fun hquiet => ?quiet, fun habsent hp hbooth htrip hgh hlt => ?tripped⟩
  case quiet =>
    have hread : s.resetHoldEnd i p = s.strapsRead i p := by
      unfold State.resetHoldEnd
      split
      · rename_i hmade
        rw [State.present_strapsRead] at hmade
        simp only [Bool.and_eq_true, Bool.not_eq_true'] at hmade
        rcases hquiet with hp | hp | ⟨hbooth, hgh, hlt⟩
        · exact absurd (hmade.1.symm.trans hp) Bool.false_ne_true
        · exact absurd hp (trimOf_isSome.1 hmade.2)
        · exact State.madePresent_quiet (by rw [htouch.fire (by simp)]; exact hbooth) (by rw [hstation]; exact hgh)
            (by rw [hstation]; exact hlt)
      · rfl
    rw [hread] at hexec
    refine ⟨_, hexec, htouch.settle, rfl, ?_⟩
    rw [State.settle_station, hstation]
    obtain ⟨a, b⟩ := p
    cases a <;> cases b <;> rfl
  case tripped =>
    have hpresent : ((s.strapsRead i p).station i).present = true := by
      rw [State.present_strapsRead]
      exact trimOf_isSome.2 hp
    have hfire : (s.strapsRead i p).fire = s.fire := htouch.fire (by simp)
    have hown : ((s.strapsRead i p).station i).house = (s.station i).house := by rw [hstation]
    have hread : s.resetHoldEnd i p = ((s.strapsRead i p).tripStation i .booth).suspendUnderBoothTrip (s.station i).house := by
      unfold State.resetHoldEnd
      rw [habsent, hpresent]
      show (s.strapsRead i p).madePresent i = _
      rw [State.madePresent_tripped (by rw [hfire]; exact hbooth)
        (by rw [hstation]; exact hgh) (by rw [hstation]; exact hlt) hpresent (by rw [hstation]; exact htrip), hown]
    rw [hread] at hexec
    have htripped := (s.strapsRead i p).station_tripStation i .booth
    have htaken := (s.strapsRead i p).tripStation_touches i .booth
    generalize (s.strapsRead i p).tripStation i .booth = u at hexec htripped htaken
    have hhouse : ∀ h, u.house h = s.house h := fun h => (htaken.house (by simp)).trans (htouch.house (by simp))
    have hufire : u.fire = s.fire := (htaken.fire (by simp)).trans hfire
    obtain ⟨hparts, hstations, hleft⟩ := State.suspendUnderBoothTrip_spec (s := u) (h := (s.station i).house)
      (by rw [hufire]; exact hbooth)
      (State.mode_used (i := i) (by rw [htripped]; exact hown) (by rw [htripped]; exact hpresent))
    obtain ⟨⟨htrip', -⟩, hcondition, hdark⟩ := hstations i
    obtain ⟨-, hdemand, hcs⟩ := hdark (by rw [htripped]; exact Station.trippedBy_dark _ _)
    rw [hhouse] at hleft
    have hother : ∀ h, h ≠ (s.station i).house → (u.suspendUnderBoothTrip (s.station i).house).house h = s.house h :=
      fun h hh => (hparts.house (by simp [hh])).trans (hhouse h)
    refine ⟨_, hexec, ?_, ?_, hdemand, hcs, (hparts.fire (by simp)).trans hufire, fun hidle => ?_, fun h => ⟨?_, hother h⟩,
      fun hidle => hleft.trans (if_neg hidle)⟩
    · rw [State.settle_station, ← hcondition, htripped]
      show ((s.strapsRead i p).station i).condition = _
      rw [hstation]
    · rw [State.settle_station, htrip', htripped]
      rfl
    · rw [State.settle_house, hleft, if_pos hidle]
      refine ⟨rfl, ?_⟩
      show (s.house (s.station i).house).engine.showAtTrip = false
      rw [hidle]
      rfl
    · rw [State.settle_house]
      by_cases hh : h = (s.station i).house
      · rw [hh, hleft]
        split <;> rfl
      · rw [hother h hh]

/-! ### Booth reset -/

section
variable (s : State)

/-- The state in which a taken RS has given every record its booth-reset value, no station yet under a booth trip and no
house SUSPENDED (R179). -/
def State.reRead (s : State) : State :=
  { s.readTrimStraps with
    stations := PerStation.build fun i => (s.station i).boothReset s.readTrimStraps.straps i
    houses := PerHouse.build fun h => (s.house h).boothReset
    arbiter := Arbiter.initial
    line := { s.line with warnings := [], rsReply := true, sinceReset := false } }

/-- The state with the stations made present brought under a booth trip in force (R159). -/
def State.reBound (s : State) : State :=
  s.reRead.forStations StationId.all fun i u => u.boundByTrip (fun j => (s.station j).present) i

theorem State.boothReset_eq : s.boothReset = s.reBound.forHouses HouseId.all fun h u => u.suspendAtReset h := rfl

theorem State.boundByTrip_touches (was : StationId → Bool) (i : StationId) : Touches [.station i] s (s.boundByTrip was i) :=
  .ite (fun _ => s.modStation_touches i _) fun _ => .refl _ s

theorem State.suspendAtReset_touches (h : HouseId) : Touches [.house h] s (s.suspendAtReset h) :=
  .ite (fun _ => s.modHouse_touches h _) fun _ => .refl _ s

theorem State.station_boundByTrip (was : StationId → Bool) (i : StationId) : (s.boundByTrip was i).station i =
    { s.station i with
      trip := if (s.station i).trip = none ∧ s.fire.booth.isSome = true ∧ was i = false ∧ (s.station i).present = true
        then some .booth else (s.station i).trip } := by
  unfold State.boundByTrip
  split
  · rename_i hbound
    simp only [Bool.and_eq_true, Bool.not_eq_true', Option.isNone_iff_eq_none] at hbound
    obtain ⟨⟨⟨hbooth, hwas⟩, hpresent⟩, htrip⟩ := hbound
    rw [State.station_modStation_same, if_pos ⟨htrip, hbooth, hwas, hpresent⟩]
  · rename_i hfree
    rw [if_neg]
    rintro ⟨htrip, hbooth, hwas, hpresent⟩
    simp [htrip, hbooth, hwas, hpresent] at hfree

theorem State.house_suspendAtReset (h : HouseId) (idle : (s.house h).engine = .idle)
    (still : (s.house h).showRunning = false) : (s.suspendAtReset h).house h =
      { s.house h with
        engine := if s.fire.booth.isSome = true ∧ s.mode h ≠ .unused then .suspended else .idle } := by
  unfold State.suspendAtReset
  split
  · rename_i hbooth
    simp only [Bool.and_eq_true, bne_iff_ne] at hbooth
    rw [State.house_modHouse_same, if_pos hbooth, ← still]
  · rename_i hfree
    rw [if_neg (by simpa using hfree), ← idle]

theorem State.reBound_touches : Touches (StationId.all.map .station) s.reRead s.reBound :=
  State.forStations_touches StationId.all (fun i hi t => (t.boundByTrip_touches _ i).mono (by
    simpa using hi)) _

theorem State.boothReset_touches : Touches (HouseId.all.map .house) s.reBound s.boothReset :=
  State.forHouses_touches HouseId.all (fun h hh t => (t.suspendAtReset_touches h).mono (by
    simpa using hh)) _

theorem State.station_reRead (i : StationId) :
    s.reRead.station i = (s.station i).boothReset s.readTrimStraps.straps i := PerStation.get_build _ _

theorem State.house_reRead (h : HouseId) : s.reRead.house h = (s.house h).boothReset := PerHouse.get_build _ _

/-- A station after a booth reset (R22, R152, R159, R167). -/
theorem State.station_boothReset (i : StationId) : s.boothReset.station i =
    { (s.station i).boothReset s.readTrimStraps.straps i with
      trip := if (s.station i).trip = none ∧ s.fire.booth.isSome = true ∧ (s.station i).present = false ∧
          (Station.powerOn s.readTrimStraps.straps i).present = true then some .booth else (s.station i).trip } := by
  obtain ⟨u, hu, hstation, hbound⟩ := State.forStations_at (P := fun t => t.fire = s.fire)
    (f := fun i u => u.boundByTrip (fun j => (s.station j).present) i) (l := StationId.all) (s := s.reRead) (j := i)
    (fun i t j hj => (t.boundByTrip_touches _ i).station (by simp [hj]))
    (fun i t ht => ((t.boundByTrip_touches _ i).fire (by simp)).trans ht) (by decide) rfl i.mem_all
  have hsame : s.boothReset.station i = s.reBound.station i := s.boothReset_touches.station (by simp)
  rw [hsame, State.reBound, hbound, State.station_boundByTrip, hstation, hu, State.station_reRead]
  rfl

/-- A house after a booth reset (R42, R70, R79, R151, R167). -/
theorem State.house_boothReset (h : HouseId) : s.boothReset.house h = { (s.house h).boothReset with
    engine := if s.fire.booth.isSome = true ∧ s.boothReset.mode h ≠ .unused then .suspended else .idle } := by
  have hrebound := s.reBound_touches
  have hfire : s.reBound.fire = s.fire := hrebound.fire (by simp)
  have hmode : ∀ t : State, (∀ j, t.station j = s.reBound.station j) → t.mode h = s.reBound.mode h := fun t ht =>
    State.mode_congr h (fun j => by rw [ht]) fun j => by rw [ht]
  obtain ⟨u, ⟨hufire, hustation⟩, hhouse, hsuspended⟩ := State.forHouses_at
    (P := fun t => t.fire = s.fire ∧ ∀ j, t.station j = s.reBound.station j) (f := fun h u => u.suspendAtReset h)
    (l := HouseId.all) (s := s.reBound) (k := h) (fun h t k hk => (t.suspendAtReset_touches h).house (by simp [hk]))
    (fun h t ht => ⟨((t.suspendAtReset_touches h).fire (by simp)).trans ht.1,
      fun j => ((t.suspendAtReset_touches h).station (by simp)).trans (ht.2 j)⟩) (by decide) ⟨hfire, fun _ => rfl⟩
    h.mem_all
  have hreread : u.house h = (s.house h).boothReset :=
    hhouse.trans ((hrebound.house (by simp)).trans (s.house_reRead h))
  have hlast : s.boothReset.mode h = s.reBound.mode h := hmode _ fun j => s.boothReset_touches.station (by simp)
  rw [State.boothReset_eq, hsuspended, State.house_suspendAtReset u h (by rw [hreread]; rfl) (by rw [hreread]; rfl),
    hreread, hufire, hmode u hustation, ← State.boothReset_eq, hlast]

end

section
variable {s : State}

theorem answerRs_resetting {i : StationId} (h : (s.station i).condition = .resetting) : answer .rs s = (s, .no .by_) := by
  have hany : (StationId.all.any fun i => (s.station i).condition == .resetting) = true :=
    List.any_eq_true.2 ⟨i, i.mem_all, by simp [h]⟩
  simp [answer, answerRs, checked_eq, firstRefusal, hany]

variable (normal : ∀ i, (s.station i).condition = .normal)
include normal

theorem answerRs_none_resetting : (StationId.all.any fun i => (s.station i).condition == .resetting) = false := by
  simp [normal]

theorem answerRs_running {i : StationId} (h : (s.station i).motor ≠ .stopped ∨ (s.station i).lamp.state.out = false) :
    answer .rs s = (s, .no .st) := by
  have hany : (StationId.all.any fun i => (s.station i).motor != .stopped || !(s.station i).lamp.state.out) = true :=
    List.any_eq_true.2 ⟨i, i.mem_all, by simpa using h⟩
  simp only [answer, answerRs, checked_eq, firstRefusal, answerRs_none_resetting normal, hany]
  rfl

theorem answerRs_taken (rests : ∀ i, (s.station i).motor = .stopped ∧ (s.station i).lamp.state.out = true) :
    answer .rs s = (s.boothReset, .ok) := by
  have hany : (StationId.all.any fun i => (s.station i).motor != .stopped || !(s.station i).lamp.state.out) = false := by
    simp [rests]
  simp only [answer, answerRs, checked_eq, firstRefusal, answerRs_none_resetting normal, hany]
  rfl

end

/-- Settles O12: a taken RS is the power-on values with the records kept that R179 keeps. -/
theorem boothResetTakesItsValues : Obligations.BoothResetTakesItsValues := by
  intro s hfree
  refine ⟨fun ⟨i, hi⟩ => exec_of_refused rfl hfree (answerRs_resetting hi),
    fun hnormal ⟨i, hi⟩ => exec_of_refused rfl hfree (answerRs_running hnormal hi), fun hrests straps hstraps => ?_⟩
  have hexec := exec_console_free (c := .rs) rfl hfree
  rw [answerRs_taken (fun i => (hrests i).1) fun i => (hrests i).2] at hexec
  obtain ⟨p, hp, -, -, hstations, hhouses, -, harbiter, -, -⟩ := exec_powerOn straps s
  have hread : s.readTrimStraps.straps = straps := hstraps.symm
  have hbound := s.reBound_touches
  have hreset := s.boothReset_touches
  have hline : s.boothReset.line = { s.line with warnings := [], rsReply := true, sinceReset := false } :=
    (hreset.line (by simp)).trans (hbound.line (by simp))
  have hpending : s.boothReset.pending = s.pending := hreset.2.trans hbound.2
  have hstrap : s.boothReset.straps = straps := (hreset.straps (by simp)).trans ((hbound.straps (by simp)).trans hread)
  have hclock : s.boothReset.clock = s.clock := (hreset.clock (by simp)).trans (hbound.clock (by simp))
  have hfire : s.boothReset.fire = s.fire := (hreset.fire (by simp)).trans (hbound.fire (by simp))
  have hdraws : s.boothReset.draws = s.draws + 1 := (hreset.draws (by simp)).trans (hbound.draws (by simp))
  have hsupply : s.boothReset.arbiter = p.arbiter :=
    (hreset.arbiter (by simp)).trans ((hbound.arbiter (by simp)).trans harbiter.symm)
  have hstation := s.station_boothReset
  have hhouse := s.house_boothReset
  rw [hread] at hstation
  clear hbound hreset
  generalize s.boothReset = v at hexec hline hpending hstrap hclock hfire hdraws hsupply hstation hhouse
  refine ⟨_, p, hexec, hp, hpending, rfl, hstrap, hclock, hfire, hdraws, hsupply, ?_, fun i => ?_, fun h => ?_⟩
  · rw [← hline, State.settle_line]
    show (v.startReply s.line.echoCr .ok).line = _
    rw [show s.line.echoCr = v.line.echoCr by rw [hline]; rfl]
    rfl
  · rw [State.settle_station, State.startReply_station, hstation, hstations]
    rfl
  · rw [State.settle_house, State.startReply_house, hhouse, hhouses]
    rfl

end Sys2Proof.Machine

/-!
PROOF LAYER. The echo setting is the console's alone (R172): no operation of the machine reads it, and none sets it. So a
console command that finds the echo changed does what it does without the change (`answer_echoFree`).
-/

namespace Sys2Proof.Machine

/-- The state with the echo set to `b`. -/
def State.withEcho (s : State) (b : Bool) : State := { s with line := { s.line with echo := b } }

/-! What reads the state reads the same. The proofs stand in parentheses so that `simp` does not take these lemmas as
definitional and rewrites a decided condition together with its decision. -/

section Readers

variable (s : State) (b : Bool)

@[simp] theorem withEcho_stations : (s.withEcho b).stations = s.stations := (rfl)
@[simp] theorem withEcho_houses : (s.withEcho b).houses = s.houses := (rfl)
@[simp] theorem withEcho_clock : (s.withEcho b).clock = s.clock := (rfl)
@[simp] theorem withEcho_arbiter : (s.withEcho b).arbiter = s.arbiter := (rfl)
@[simp] theorem withEcho_fire : (s.withEcho b).fire = s.fire := (rfl)
@[simp] theorem withEcho_straps : (s.withEcho b).straps = s.straps := (rfl)
@[simp] theorem withEcho_draws : (s.withEcho b).draws = s.draws := (rfl)
@[simp] theorem withEcho_station : (s.withEcho b).station = s.station := (rfl)
@[simp] theorem withEcho_house : (s.withEcho b).house = s.house := (rfl)
@[simp] theorem withEcho_stationsOf : (s.withEcho b).stationsOf = s.stationsOf := (rfl)
@[simp] theorem withEcho_mode : (s.withEcho b).mode = s.mode := (rfl)
@[simp] theorem withEcho_engaged : (s.withEcho b).engaged = s.engaged := (rfl)
@[simp] theorem withEcho_isOnScreen : (s.withEcho b).isOnScreen = s.isOnScreen := (rfl)
@[simp] theorem withEcho_boundEntry : (s.withEcho b).boundEntry = s.boundEntry := (rfl)
@[simp] theorem withEcho_boundPosition : (s.withEcho b).boundPosition = s.boundPosition := (rfl)
@[simp] theorem withEcho_tripped : (s.withEcho b).tripped = s.tripped := (rfl)
@[simp] theorem withEcho_urgent : (s.withEcho b).urgent = s.urgent := (rfl)
@[simp] theorem withEcho_faultRecord : (s.withEcho b).faultRecord = s.faultRecord := (rfl)
@[simp] theorem withEcho_captureFields : (s.withEcho b).captureFields = s.captureFields := (rfl)
@[simp] theorem withEcho_strikeRefusal : (s.withEcho b).strikeRefusal = s.strikeRefusal := (rfl)
@[simp] theorem withEcho_startRefusal : (s.withEcho b).startRefusal = s.startRefusal := (rfl)
@[simp] theorem withEcho_douserRefusal : (s.withEcho b).douserRefusal = s.douserRefusal := (rfl)
@[simp] theorem withEcho_manualChecks : (s.withEcho b).manualChecks = s.manualChecks := (rfl)
@[simp] theorem withEcho_goCheck : (s.withEcho b).goCheck = s.goCheck := (rfl)
@[simp] theorem withEcho_atTail : (s.withEcho b).atTail = s.atTail := (rfl)
@[simp] theorem withEcho_footage : (s.withEcho b).footage = s.footage := (rfl)
@[simp] theorem withEcho_changeReady : (s.withEcho b).changeReady = s.changeReady := (rfl)
@[simp] theorem withEcho_manualChangeReady : (s.withEcho b).manualChangeReady = s.manualChangeReady := (rfl)
@[simp] theorem withEcho_inputStands : (s.withEcho b).inputStands = s.inputStands := (rfl)
@[simp] theorem withEcho_threadBlocked : (s.withEcho b).threadBlocked = s.threadBlocked := (rfl)
@[simp] theorem withEcho_sqWords : (s.withEcho b).sqWords = s.sqWords := (rfl)
@[simp] theorem withEcho_lqWords : (s.withEcho b).lqWords = s.lqWords := (rfl)
@[simp] theorem withEcho_hqWords : (s.withEcho b).hqWords = s.hqWords := (rfl)
@[simp] theorem withEcho_pqWords : (s.withEcho b).pqWords = s.pqWords := (rfl)
@[simp] theorem withEcho_cqWords : (s.withEcho b).cqWords = s.cqWords := (rfl)
@[simp] theorem withEcho_spWords : (s.withEcho b).spWords = s.spWords := (rfl)
@[simp] theorem withEcho_ssWords : (s.withEcho b).ssWords = s.ssWords := (rfl)

end Readers

section Operations

variable (s : State) (b : Bool) (i : StationId) (h : HouseId)

@[simp] theorem withEcho_ite (c : Prop) [Decidable c] (t u : State) :
    (if c then t else u).withEcho b = if c then t.withEcho b else u.withEcho b := apply_ite (State.withEcho · b) c t u

@[simp] theorem withEcho_modStation (f : Station → Station) :
    (s.withEcho b).modStation i f = (s.modStation i f).withEcho b := rfl
@[simp] theorem withEcho_modHouse (f : House → House) :
    (s.withEcho b).modHouse h f = (s.modHouse h f).withEcho b := rfl
@[simp] theorem withEcho_modLight (f : Light → Light) :
    (s.withEcho b).modLight h f = (s.modLight h f).withEcho b := rfl
@[simp] theorem withEcho_modLamp (f : Lamp → Lamp) :
    (s.withEcho b).modLamp i f = (s.modLamp i f).withEcho b := rfl
@[simp] theorem withEcho_modChannel (f : Channel → Channel) :
    (s.withEcho b).modChannel i f = (s.modChannel i f).withEcho b := rfl
@[simp] theorem withEcho_modCarbon (f : Carbon → Carbon) :
    (s.withEcho b).modCarbon i f = (s.modCarbon i f).withEcho b := rfl
@[simp] theorem withEcho_modQueue (f : List Entry → List Entry) :
    (s.withEcho b).modQueue h f = (s.modQueue h f).withEcho b := rfl
@[simp] theorem withEcho_closeDemand : (s.withEcho b).closeDemand i = (s.closeDemand i).withEcho b := rfl
@[simp] theorem withEcho_openDemand : (s.withEcho b).openDemand i = (s.openDemand i).withEcho b := rfl
@[simp] theorem withEcho_closeShutter : (s.withEcho b).closeShutter i = (s.closeShutter i).withEcho b := rfl
@[simp] theorem withEcho_darken : (s.withEcho b).darken i = (s.darken i).withEcho b := rfl
@[simp] theorem withEcho_stopMotor : (s.withEcho b).stopMotor i = (s.stopMotor i).withEcho b := rfl
@[simp] theorem withEcho_holdCounter : (s.withEcho b).holdCounter i = (s.holdCounter i).withEcho b := rfl
@[simp] theorem withEcho_threadCounter : (s.withEcho b).threadCounter i = (s.threadCounter i).withEcho b := rfl
@[simp] theorem withEcho_removeEntry : (s.withEcho b).removeEntry i = (s.removeEntry i).withEcho b := rfl
@[simp] theorem withEcho_readyTest : (s.withEcho b).readyTest h = (s.readyTest h).withEcho b := rfl
@[simp] theorem withEcho_fade (level time : Nat) :
    (s.withEcho b).fade h level time = (s.fade h level time).withEcho b := rfl
@[simp] theorem withEcho_holdFade : (s.withEcho b).holdFade h = (s.holdFade h).withEcho b := rfl
@[simp] theorem withEcho_assertAttention : (s.withEcho b).assertAttention = s.assertAttention.withEcho b := rfl
@[simp] theorem withEcho_latch (w : Warning) : (s.withEcho b).latch w = (s.latch w).withEcho b := rfl
@[simp] theorem withEcho_releasePorts : (s.withEcho b).releasePorts h = (s.releasePorts h).withEcho b := rfl
@[simp] theorem withEcho_setFire : (s.withEcho b).setFire h = (s.setFire h).withEcho b := rfl
@[simp] theorem withEcho_gateAction : (s.withEcho b).gateAction h = (s.gateAction h).withEcho b := rfl
@[simp] theorem withEcho_markNotThreaded :
    (s.withEcho b).markNotThreaded h = (s.markNotThreaded h).withEcho b := rfl
@[simp] theorem withEcho_awaitLamp : (s.withEcho b).awaitLamp h = (s.awaitLamp h).withEcho b := rfl
@[simp] theorem withEcho_endJog : (s.withEcho b).endJog i = (s.endJog i).withEcho b := rfl
@[simp] theorem withEcho_captureTrip (c : CaptureCause) (k : Option StationId) :
    (s.withEcho b).captureTrip c k = (s.captureTrip c k).withEcho b := rfl
@[simp] theorem withEcho_readTrimStraps : (s.withEcho b).readTrimStraps = s.readTrimStraps.withEcho b := rfl

/-- A change of a record other than the line unit's stands beside the echo. -/
theorem withEcho_setArbiter (a : Arbiter) :
    ({ s.withEcho b with arbiter := a } : State) = ({ s with arbiter := a } : State).withEcho b := rfl
theorem withEcho_setFireRecord (f : Fire) :
    ({ s.withEcho b with fire := f } : State) = ({ s with fire := f } : State).withEcho b := rfl
theorem withEcho_setDraws (n : Nat) :
    ({ s.withEcho b with draws := n } : State) = ({ s with draws := n } : State).withEcho b := rfl

/-- A walk over the stations keeps clear of the echo when each of its steps does. -/
theorem withEcho_forStations (l : List StationId) (f : StationId → State → State)
    (hf : ∀ k t c, f k (t.withEcho c) = (f k t).withEcho c) :
    (s.withEcho b).forStations l f = (s.forStations l f).withEcho b := by
  induction l generalizing s with
  | nil => rfl
  | cons k l ih => simpa only [State.forStations, List.foldl_cons, hf] using ih (f k s)

theorem withEcho_forHouses (l : List HouseId) (f : HouseId → State → State)
    (hf : ∀ k t c, f k (t.withEcho c) = (f k t).withEcho c) :
    (s.withEcho b).forHouses l f = (s.forHouses l f).withEcho b := by
  induction l generalizing s with
  | nil => rfl
  | cons k l ih => simpa only [State.forHouses, List.foldl_cons, hf] using ih (f k s)

@[simp] theorem withEcho_action (a : Option LightAction) :
    (s.withEcho b).action h a = (s.action h a).withEcho b := by
  cases a <;> rfl

@[simp] theorem withEcho_openShutter : (s.withEcho b).openShutter i = (s.openShutter i).withEcho b := by
  simp only [State.openShutter, withEcho_tripped, withEcho_modStation, withEcho_ite]

@[simp] theorem withEcho_takeScreen : (s.withEcho b).takeScreen i = (s.takeScreen i).withEcho b := by
  simp only [State.takeScreen, withEcho_modCarbon, withEcho_openDemand, withEcho_openShutter]

@[simp] theorem withEcho_darkenHouse : (s.withEcho b).darkenHouse h = (s.darkenHouse h).withEcho b :=
  withEcho_forStations s b _ _ fun _ _ _ => rfl

@[simp] theorem withEcho_setLamp (new : LampState) (cls : Option StrikeClass) :
    (s.withEcho b).setLamp i new cls = (s.setLamp i new cls).withEcho b := by
  simp only [State.setLamp, withEcho_station, withEcho_modStation, withEcho_arbiter, withEcho_setArbiter,
    withEcho_latch, withEcho_ite]

@[simp] theorem withEcho_extinguish : (s.withEcho b).extinguish i = (s.extinguish i).withEcho b := by
  cases hl : (s.station i).lamp.state <;> simp only [State.extinguish, withEcho_station, hl, withEcho_setLamp]

@[simp] theorem withEcho_closeDown : (s.withEcho b).closeDown i = (s.closeDown i).withEcho b := by
  simp only [State.closeDown, withEcho_darken, withEcho_stopMotor, withEcho_extinguish]

@[simp] theorem withEcho_grantTo : (s.withEcho b).grantTo i = (s.grantTo i).withEcho b := by
  simp only [State.grantTo, withEcho_setLamp, withEcho_arbiter, withEcho_setArbiter]

@[simp] theorem withEcho_testGrant : (s.withEcho b).testGrant = s.testGrant.withEcho b := by
  simp only [State.testGrant, withEcho_arbiter, withEcho_urgent, withEcho_ite]
  cases chooseLamp s.arbiter.mode s.arbiter.order s.arbiter.queue s.urgent <;> simp only [withEcho_grantTo]

@[simp] theorem withEcho_takeStrike : (s.withEcho b).takeStrike i = (s.takeStrike i).withEcho b := by
  simp only [State.takeStrike, withEcho_modLamp, withEcho_setLamp, withEcho_testGrant]

@[simp] theorem withEcho_requestStrike :
    (s.withEcho b).requestStrike i = ((s.requestStrike i).1.withEcho b, (s.requestStrike i).2) := by
  cases hl : (s.station i).lamp.state <;> cases hr : s.strikeRefusal i <;>
    simp only [State.requestStrike, withEcho_station, withEcho_strikeRefusal, withEcho_takeStrike, hl, hr]

@[simp] theorem withEcho_latchFault (r : FaultRecord) :
    (s.withEcho b).latchFault h r = (s.latchFault h r).withEcho b := by
  simp only [State.latchFault, withEcho_house, withEcho_modHouse, withEcho_assertAttention, withEcho_ite]

@[simp] theorem withEcho_enterFault (c : FaultCause) (k : Option StationId) :
    (s.withEcho b).enterFault h c k = (s.enterFault h c k).withEcho b := by
  have hstop : ∀ t l d, (State.withEcho t d).forStations l (fun j t => t.stopMotor j) =
      (t.forStations l fun j t => t.stopMotor j).withEcho d :=
    fun t l d => withEcho_forStations t d l _ fun _ _ _ => rfl
  simp only [State.enterFault, withEcho_station, withEcho_engaged, withEcho_darkenHouse, hstop, withEcho_holdFade,
    withEcho_faultRecord, withEcho_latchFault, withEcho_modHouse]

@[simp] theorem withEcho_dropRunOut : (s.withEcho b).dropRunOut i = (s.dropRunOut i).withEcho b := by
  cases hb : s.boundEntry i <;>
    simp only [State.dropRunOut, withEcho_boundEntry, hb, withEcho_removeEntry, withEcho_ite]

@[simp] theorem withEcho_tripHouse (e : Bool) : (s.withEcho b).tripHouse i e = (s.tripHouse i e).withEcho b := by
  simp only [State.tripHouse, withEcho_station, withEcho_enterFault, withEcho_dropRunOut, withEcho_readyTest,
    withEcho_ite]

@[simp] theorem withEcho_tripStation (c : StationCause) :
    (s.withEcho b).tripStation i c = (s.tripStation i c).withEcho b := by
  simp only [State.tripStation, withEcho_modStation, withEcho_extinguish]

@[simp] theorem withEcho_stationTrip (c : StationCause) (cc : CaptureCause) :
    (s.withEcho b).stationTrip i c cc = (s.stationTrip i c cc).withEcho b := by
  simp only [State.stationTrip, withEcho_station, withEcho_captureTrip, withEcho_tripStation, withEcho_engaged,
    withEcho_tripHouse, ← withEcho_ite, withEcho_gateAction]

theorem withEcho_startMotorThen (act : State → State)
    (hact : ∀ t c, act (t.withEcho c) = (act t).withEcho c) :
    (s.withEcho b).startMotorThen i act = (s.startMotorThen i act).withEcho b := by
  simp only [State.startMotorThen, withEcho_station, withEcho_modStation, hact, State.tripBreak, withEcho_stationTrip,
    withEcho_ite]

@[simp] theorem withEcho_startMotorThen_action (a : Option LightAction) :
    ((s.withEcho b).startMotorThen i fun t => t.action h a) =
      (s.startMotorThen i fun t => t.action h a).withEcho b :=
  withEcho_startMotorThen s b i _ fun t c => withEcho_action t c h a

@[simp] theorem withEcho_motorCue : (s.withEcho b).motorCue h = (s.motorCue h).withEcho b := by
  rcases hn : (s.house h).next with _ | e
  · simp only [State.motorCue, withEcho_house, hn, withEcho_modHouse, withEcho_markNotThreaded]
  rcases hb : e.bound with _ | j
  · simp only [State.motorCue, withEcho_house, hn, hb, withEcho_modHouse, withEcho_markNotThreaded]
  · simp only [State.motorCue, withEcho_house, hn, hb, withEcho_modHouse, withEcho_startRefusal,
      withEcho_startMotorThen_action, withEcho_markNotThreaded]
    split <;> rfl

@[simp] theorem withEcho_incomingCheck (n : Nat) :
    (s.withEcho b).incomingCheck h i n = (s.incomingCheck h i n).withEcho b := by
  cases hp : (s.station i).prediction <;>
    simp only [State.incomingCheck, withEcho_station, withEcho_house, hp, withEcho_latch, withEcho_ite]

@[simp] theorem withEcho_strikeCue : (s.withEcho b).strikeCue h = (s.strikeCue h).withEcho b := by
  rcases hn : (s.house h).next with _ | e
  · simp only [State.strikeCue, withEcho_house, hn, withEcho_modHouse]
  rcases hb : e.bound with _ | j <;>
    simp only [State.strikeCue, withEcho_house, hn, hb, withEcho_modHouse, withEcho_latch, withEcho_incomingCheck,
      withEcho_station, withEcho_requestStrike, withEcho_ite]

@[simp] theorem withEcho_stopIncoming : (s.withEcho b).stopIncoming h = (s.stopIncoming h).withEcho b := by
  cases hi : (s.house h).incoming <;> simp only [State.stopIncoming, withEcho_house, hi, withEcho_stopMotor]

@[simp] theorem withEcho_missReason :
    (s.withEcho b).missReason h = ((s.missReason h).1, (s.missReason h).2.withEcho b) := by
  rcases hm : (s.house h).reel.missed with _ | r
  · rcases hi : (s.house h).incoming with _ | j
    · simp only [State.missReason, withEcho_house, hm, hi]
    · simp only [State.missReason, withEcho_house, hm, hi, withEcho_station, withEcho_draws, withEcho_setDraws]
      split_ifs <;> rfl
  · simp only [State.missReason, withEcho_house, hm]

@[simp] theorem withEcho_runDown : (s.withEcho b).runDown h = (s.runDown h).withEcho b := by
  simp only [State.runDown, withEcho_missReason, withEcho_stopIncoming, withEcho_latch, withEcho_modHouse]

@[simp] theorem withEcho_changeInstant (out inc : StationId) (e : Entry) :
    (s.withEcho b).changeInstant h out inc e = (s.changeInstant h out inc e).withEcho b := by
  simp only [State.changeInstant, withEcho_station, withEcho_mode, withEcho_takeScreen, withEcho_darken,
    withEcho_extinguish, withEcho_modQueue, withEcho_action, withEcho_modHouse, withEcho_latch, withEcho_ite]

section Start

variable {start : State → State} (hstart : ∀ t c, start (t.withEcho c) = (start t).withEcho c)

include hstart

theorem withEcho_makeChange : (s.withEcho b).makeChange start h = (s.makeChange start h).withEcho b := by
  simp only [State.makeChange, withEcho_house, withEcho_changeInstant, hstart]
  split <;> rfl

theorem withEcho_changeCue : (s.withEcho b).changeCue start h = (s.changeCue start h).withEcho b := by
  simp only [State.changeCue, withEcho_changeReady, withEcho_makeChange _ _ _ hstart, withEcho_runDown, withEcho_ite]

theorem withEcho_takeCues (n : Nat) :
    (s.withEcho b).takeCues start h n = (s.takeCues start h n).withEcho b := by
  simp only [State.takeCues, withEcho_house, withEcho_strikeCue, ← withEcho_ite, withEcho_motorCue,
    withEcho_changeCue _ _ _ hstart]

end Start

@[simp] theorem withEcho_endMissed (e : Entry) :
    (s.withEcho b).endMissed h i e = (s.endMissed h i e).withEcho b := by
  cases he : e.en <;>
    simp only [State.endMissed, he, withEcho_closeDown, withEcho_removeEntry, withEcho_holdFade, withEcho_fade,
      withEcho_modHouse]

@[simp] theorem withEcho_endReel (e : Entry) : (s.withEcho b).endReel h i e = (s.endReel h i e).withEcho b := by
  simp only [State.endReel, withEcho_closeDown, withEcho_removeEntry, withEcho_action, withEcho_modHouse]

@[simp] theorem withEcho_missAtTail : (s.withEcho b).missAtTail h = (s.missAtTail h).withEcho b := by
  simp only [State.missAtTail, withEcho_house, withEcho_modHouse, withEcho_stopIncoming, withEcho_latch]

@[simp] theorem withEcho_onScreenTail (e : Entry) :
    (s.withEcho b).onScreenTail h i e = (s.onScreenTail h i e).withEcho b := by
  simp only [State.onScreenTail, withEcho_house, withEcho_missAtTail, withEcho_endMissed, withEcho_endReel,
    withEcho_ite]

@[simp] theorem withEcho_reelTail : (s.withEcho b).reelTail i = (s.reelTail i).withEcho b := by
  rcases hb : s.boundEntry i with _ | e
  · simp only [State.reelTail, withEcho_boundEntry, hb]
  cases he : e.status <;>
    simp only [State.reelTail, withEcho_boundEntry, withEcho_station, withEcho_house, hb, he, withEcho_stopMotor,
      withEcho_removeEntry, withEcho_readyTest, withEcho_onScreenTail, withEcho_ite]

@[simp] theorem withEcho_beginReel (n : Nat) :
    (s.withEcho b).beginReel n h = (s.beginReel n h).withEcho b := by
  induction n generalizing s b with
  | zero => rfl
  | succ n ih =>
    simp only [State.beginReel, withEcho_footage, withEcho_takeCues _ _ _ ih, withEcho_house]
    cases (s.house h).onScreen <;> simp only [withEcho_atTail, withEcho_reelTail, withEcho_ite]

@[simp] theorem withEcho_testReel : (s.withEcho b).testReel h = (s.testReel h).withEcho b := by
  simp only [State.testReel, withEcho_house, withEcho_beginReel]

@[simp] theorem withEcho_testFootage : (s.withEcho b).testFootage h = (s.testFootage h).withEcho b :=
  withEcho_takeCues s b h (fun t c => withEcho_testReel t c h) (s.footage h)

@[simp] theorem withEcho_picture : (s.withEcho b).picture h i = (s.picture h i).withEcho b := by
  simp only [State.picture, withEcho_house, withEcho_mode, withEcho_takeScreen, withEcho_action, withEcho_modHouse,
    withEcho_testReel]

@[simp] theorem withEcho_leaderTest : (s.withEcho b).leaderTest h i = (s.leaderTest h i).withEcho b := by
  simp only [State.leaderTest, withEcho_house]
  cases (s.house h).queue.head? <;> simp only [withEcho_station, withEcho_picture, withEcho_ite]

@[simp] theorem withEcho_leaderStep : (s.withEcho b).leaderStep h i = (s.leaderStep h i).withEcho b := by
  simp only [State.leaderStep, withEcho_modHouse, withEcho_leaderTest]

@[simp] theorem withEcho_runUpStep : (s.withEcho b).runUpStep h i = (s.runUpStep h i).withEcho b := by
  simp only [State.runUpStep, withEcho_house, withEcho_modHouse, withEcho_startRefusal, withEcho_action,
    withEcho_enterFault, withEcho_startMotorThen_action, withEcho_station, withEcho_leaderStep, ← withEcho_ite]
  split <;> rfl

@[simp] theorem withEcho_lampWaitStep : (s.withEcho b).lampWaitStep h i = (s.lampWaitStep h i).withEcho b := by
  cases hl : (s.station i).lamp.state <;>
    simp only [State.lampWaitStep, withEcho_station, hl, withEcho_runUpStep, withEcho_awaitLamp, withEcho_enterFault,
      withEcho_requestStrike]
  rcases s.requestStrike i with ⟨t, _ | c⟩ <;> simp only [withEcho_awaitLamp, withEcho_enterFault]

@[simp] theorem withEcho_startSequence :
    (s.withEcho b).startSequence h i = (s.startSequence h i).withEcho b := by
  simp only [State.startSequence, withEcho_modHouse, withEcho_lampWaitStep]

@[simp] theorem withEcho_engineLamp : (s.withEcho b).engineLamp i = (s.engineLamp i).withEcho b := by
  cases hl : (s.station i).lamp.state <;>
    simp only [State.engineLamp, withEcho_station, withEcho_house, hl, withEcho_runUpStep, withEcho_enterFault,
      withEcho_ite]

@[simp] theorem withEcho_consoleExtinguish :
    (s.withEcho b).consoleExtinguish i = (s.consoleExtinguish i).withEcho b := by
  cases hl : (s.station i).lamp.state <;>
    simp only [State.consoleExtinguish, withEcho_station, hl, withEcho_extinguish, withEcho_engineLamp,
      withEcho_setLamp]

@[simp] theorem withEcho_recordCarbon (t : Trim) (n : Nat) :
    (s.withEcho b).recordCarbon i t n = (s.recordCarbon i t n).withEcho b := by
  simp only [State.recordCarbon, withEcho_modStation, withEcho_setLamp]

@[simp] theorem withEcho_interlockEvent :
    (s.withEcho b).interlockEvent i = (s.interlockEvent i).withEcho b := by
  simp only [State.interlockEvent, withEcho_latch, withEcho_engaged, withEcho_station, withEcho_enterFault, withEcho_ite]

@[simp] theorem withEcho_enforceLd : (s.withEcho b).enforceLd i = (s.enforceLd i).withEcho b := by
  simp only [State.enforceLd, withEcho_extinguish, withEcho_interlockEvent]

@[simp] theorem withEcho_enforceMd : (s.withEcho b).enforceMd i = (s.enforceMd i).withEcho b := by
  simp only [State.enforceMd, withEcho_stopMotor, withEcho_closeDemand, withEcho_interlockEvent]

@[simp] theorem withEcho_joined (k : Nat) : (s.withEcho b).joined h k = (s.joined h k).withEcho b := by
  simp only [State.joined, withEcho_house, withEcho_testFootage, withEcho_ite]

@[simp] theorem withEcho_insertEntry (k : Nat) (e : Entry) :
    (s.withEcho b).insertEntry h k e = (s.insertEntry h k e).withEcho b := by
  simp only [State.insertEntry, withEcho_modQueue, withEcho_readyTest, withEcho_joined]

@[simp] theorem withEcho_clearBinding (e : Entry) :
    (s.withEcho b).clearBinding e = (s.clearBinding e).withEcho b := by
  cases he : e.bound <;>
    simp only [State.clearBinding, he, withEcho_stopMotor, ← withEcho_ite, withEcho_holdCounter]

@[simp] theorem withEcho_clearBindings (l : List Entry) :
    l.foldl State.clearBinding (s.withEcho b) = (l.foldl State.clearBinding s).withEcho b := by
  induction l generalizing s with
  | nil => rfl
  | cons e l ih => simpa only [List.foldl_cons, withEcho_clearBinding] using ih (s.clearBinding e)

@[simp] theorem withEcho_dropBinding : (s.withEcho b).dropBinding i = (s.dropBinding i).withEcho b := by
  cases hb : s.boundEntry i <;>
    simp only [State.dropBinding, withEcho_boundEntry, withEcho_station, hb, withEcho_removeEntry, withEcho_modQueue,
      withEcho_ite]

@[simp] theorem withEcho_endShow : (s.withEcho b).endShow h = (s.endShow h).withEcho b := by
  have hclose : ∀ t l d, (State.withEcho t d).forStations l (fun i t => t.closeDown i) =
      (t.forStations l fun i t => t.closeDown i).withEcho d :=
    fun t l d => withEcho_forStations t d l _ fun k u c => withEcho_closeDown u c k
  have hdrop : ∀ t l d, (State.withEcho t d).forStations l (fun i t => t.dropRunOut i) =
      (t.forStations l fun i t => t.dropRunOut i).withEcho d :=
    fun t l d => withEcho_forStations t d l _ fun k u c => withEcho_dropRunOut u c k
  simp only [State.endShow, withEcho_stationsOf, hclose, hdrop, withEcho_holdFade, withEcho_modHouse]

@[simp] theorem withEcho_suspend : (s.withEcho b).suspend h = (s.suspend h).withEcho b := by
  simp only [State.suspend, withEcho_house, withEcho_darkenHouse, withEcho_holdFade, withEcho_modHouse, withEcho_ite]

@[simp] theorem withEcho_tripBooth : (s.withEcho b).tripBooth i = (s.tripBooth i).withEcho b := by
  simp only [State.tripBooth, withEcho_station, withEcho_tripStation, withEcho_ite]

@[simp] theorem withEcho_tripBoothHouse : (s.withEcho b).tripBoothHouse h = (s.tripBoothHouse h).withEcho b := by
  simp only [State.tripBoothHouse, withEcho_mode, withEcho_house, withEcho_suspend, ← withEcho_ite,
    withEcho_gateAction]

@[simp] theorem withEcho_boothTripActions (c : BoothCause) :
    (s.withEcho b).boothTripActions c = (s.boothTripActions c).withEcho b := by
  have hst : ∀ t l d, (State.withEcho t d).forStations l (fun i t => (t.tripBooth i).dropRunOut i) =
      (t.forStations l fun i t => (t.tripBooth i).dropRunOut i).withEcho d :=
    fun t l d => withEcho_forStations t d l _ fun k u c => by simp only [withEcho_tripBooth, withEcho_dropRunOut]
  have hho : ∀ t l d, (State.withEcho t d).forHouses l (fun h t => t.tripBoothHouse h) =
      (t.forHouses l fun h t => t.tripBoothHouse h).withEcho d :=
    fun t l d => withEcho_forHouses t d l _ fun k u c => withEcho_tripBoothHouse u c k
  simp only [State.boothTripActions, withEcho_fire, withEcho_setFireRecord, hst, hho]

@[simp] theorem withEcho_boothTrip (c : BoothCause) : (s.withEcho b).boothTrip c = (s.boothTrip c).withEcho b := by
  simp only [State.boothTrip, withEcho_fire, withEcho_captureTrip, withEcho_boothTripActions, withEcho_ite]

@[simp] theorem withEcho_fireClear : (s.withEcho b).fireClear = s.fireClear.withEcho b := by
  have hst : ∀ t l d, (State.withEcho t d).forStations l (fun i t => t.modStation i fun st => { st with trip := none }) =
      (t.forStations l fun i t => t.modStation i fun st => { st with trip := none }).withEcho d :=
    fun t l d => withEcho_forStations t d l _ fun _ _ _ => rfl
  simp only [State.fireClear, withEcho_fire, withEcho_setFireRecord, hst]
  exact withEcho_forHouses _ b _ _ fun _ _ _ => rfl

theorem withEcho_boundByTrip (p : StationId → Bool) :
    (s.withEcho b).boundByTrip p i = (s.boundByTrip p i).withEcho b := by
  simp only [State.boundByTrip, withEcho_fire, withEcho_station, withEcho_modStation, withEcho_ite]

theorem withEcho_suspendAtReset : (s.withEcho b).suspendAtReset h = (s.suspendAtReset h).withEcho b := by
  simp only [State.suspendAtReset, withEcho_fire, withEcho_mode, withEcho_modHouse, withEcho_ite]

theorem withEcho_reRead : (s.withEcho b).reRead = s.reRead.withEcho b := rfl

theorem withEcho_reBound : (s.withEcho b).reBound = s.reBound.withEcho b := by
  rw [State.reBound, withEcho_reRead, State.reBound, withEcho_station]
  exact withEcho_forStations _ b _ _ fun k u c => withEcho_boundByTrip u c k _

@[simp] theorem withEcho_boothReset : (s.withEcho b).boothReset = s.boothReset.withEcho b := by
  rw [State.boothReset_eq, withEcho_reBound, State.boothReset_eq]
  exact withEcho_forHouses _ b _ _ fun k u c => withEcho_suspendAtReset u c k

end Operations

/-! ### The answers -/

/-- An answered state with the echo set to `b`. -/
def echoed (p : State × Reply) (b : Bool) : State × Reply := (p.1.withEcho b, p.2)

/-- An answer that neither reads the echo nor sets it. -/
def EchoFree (a : Answer) : Prop := ∀ s b, a (s.withEcho b) = echoed (a s) b

@[simp] theorem echoed_mk (t : State) (r : Reply) (b : Bool) : echoed (t, r) b = (t.withEcho b, r) := rfl

@[simp] theorem refuse_withEcho (s : State) (c : ErrorCode) (b : Bool) :
    refuse (s.withEcho b) c = echoed (refuse s c) b := rfl

@[simp] theorem echoed_ite (c : Prop) [Decidable c] (p q : State × Reply) (b : Bool) :
    echoed (if c then p else q) b = if c then echoed p b else echoed q b := apply_ite (echoed · b) c p q

/-- The checks of an answer, the same for both states, and then its act. -/
theorem checked_withEcho {checks : List (Bool × ErrorCode)} {act act' : Answer} {s : State} {b : Bool}
    (hact : act' (s.withEcho b) = echoed (act s) b) :
    checked checks act' (s.withEcho b) = echoed (checked checks act s) b := by
  unfold checked
  cases firstRefusal checks with
  | none => exact hact
  | some c => rfl

theorem EchoFree.onStation {n : Int} {f : StationId → Answer} (hf : ∀ i, EchoFree (f i)) : EchoFree (onStation n f) := by
  intro s b
  unfold Machine.onStation
  cases StationId.ofInt? n with
  | none => rfl
  | some i => exact hf i s b

theorem EchoFree.onHouse {n : Int} {f : HouseId → Answer} (hf : ∀ h, EchoFree (f h)) : EchoFree (onHouse n f) := by
  intro s b
  unfold Machine.onHouse
  cases HouseId.ofInt? n with
  | none => rfl
  | some h => exact hf h s b

theorem EchoFree.onEntry {n p : Int} {f : HouseId → Nat → Entry → Answer} (hf : ∀ h k e, EchoFree (f h k e)) :
    EchoFree (onEntry n p f) :=
  EchoFree.onHouse fun h s b => by
    simp only [withEcho_house]
    split_ifs
    · cases (s.house h).queue[(p - 1).toNat]? with
      | none => rfl
      | some e => exact hf h _ e s b
    · rfl

end Sys2Proof.Machine

/-!
PROOF LAYER. Every console command answers alike whatever the echo setting (`answer_echoFree`).
-/

namespace Sys2Proof.Machine

/-! ### Stations -/

theorem answerSq_echoFree (n : Int) : EchoFree (answerSq n) := EchoFree.onStation fun _ _ _ => rfl

theorem answerMo_echoFree (n : Int) (on : Bool) : EchoFree (answerMo n on) := EchoFree.onStation fun i s b => by
  refine checked_withEcho ?_
  have hstart : (s.withEcho b).startMotorThen i id = (s.startMotorThen i id).withEcho b :=
    withEcho_startMotorThen s b i id fun _ _ => rfl
  simp only [withEcho_startRefusal, hstart, withEcho_stopMotor, refuse_withEcho, echoed_ite, echoed_mk]
  cases s.startRefusal i <;> rfl

theorem answerDo_echoFree (n : Int) (toOpen : Bool) : EchoFree (answerDo n toOpen) := EchoFree.onStation fun i s b => by
  refine checked_withEcho ?_
  simp only [withEcho_douserRefusal, withEcho_openDemand, withEcho_closeDemand, refuse_withEcho, echoed_ite, echoed_mk]
  cases s.douserRefusal i <;> rfl

theorem answerIm_echoFree (n : Int) (d : Door) (m : DoorMode) : EchoFree (answerIm n d m) :=
  EchoFree.onStation fun i s b => by
    refine checked_withEcho ?_
    cases d <;>
      simp only [withEcho_station, withEcho_modStation, withEcho_enforceLd, withEcho_enforceMd, echoed_ite, echoed_mk]

theorem answerSr_echoFree (n : Int) : EchoFree (answerSr n) := EchoFree.onStation fun i s b =>
  checked_withEcho (by simp only [withEcho_station, withEcho_dropBinding, withEcho_modStation, withEcho_readyTest, echoed_mk])

theorem answerSa_echoFree (n m : Int) : EchoFree (answerSa n m) :=
  EchoFree.onStation fun _ => EchoFree.onHouse fun _ _ _ => checked_withEcho rfl

/-! ### The running order -/

theorem answerPa_echoFree (n : Int) (e : EntryArgs) : EchoFree (answerPa n e) := fun _ _ =>
  checked_withEcho <| EchoFree.onHouse (fun h s b =>
    checked_withEcho (by simp only [withEcho_house, withEcho_insertEntry, echoed_mk])) _ _

theorem answerPi_echoFree (n p : Int) (e : EntryArgs) : EchoFree (answerPi n p e) := fun _ _ =>
  checked_withEcho <| EchoFree.onHouse (fun h s b =>
    checked_withEcho (by simp only [withEcho_insertEntry, echoed_mk])) _ _

theorem answerPd_echoFree (n p : Int) : EchoFree (answerPd n p) :=
  EchoFree.onEntry fun _ _ _ _ _ => checked_withEcho rfl

theorem answerPc_echoFree (n : Int) : EchoFree (answerPc n) := EchoFree.onHouse fun h s b =>
  checked_withEcho (by simp only [withEcho_house, withEcho_clearBindings, withEcho_modHouse, echoed_mk])

theorem answerPq_echoFree (n p : Int) : EchoFree (answerPq n p) := EchoFree.onEntry fun _ _ _ _ _ => rfl

theorem answerTh_echoFree (n p : Int) : EchoFree (answerTh n p) := EchoFree.onStation fun i s b => by
  refine checked_withEcho ?_
  simp only [withEcho_station, withEcho_house, withEcho_threadBlocked, withEcho_modQueue, withEcho_threadCounter,
    withEcho_readyTest, refuse_withEcho]
  split <;> simp only [echoed_ite, echoed_mk]

theorem answerUt_echoFree (n : Int) : EchoFree (answerUt n) := EchoFree.onStation fun i s b => by
  refine checked_withEcho ?_
  simp only [withEcho_station, withEcho_house, withEcho_boundEntry, withEcho_removeEntry, withEcho_modQueue,
    withEcho_holdCounter, withEcho_readyTest, refuse_withEcho]
  split <;> simp only [echoed_ite, echoed_mk]

/-! ### The show -/

theorem answerGo_echoFree (n : Int) : EchoFree (answerGo n) := EchoFree.onHouse fun h s b => by
  simp only [withEcho_goCheck, withEcho_startSequence, refuse_withEcho]
  split <;> rfl

theorem answerEn_echoFree (n : Int) : EchoFree (answerEn n) := EchoFree.onHouse fun h s b =>
  checked_withEcho (by simp only [withEcho_endShow, echoed_mk])

theorem answerCo_echoFree (n : Int) : EchoFree (answerCo n) := EchoFree.onHouse fun h s b => by
  have hmake : (s.withEcho b).makeChange (fun t => t.testReel h) h = (s.makeChange (fun t => t.testReel h) h).withEcho b :=
    withEcho_makeChange s b h fun t c => withEcho_testReel t c h
  simp only [withEcho_manualChangeReady, hmake, refuse_withEcho, echoed_ite, echoed_mk]

theorem answerHq_echoFree (n : Int) : EchoFree (answerHq n) := EchoFree.onHouse fun _ _ _ => rfl

theorem answerHf_echoFree (n : Int) : EchoFree (answerHf n) := EchoFree.onHouse fun h s b => by
  simp only [withEcho_house, withEcho_modHouse]
  split <;> rfl

theorem answerHa_echoFree (n : Int) : EchoFree (answerHa n) := EchoFree.onHouse fun _ _ _ => checked_withEcho rfl

theorem answerHs_echoFree (n : Int) (arg : Option SettingArg) : EchoFree (answerHs n arg) :=
  EchoFree.onHouse fun _ _ _ => by cases arg <;> rfl

/-! ### The clock -/

theorem answerCk_echoFree (hh mm : Int) (ss : Option Int) : EchoFree (answerCk hh mm ss) := fun s b => by
  simp only [answerCk]
  exact checked_withEcho rfl

theorem answerAt_echoFree (n : Int) (arg : AlarmArg) : EchoFree (answerAt n arg) := EchoFree.onHouse fun h s b => by
  cases arg with
  | off => rfl
  | arm hh mm => exact checked_withEcho rfl

theorem answerCq_echoFree : EchoFree answerCq := fun _ _ => rfl

/-! ### The lamps and the strike supply -/

theorem answerLs_echoFree (n : Int) : EchoFree (answerLs n) := EchoFree.onStation fun i s b => by
  simp only [withEcho_strikeRefusal, withEcho_takeStrike, refuse_withEcho]
  split <;> rfl

theorem answerLx_echoFree (n : Int) : EchoFree (answerLx n) := EchoFree.onStation fun i s b =>
  checked_withEcho (by simp only [withEcho_endJog, withEcho_consoleExtinguish, echoed_mk])

theorem answerLc_echoFree (n len : Int) : EchoFree (answerLc n len) := EchoFree.onStation fun i s b => by
  refine checked_withEcho ?_
  simp only [withEcho_station, withEcho_recordCarbon, refuse_withEcho]
  split <;> rfl

theorem answerLf_echoFree (n count : Int) : EchoFree (answerLf n count) :=
  EchoFree.onStation fun _ _ _ => checked_withEcho rfl

theorem answerLp_echoFree (n : Int) (arg : ParamArg) : EchoFree (answerLp n arg) := EchoFree.onStation fun i s b => by
  refine checked_withEcho ?_
  simp only [withEcho_station, withEcho_modChannel, refuse_withEcho]
  split <;> rfl

theorem answerLq_echoFree (n : Int) : EchoFree (answerLq n) := EchoFree.onStation fun _ _ _ => rfl

theorem answerSp_echoFree (mode : Option OrderMode) : EchoFree (answerSp mode) := fun _ _ => by cases mode <;> rfl

/-! ### The house lights -/

theorem answerLv_echoFree (n : Int) (arg : LightArg) : EchoFree (answerLv n arg) :=
  EchoFree.onHouse fun _ _ _ => by cases arg <;> rfl

theorem answerLr_echoFree (n : Int) : EchoFree (answerLr n) := EchoFree.onHouse fun h s b => by
  simp only [withEcho_house, withEcho_modLight, refuse_withEcho, echoed_ite, echoed_mk]

theorem answerPu_echoFree : EchoFree answerPu := fun s b =>
  congrArg (·, Reply.ok) (withEcho_forHouses s b _ _ fun _ _ _ => rfl)

/-! ### The fire monitor and the booth -/

theorem answerFq_echoFree : EchoFree answerFq := fun s b => by
  simp only [answerFq, withEcho_fire]
  split <;> rfl

theorem answerFc_echoFree : EchoFree answerFc := fun s b =>
  checked_withEcho (by simp only [withEcho_fireClear, echoed_mk])

theorem answerFt_echoFree : EchoFree answerFt := fun s b => by
  simp only [answerFt, withEcho_boothTrip, echoed_mk]

theorem answerSs_echoFree : EchoFree answerSs := fun _ _ => rfl

theorem answerAk_echoFree : EchoFree answerAk := fun _ _ => rfl

theorem answerRs_echoFree : EchoFree answerRs := fun s b =>
  checked_withEcho (by simp only [withEcho_boothReset, echoed_mk])

/-- No command that can be answered reads the echo or sets it (R172). -/
theorem answer_echoFree (i : Instr) : EchoFree (answer i) := by
  cases i with
  | sq n => exact answerSq_echoFree n
  | mo n on => exact answerMo_echoFree n on
  | doDouser n toOpen => exact answerDo_echoFree n toOpen
  | im n d m => exact answerIm_echoFree n d m
  | sr n => exact answerSr_echoFree n
  | sa n m => exact answerSa_echoFree n m
  | pa n e => exact answerPa_echoFree n e
  | pi n p e => exact answerPi_echoFree n p e
  | pd n p => exact answerPd_echoFree n p
  | pc n => exact answerPc_echoFree n
  | pq n p => exact answerPq_echoFree n p
  | th n p => exact answerTh_echoFree n p
  | ut n => exact answerUt_echoFree n
  | go n => exact answerGo_echoFree n
  | en n => exact answerEn_echoFree n
  | co n => exact answerCo_echoFree n
  | hq n => exact answerHq_echoFree n
  | hf n => exact answerHf_echoFree n
  | ha n => exact answerHa_echoFree n
  | hs n a => exact answerHs_echoFree n a
  | ck hh mm ss => exact answerCk_echoFree hh mm ss
  | cq => exact answerCq_echoFree
  | atAlarm n a => exact answerAt_echoFree n a
  | ls n => exact answerLs_echoFree n
  | lx n => exact answerLx_echoFree n
  | lc n len => exact answerLc_echoFree n len
  | lf n k => exact answerLf_echoFree n k
  | lp n a => exact answerLp_echoFree n a
  | lq n => exact answerLq_echoFree n
  | sp m => exact answerSp_echoFree m
  | lv n a => exact answerLv_echoFree n a
  | lr n => exact answerLr_echoFree n
  | pu => exact answerPu_echoFree
  | fq => exact answerFq_echoFree
  | fc => exact answerFc_echoFree
  | ft => exact answerFt_echoFree
  | ss => exact answerSs_echoFree
  | ak => exact answerAk_echoFree
  | rs => exact answerRs_echoFree
  | _ => exact fun _ _ => rfl

end Sys2Proof.Machine

/-!
The character timer and the end of a reply (R170 to R172). A waiting line is answered with no echo of its CR ahead of the
reply, which is what its command's row does with the echo OFF.
-/

namespace Sys2Proof.Machine

/-! ### Lines spell console commands -/

/-- What is read, if anything is, is a console command. -/
def ReadsConsole (o : Option Instr) : Prop := ∀ i, o = some i → i.isConsole = true

namespace ReadsConsole

theorem none : ReadsConsole none := fun _ h => nomatch h

theorem some {i : Instr} (h : i.isConsole = true) : ReadsConsole (some i) := fun _ hi => Option.some.inj hi ▸ h

theorem ite {c : Prop} [Decidable c] {o p : Option Instr} (ho : ReadsConsole o) (hp : ReadsConsole p) :
    ReadsConsole (if c then o else p) := by
  split <;> assumption

theorem bind {α : Type} (o : Option α) {f : α → Option Instr} (hf : ∀ a, ReadsConsole (f a)) : ReadsConsole (o >>= f) := by
  cases o with
  | none => exact none
  | some a => exact hf a

theorem map {α : Type} (o : Option α) {f : α → Instr} (hf : ∀ a, (f a).isConsole = true) : ReadsConsole (o.map f) := by
  cases o with
  | none => exact none
  | some a => exact some (hf a)

theorem noArgs {i : Instr} (h : i.isConsole = true) {args : List Text} : ReadsConsole (parse0 i args) := by
  unfold Sys2Proof.parse0
  split
  · exact some h
  · exact none

theorem oneArg {f : Int → Instr} (h : ∀ a, (f a).isConsole = true) {args : List Text} : ReadsConsole (parse1 f args) := by
  unfold Sys2Proof.parse1
  split
  · exact map _ h
  · exact none

theorem twoArgs {f : Int → Int → Instr} (h : ∀ a b, (f a b).isConsole = true) {args : List Text} :
    ReadsConsole (parse2 f args) := by
  unfold Sys2Proof.parse2
  split
  · exact bind _ fun a => bind _ fun b => some (h a b)
  · exact none

end ReadsConsole

/-- Every mnemonic of the command table spells a console command. -/
theorem parseCommand_isConsole (m : Text) (args : List Text) : ReadsConsole (parseCommand m args) := by
  unfold parseCommand
  refine .ite (.oneArg fun _ => rfl) <| .ite ?mo <| .ite ?doDouser <| .ite ?im <| .ite (.oneArg fun _ => rfl) <|
    .ite (.twoArgs fun _ _ => rfl) <| .ite ?pa <| .ite ?pi <| .ite (.twoArgs fun _ _ => rfl) <|
    .ite (.oneArg fun _ => rfl) <| .ite (.twoArgs fun _ _ => rfl) <| .ite (.twoArgs fun _ _ => rfl) <|
    .ite (.oneArg fun _ => rfl) <| .ite (.oneArg fun _ => rfl) <| .ite (.oneArg fun _ => rfl) <|
    .ite (.oneArg fun _ => rfl) <| .ite (.oneArg fun _ => rfl) <| .ite (.oneArg fun _ => rfl) <|
    .ite (.oneArg fun _ => rfl) <| .ite ?hs <| .ite ?ck <| .ite (.noArgs rfl) <| .ite ?atAlarm <|
    .ite (.oneArg fun _ => rfl) <| .ite (.oneArg fun _ => rfl) <| .ite (.twoArgs fun _ _ => rfl) <|
    .ite (.twoArgs fun _ _ => rfl) <| .ite ?lp <| .ite (.oneArg fun _ => rfl) <| .ite ?sp <| .ite ?lv <|
    .ite (.oneArg fun _ => rfl) <| .ite (.noArgs rfl) <| .ite (.noArgs rfl) <| .ite (.noArgs rfl) <|
    .ite (.noArgs rfl) <| .ite (.noArgs rfl) <| .ite (.noArgs rfl) <| .ite (.noArgs rfl) <| .none
  case mo =>
    split
    · exact .bind _ fun _ => .bind _ fun _ => .some rfl
    · exact .none
  case doDouser =>
    split
    · exact .bind _ fun _ => .ite (.some rfl) (.ite (.some rfl) .none)
    · exact .none
  case im =>
    split
    · exact .bind _ fun _ => .bind _ fun _ => .bind _ fun _ => .some rfl
    · exact .none
  case pa =>
    split
    · exact .bind _ fun _ => .bind _ fun _ => .some rfl
    · exact .none
  case pi =>
    split
    · exact .bind _ fun _ => .bind _ fun _ => .bind _ fun _ => .some rfl
    · exact .none
  case hs =>
    split
    · exact .map _ fun _ => rfl
    · exact .bind _ fun _ => .bind _ fun _ => .some rfl
    · exact .none
  case ck =>
    split
    · exact .bind _ fun _ => .bind _ fun _ => .some rfl
    · exact .bind _ fun _ => .bind _ fun _ => .bind _ fun _ => .some rfl
    · exact .none
  case atAlarm =>
    split
    · exact .bind _ fun _ => .ite (.some rfl) .none
    · exact .bind _ fun _ => .bind _ fun _ => .bind _ fun _ => .some rfl
    · exact .none
  case lp =>
    split
    · exact .bind _ fun _ => .bind _ fun _ => .some rfl
    · exact .none
  case sp =>
    split
    · exact .some rfl
    · exact .ite (.some rfl) (.ite (.some rfl) .none)
    · exact .none
  case lv =>
    split
    · exact .map _ fun _ => rfl
    · exact .bind _ fun _ => .bind _ fun _ => .some rfl
    · exact .bind _ fun _ => .bind _ fun _ => .bind _ fun _ => .some rfl
    · exact .none

theorem parseLine_isConsole (l : Text) : ReadsConsole (parseLine l) := by
  unfold parseLine
  refine .ite ?_ .none
  split
  · exact .none
  · exact parseCommand_isConsole _ _

/-! ### The end of a reply -/

theorem LineUnit.endReply_eq (l : LineUnit) : l.endReply =
    { l with
      transmit := .idle, tx := [], rsReply := false
      attention := l.attention && (!l.rsReply || l.sinceReset)
      timer := if l.timer = .notRunning then .notRunning else .running } := by
  have hattention : (if l.rsReply && !l.sinceReset then false else l.attention) =
      (l.attention && (!l.rsReply || l.sinceReset)) := by
    cases l.attention <;> cases l.rsReply <;> cases l.sinceReset <;> rfl
  simp only [LineUnit.endReply, hattention]
  cases l.timer <;> rfl

theorem execReplyEnd_waiting {s : State} {l : Line} (hsending : s.line.transmit = .sending)
    (hwaiting : s.line.waiting = some l) : exec .replyEnd s =
      .next (State.takeLine { s with line := { s.line.endReply with waiting := none } } [] l).settle := by
  have hexec : exec .replyEnd s = execReplyEnd s := rfl
  simp [hexec, execReplyEnd, hsending, hwaiting, done]

theorem execReplyEnd_owed {s : State} (hsending : s.line.transmit = .sending) (hwaiting : s.line.waiting = none)
    (howed : 0 < s.line.owed) : exec .replyEnd s =
      .next (State.startReply { s with line := { s.line.endReply with owed := s.line.owed - 1 } } [] (.no .by_)).settle := by
  have hexec : exec .replyEnd s = execReplyEnd s := rfl
  simp [hexec, execReplyEnd, hsending, hwaiting, howed, done]

theorem execReplyEnd_idle {s : State} (hsending : s.line.transmit = .sending) (hwaiting : s.line.waiting = none)
    (howed : s.line.owed = 0) : exec .replyEnd s = .next ({ s with line := s.line.endReply } : State).settle := by
  have hexec : exec .replyEnd s = execReplyEnd s := rfl
  simp [hexec, execReplyEnd, hsending, hwaiting, howed, done]

/-- A state keeps the echo through an answer. -/
theorem answer_withEcho_self (i : Instr) (s : State) : (answer i s).1.withEcho s.line.echo = (answer i s).1 :=
  (congrArg Prod.fst (answer_echoFree i s s.line.echo)).symm

/-- A command's row with the echo OFF is its answer with nothing ahead of the reply, the echo put back. -/
theorem exec_echoOff {i : Instr} {s : State} (hc : i.isConsole = true) (hfree : LineFree s) :
    ∃ u, exec i (s.withEcho false) = .next u ∧
      ((answer i s).1.startReply [] (answer i s).2).settle = u.withEcho s.line.echo := by
  refine ⟨_, exec_console_free hc hfree, ?_⟩
  rw [answer_echoFree i s false]
  conv_lhs => rw [← answer_withEcho_self i s]
  rfl

/-- Settles O10: a waiting line is refused by its marks or its form, or answered as its command's row answers it, with no
echo ahead. -/
theorem timeoutAndReplyEnd : Obligations.TimeoutAndReplyEnd := by
  intro s e he
  obtain rfl : e = s.line.endReply := he.trans s.line.endReply_eq.symm
  refine ⟨fun ht => ?_, fun ht => ?_, fun hsending hwaiting howed => ?_, fun hsending hwaiting howed => ?_,
    fun hidle => ?_, fun l hsending hwaiting => ⟨fun c hc => ?_, fun i hmarks hparse => ?_⟩⟩
  · have hexec : exec .characterTimeout s = execCharacterTimeout s := rfl
    rw [hexec, execCharacterTimeout, if_pos ht]
    exact ⟨_, rfl, changesOnly_startReply s _ _ _, rfl⟩
  · have hexec : exec .characterTimeout s = execCharacterTimeout s := rfl
    rw [hexec, execCharacterTimeout, if_neg ht]
    rfl
  · exact ⟨_, execReplyEnd_idle hsending hwaiting howed, changesOnly_line s _, rfl⟩
  · refine ⟨_, execReplyEnd_owed hsending hwaiting howed, changesOnly_startReply s _ _ _, ?_⟩
    have htimer : s.line.endReply.timer.suspend = if s.line.timer = .notRunning then .notRunning else .suspended := by
      unfold LineUnit.endReply
      cases s.line.timer <;> rfl
    rw [← htimer]
    rfl
  · have hexec : exec .replyEnd s = execReplyEnd s := rfl
    rw [hexec, execReplyEnd, if_neg (by simp [hidle])]
    rfl
  · rw [execReplyEnd_waiting hsending hwaiting]
    have htaken : ∀ t, State.takeLine t [] l = t.startReply [] (.no c) := fun t => by
      obtain ⟨hlost, herror, hoverlong, hclear⟩ := l.marks.refusal_cases
      obtain ⟨h, rfl⟩ | ⟨h, h', rfl⟩ | ⟨h, h', h'', rfl⟩ | ⟨h, hp, rfl⟩ := hc
      · exact t.takeLine_marked [] (hlost h)
      · exact t.takeLine_marked [] (herror h h')
      · exact t.takeLine_marked [] (hoverlong h h' h'')
      · exact t.takeLine_unreadable [] (by rw [h]; rfl) hp
    rw [htaken]
    exact ⟨_, rfl, changesOnly_startReply s _ _ _, rfl⟩
  · obtain ⟨u, hexec, hback⟩ := exec_echoOff (i := i) (s := { s with line := { s.line.endReply with waiting := none } })
      (parseLine_isConsole _ _ hparse) ⟨rfl, rfl⟩
    refine ⟨u, hexec, ?_⟩
    rw [execReplyEnd_waiting hsending hwaiting, State.takeLine_command _ _ (by rw [hmarks]; rfl) hparse, hback]
    rfl

end Sys2Proof.Machine
